-- ==== Sys2Proof/Word.lean ====
section
/-!
DEFINITION. The word types of the DK9648 model and the sparse table that holds everything numbered.

The part has no processor word of its own: a transaction carries bytes, the data plane carries 32-bit sample words
(07_samples_router.md R187), and most numbers of the dictionary are plain counts.
-/

namespace Sys2Proof

/-- One byte of a transaction, a frame or a memory. -/
abbrev Byte := BitVec 8

/-- The internal sample word, two's complement with 0 dBFS at 2^27 (R187). -/
abbrev Word := BitVec 32

/-- Numbered things of one kind, in rising number, without those that hold their default value. -/
abbrev Sparse (α : Type) := List (Nat × α)

end Sys2Proof
end

