-- ==== Sys2Proof/Syntax.lean ====
section
/-!
DEFINITION. The commands of the block: one constructor of `Instr` per row of spec/opcode_table.json, with the
operands its rule names, and the plain data those operands are made of.

The first operand of every command is the instant at which it happens, in nanoseconds since power-on.
-/

set_option autoImplicit false

namespace Sys2Proof

/-- The nine modes (R82). -/
inductive Mode where
  | ash | slate | indigo | amber | teal | ivory | cobalt | crimson | pearl
deriving DecidableEq, Repr

/-- A source of transactions (R50). A chain requester is known by its 64-bit unique ID. -/
inductive Requester where
  | internal
  | hspi
  | twb0
  | chain (uid : Nat)
deriving DecidableEq, Repr

/-- Who sends a transaction: the requester, the node number its frame carried (FFFFh off the chain, R74) and the
transaction identifier it chose (R54). -/
structure Req where
  who : Requester
  node : Nat
  tid : Nat
deriving DecidableEq, Repr

/-- The three synthesizers (R135). -/
inductive Syn where
  | a | b | s
deriving DecidableEq, Repr

/-- The directions of a serial port (R335). -/
inductive SapDir where
  | tx | rx
deriving DecidableEq, Repr

/-- The chain ports CHA and CHB (R363). -/
inductive ChPort where
  | cha | chb
deriving DecidableEq, Repr

/-- The multiplexers of R116. -/
inductive Mux where
  | control | ptp | hk | listen | pwm | chaRx | chbRx
  | sap (p : Nat) (dir : SapDir)
deriving DecidableEq, Repr

/-- The rails of R107, in the order of its table. -/
inductive Rail where
  | avdd33 | avddHv | avdd18 | vcore | vserdes | vdd2 | vddioA | vddioB | vddioC | vddioD
deriving DecidableEq, Repr

/-- The wake sources of R101; a beacon brings its hop count and its wake target (R103). -/
inductive WakeSource where
  | acoustic
  | beacon (hops target : Nat)
  | twb0
  | hspi
  | pin
deriving DecidableEq, Repr

/-- How a PMBus transfer on TWB1 ends (R105, R477): acknowledged, with the byte read by a VOUT_MODE read, or not. -/
inductive PmbusResult where
  | ack (data : Nat)
  | nack
deriving DecidableEq, Repr

/-- Everything that can be enabled and disabled on its own and reports a `STATE` (R35, R43). -/
inductive Func where
  | lane (n : Nat)
  | bus (b : Nat)
  | route (p : Nat)
  | input (n : Nat)
  | output (n : Nat)
  | hp (h : Nat)
  | pwm (n : Nat)
  | sapTx (p : Nat)
  | sapRx (p : Nat)
  | flowTx (f : Nat)
  | flowRx (r : Nat)
  | aes (a : Nat)
  | cap (c : Nat)
  | play (c : Nat)
  | delayLine (d : Nat)
  | link (l : Nat)
  | cko (n : Nat)
  | syn (x : Syn)
  | pd (i : Nat)
  | scan
  | listen
  | reader (r : Nat)
  | mem
  | selftest
deriving DecidableEq, Repr

/-- What a serial port sees (R337, R345, R357): a frame start, with the bit clocks since the previous one, or, for a
receive direction, the end of a frame with the bits of its slots, left-aligned to their width. -/
inductive PortEvent where
  | start (bits : Nat)
  | complete (slots : List Nat)
deriving DecidableEq, Repr

/-- The header of a Gendenlink frame (R367). `src` is the sender's unique ID as far as the source address carries it
(bytes 4 to 0). -/
structure FrameHdr where
  version : Nat
  kind : Nat
  cycle : Nat
  src : Nat
  srcNode : Nat
  dst : Nat
  hops : Nat
  flags : Nat
  field : Nat
deriving DecidableEq, Repr

/-- How the frame check sequence of an arriving frame reads (R364). -/
inductive Fcs where
  | good | inverted | bad
deriving DecidableEq, Repr

/-- A frame as the forwarding path sees it (R364, R368, R372): header, length from destination address to FCS, FCS. -/
structure ChainFrame where
  hdr : FrameHdr
  length : Nat
  fcs : Fcs
deriving DecidableEq, Repr

/-- A CYCLE_START (R370); the correction is in 2^-16 ns. -/
structure CycleStartFrame where
  hdr : FrameHdr
  time : Nat
  correction : Int
  presentation : Nat
  nodes : Nat
  topology : Nat
  rate : Nat
  headId : Nat
deriving DecidableEq, Repr

/-- An AUDIO frame (R382): for each sample, one word for each channel. -/
structure AudioFrame where
  hdr : FrameHdr
  words : List (List Word)
deriving DecidableEq, Repr

/-- A TRANSACTION or RESPONSE frame (R392). -/
structure TransFrame where
  hdr : FrameHdr
  requester : Nat
  target : Nat
  body : List Byte
deriving DecidableEq, Repr

/-- A TOPOLOGY frame (R373 to R376); its layout is the device's own. -/
inductive TopoMsg where
  | claim (uid prio : Nat) (ext : Bool)
  | enumerate (number : Nat)
  | joinRequest (uid retained : Nat)
  | joinGrant (uid number : Nat)
  | joinRefuse (uid cause : Nat)
  | linkReport (broken : Bool)
deriving DecidableEq, Repr

/-- A SHARE frame (R371): a request for a number of slots, or the head's answer with the slots still free. -/
inductive ShareMsg where
  | request (uid slots : Nat)
  | grant (uid slots free : Nat)
  | refuse (uid free : Nat)
deriving DecidableEq, Repr

/-- An RTP packet on an edge port (R395, R396): its addressing, payload type, timestamp and samples by channel. -/
structure RtpPacket where
  ip : Nat
  udp : Nat
  pt : Nat
  l16 : Bool
  timestamp : Nat
  words : List (List Word)
deriving DecidableEq, Repr


/-- What an input's converter gives for one sample (R153, R158, R170): the input number, its code in LSB of the 32-bit word before the
fine gain, whether the front end clipped it, and the words of its combiner at 8 × the base rate since the last tick of the domain, oldest first. -/
structure InConv where
  n : Nat
  code : Word
  clip : Bool
  comb : List Word
deriving DecidableEq, Repr

/-- What arrives from outside, or is missed, at one tick (R21): the input conversions, the mix buses that have not
finished their frame, the delay lines and capture and playback channels whose sample missed its buffer (R500). -/
structure TickEnv where
  inputs : List InConv
  lateBuses : List Nat
  lateLines : List Nat
  lateCaps : List Nat
  latePlays : List Nat
deriving DecidableEq, Repr

/-- Where a gain ramp under R260 runs. -/
inductive RampSite where
  | input (n : Nat)
  | output (n : Nat)
  | hp (h : Nat)
  | pwm (n : Nat)
  | bus (b : Nat)
  | contrib (b c : Nat)
  | link (l : Nat)
  | gen (g : Nat)
  | block (lane b : Nat)
  | pair
deriving DecidableEq, Repr

/-- A channel whose current limit is supervised (R317). -/
inductive LimitCh where
  | line (n : Nat)
  | hpL (h : Nat)
  | hpR (h : Nat)
deriving DecidableEq, Repr

/-- A pair message (R409) with what its frame says of the sender. -/
structure PairMsg where
  pair : Nat
  msg : Nat
  member : Nat
  epoch : Nat
  role : Nat
  mode : Nat
  health : Nat
deriving DecidableEq, Repr

/-- What one listening frame brings (R422 to R427): the 16 samples of each channel of the front end, the classifier's score, and the
strongest tone: its frequency in mHz, its level in 0.01 dBFS, and how far it stands above the rest of the band, in 0.01 dB. -/
structure ListenEnv where
  ch1 : List Word
  ch2 : List Word
  score : Nat
  tone : Nat
  level : Int
  above : Int
deriving DecidableEq, Repr

/-- A block write on TWB0 (R466, R467, R470): the count, the bytes that arrived, and the PEC that followed, if one did:
whether it is right. -/
structure TwbWrite where
  count : Nat
  bytes : List Byte
  pec : Option Bool
deriving DecidableEq, Repr

/-- How the attention word is read (R473): TWB0 command 14h, or 2300h.06 over a transaction. -/
inductive AttnVia where
  | twb0
  | object (q : Req) (len : Nat)
deriving DecidableEq, Repr

/-- When arbitration is lost (R475): in an address byte, in a data byte, at a STOP or at a repeated START. -/
inductive ArbPhase where
  | address (own : Bool)
  | data
  | stop
  | restart
deriving DecidableEq, Repr

/-- A boot record (R487). -/
structure BootRecord where
  index : Nat
  sub : Nat
  block : Bool
  data : List Byte
deriving DecidableEq, Repr

/-- A firmware image as the boot ROM reads it (R484 to R486): the source it came from (1 slot 0, 2 slot 1, 3 push),
whether its header fields are valid and its signature verifies, the hash of its key, its versions and its records; and
how the sources tried before it failed. -/
structure BootImage where
  source : Nat
  headerOk : Bool
  signatureOk : Bool
  keyHash : List Byte
  fwVersion : Nat
  secVersion : Nat
  records : List BootRecord
  noFlash : Bool
  slot0Bad : Bool
  slot1Bad : Bool
deriving DecidableEq, Repr

/-- Why the memory interface stops (R509). -/
inductive MemCause where
  | train | clock | supply | thermal | power
deriving DecidableEq, Repr

/-- A command: one constructor per row of spec/opcode_table.json, in its order. -/
inductive Instr where
  /-- TRANSACTION_ARRIVE (R61). -/
  | transactionArrive (t : Nat) (q : Req) (body : List Byte)
  /-- READ (R54). -/
  | read (t : Nat) (q : Req) (index sub len : Nat)
  /-- WRITE (R63). -/
  | write (t : Nat) (q : Req) (index sub : Nat) (data : List Byte)
  /-- STAGE (R64). -/
  | stage (t : Nat) (q : Req) (index sub : Nat) (data : List Byte)
  /-- BLOCK_READ (R57). -/
  | blockRead (t : Nat) (q : Req) (index sub offset len : Nat)
  /-- BLOCK_WRITE (R57). -/
  | blockWrite (t : Nat) (q : Req) (index sub offset : Nat) (seg : List Byte)
  /-- UNKNOWN_OP (R54). -/
  | unknownOp (t : Nat) (q : Req) (op : Nat)
  /-- COMMIT (R65). -/
  | commit (t : Nat) (q : Req)
  /-- DISCARD (R69). -/
  | discard (t : Nat) (q : Req)
  /-- STAGE_TIMEOUT (R69). -/
  | stageTimeout (t : Nat) (who : Requester)
  /-- BLOCK_OPEN (R58). -/
  | blockOpen (t : Nat) (q : Req) (index : Nat) (data : List Byte)
  /-- BLOCK_CLOSE (R57). -/
  | blockClose (t : Nat) (q : Req) (index : Nat) (stage : Bool) (data : List Byte)
  /-- LOCK (R52). -/
  | lock (t : Nat) (q : Req)
  /-- READ_FROM (R80). -/
  | readFrom (t : Nat) (q : Req) (data : List Byte)
  /-- ENTRIES_READ (R80). -/
  | entriesRead (t : Nat) (q : Req) (len : Nat)
  /-- MIRROR_COPY (R77). -/
  | mirrorCopy (t : Nat)
  /-- MIRROR_RESUME (R77). -/
  | mirrorResume (t : Nat)
  /-- JOURNAL_PUSH (R78). -/
  | journalPush (t : Nat)
  /-- JOURNAL_PUSH_RESEND (R394). -/
  | journalPushResend (t : Nat)
  /-- JOURNAL_ACK (R394). -/
  | journalAck (t : Nat) (epoch ackSeq : Nat)
  /-- TICK (R21). -/
  | tick (t : Nat) (d : Nat) (env : TickEnv)
  /-- FABRIC_PART_APPLY (R245). -/
  | fabricPartApply (t : Nat) (d : Nat)
  /-- LANE_FRAME_FINISH (R25). -/
  | laneFrameFinish (t : Nat) (n : Nat)
  /-- DRAIN_COMPLETE (R36). -/
  | drainComplete (t : Nat) (f : Func)
  /-- FUNCTION_RAMP_END (R38). -/
  | functionRampEnd (t : Nat) (f : Func)
  /-- QUIESCE_FORCED (R39). -/
  | quiesceForced (t : Nat) (f : Func)
  /-- START_PENDING_START (R40). -/
  | startPendingStart (t : Nat) (f : Func)
  /-- GAIN_RAMP_END (R260). -/
  | gainRampEnd (t : Nat) (site : RampSite)
  /-- CROSSFADE_END (R203). -/
  | crossfadeEnd (t : Nat) (p : Nat)
  /-- TARGET_MODE (R85). -/
  | targetMode (t : Nat) (q : Req) (data : List Byte)
  /-- DESCENT_BEGIN (R86). -/
  | descentBegin (t : Nat)
  /-- DOMAIN_SWITCH_OFF (R86). -/
  | domainSwitchOff (t : Nat)
  /-- MODE_ADVANCE (R85). -/
  | modeAdvance (t : Nat)
  /-- WAKE_SOURCE_FIRE (R101). -/
  | wakeSourceFire (t : Nat) (src : WakeSource)
  /-- STAGGER_END (R102). -/
  | staggerEnd (t : Nat)
  /-- RESET_N_LOW (R100). -/
  | resetNLow (t : Nat)
  /-- RESET_CLAMP_END (R100). -/
  | resetClampEnd (t : Nat)
  /-- RESET_N_HIGH (R99). -/
  | resetNHigh (t : Nat) (banks addr : Nat)
  /-- AVDD33_LOW (R100). -/
  | avdd33Low (t : Nat)
  /-- POWER_ON (R551). -/
  | powerOn (t : Nat) (epoch : Nat)
  /-- GOVERNOR_WINDOW (R97). -/
  | governorWindow (t : Nat)
  /-- DOMAIN_POWER_GOOD (R96). -/
  | domainPowerGood (t : Nat) (pd : Nat)
  /-- DOMAIN_FAULT (R96). -/
  | domainFault (t : Nat) (pd : Nat)
  /-- KEEP_OFF (R96). -/
  | keepOff (t : Nat) (q : Req) (pd : Nat) (data : List Byte)
  /-- XO_NO_START (R92). -/
  | xoNoStart (t : Nat)
  /-- SUPPLY_TRIP (R107). -/
  | supplyTrip (t : Nat) (rail : Rail)
  /-- SUPPLY_CLEAR (R107). -/
  | supplyClear (t : Nat) (rail : Rail)
  /-- CRIMSON_RESUME (R95). -/
  | crimsonResume (t : Nat)
  /-- CRIMSON_ACK (R95). -/
  | crimsonAck (t : Nat) (q : Req)
  /-- CRIMSON_CAUSE_READ (R93). -/
  | crimsonCauseRead (t : Nat) (q : Req) (len : Nat)
  /-- AVS_HOLD_END (R104). -/
  | avsHoldEnd (t : Nat)
  /-- AVS_EVALUATE (R104). -/
  | avsEvaluate (t : Nat)
  /-- PMBUS_ACK (R105). -/
  | pmbusAck (t : Nat) (res : PmbusResult)
  /-- PMBUS_RETRY (R105). -/
  | pmbusRetry (t : Nat)
  /-- AVS_LOST_RETRY (R105). -/
  | avsLostRetry (t : Nat)
  /-- CEILING (R106). -/
  | ceiling (t : Nat) (q : Req) (data : List Byte)
  /-- XO_AMPLITUDE (R110). -/
  | xoAmplitude (t : Nat) (on : Bool)
  /-- XO_STABILITY_COUNT_DONE (R110). -/
  | xoStabilityCountDone (t : Nat) (rcoCount : Nat)
  /-- XO_MISSING_EDGE (R126). -/
  | xoMissingEdge (t : Nat)
  /-- FORCE_SWITCH (R120). -/
  | forceSwitch (t : Nat) (q : Req) (index sub : Nat)
  /-- MUX_SWITCH_COMPLETE (R117). -/
  | muxSwitchComplete (t : Nat) (m : Mux)
  /-- MUX_SOURCE_EDGES (R118). -/
  | muxSourceEdges (t : Nat) (m : Mux)
  /-- MUX_HANG (R119). -/
  | muxHang (t : Nat) (m : Mux)
  /-- GATE_CLOSE (R122). -/
  | gateClose (t : Nat) (cd : Nat)
  /-- PWM_SPREAD_UPDATE (R132). -/
  | pwmSpreadUpdate (t : Nat)
  /-- SYN_ACQUISITION_START (R137). -/
  | synAcquisitionStart (t : Nat) (x : Syn)
  /-- SYN_LOCK (R141). -/
  | synLock (t : Nat) (x : Syn) (pin window : Bool)
  /-- SYN_UNLOCK (R142). -/
  | synUnlock (t : Nat) (x : Syn) (refLost : Bool)
  /-- SYN_REACQUIRE (R143). -/
  | synReacquire (t : Nat) (x : Syn)
  /-- SYN_ACQUISITION_FAIL (R143). -/
  | synAcquisitionFail (t : Nat) (x : Syn)
  /-- SYN_FAULT_RETRY (R143). -/
  | synFaultRetry (t : Nat) (x : Syn)
  /-- REF_SCALE (R144). -/
  | refScale (t : Nat) (q : Req) (x : Syn) (data : List Byte)
  /-- LEADER (R147). -/
  | leader (t : Nat) (q : Req) (loop : Nat) (data : List Byte)
  /-- LOOP_UPDATE (R147). -/
  | loopUpdate (t : Nat) (loop : Nat)
  /-- LOOP_ACQUIRE_END (R147). -/
  | loopAcquireEnd (t : Nat) (loop : Nat)
  /-- LOOP_HOLDOVER (R147). -/
  | loopHoldover (t : Nat) (loop : Nat)
  /-- CKO_CHANGE (R151). -/
  | ckoChange (t : Nat) (n : Nat)
  /-- COMBINER_CROSSFADE (R158). -/
  | combinerCrossfade (t : Nat) (n : Nat)
  /-- COMBINER_RETURN (R158). -/
  | combinerReturn (t : Nat) (n : Nat)
  /-- INPUT_OVERLOAD (R171). -/
  | inputOverload (t : Nat) (n : Nat)
  /-- INPUT_OVERLOAD_RECOVERY (R171). -/
  | inputOverloadRecovery (t : Nat) (n : Nat)
  /-- INPUT_CLAMP_ENGAGE (R172). -/
  | inputClampEngage (t : Nat) (n : Nat)
  /-- INPUT_CLAMP_RELEASE (R172). -/
  | inputClampRelease (t : Nat) (n : Nat)
  /-- REFERENCE_SETTLED (R174). -/
  | referenceSettled (t : Nat) (g : Nat)
  /-- REF_FAULT (R176). -/
  | refFault (t : Nat) (g : Nat)
  /-- REF_RECOVER (R176). -/
  | refRecover (t : Nat) (g : Nat)
  /-- OVER_LATCH (R173). -/
  | overLatch (t : Nat) (q : Req) (n : Nat) (data : List Byte)
  /-- PHANTOM_FRAME (R182). -/
  | phantomFrame (t : Nat) (faults : Nat)
  /-- PH_ALERT (R182). -/
  | phAlert (t : Nat) (faults : List Nat)
  /-- PH_SETTLE_END (R183). -/
  | phSettleEnd (t : Nat) (n : Nat)
  /-- ASRC_ACQUIRED (R216). -/
  | asrcAcquired (t : Nat) (ch : Nat)
  /-- ASRC_UNLOCK (R217). -/
  | asrcUnlock (t : Nat) (ch : Nat)
  /-- LAYOUT_RESTART (R213). -/
  | layoutRestart (t : Nat)
  /-- BLOCK_LIVE_VALUE (R251). -/
  | blockLiveValue (t : Nat) (q : Req) (lane block : Nat) (data : List Byte)
  /-- METER_PERIOD (R275). -/
  | meterPeriod (t : Nat) (d : Nat)
  /-- METER_READ (R275). -/
  | meterRead (t : Nat) (q : Req) (index sub len : Nat)
  /-- CM_READY (R313). -/
  | cmReady (t : Nat) (bank : Nat)
  /-- CM_FALL_END (R313). -/
  | cmFallEnd (t : Nat) (bank : Nat)
  /-- HP_BIAS_READY (R315). -/
  | hpBiasReady (t : Nat)
  /-- HP_BIAS_FALL_END (R315). -/
  | hpBiasFallEnd (t : Nat)
  /-- OUT_MODE_SWITCH (R298). -/
  | outModeSwitch (t : Nat) (pair : Nat)
  /-- CURRENT_LIMIT_WINDOW (R317). -/
  | currentLimitWindow (t : Nat) (ch : LimitCh) (active : Bool)
  /-- SC_RETRY (R317). -/
  | scRetry (t : Nat) (f : Func)
  /-- FAULT_CLEAR (R317). -/
  | faultClear (t : Nat) (q : Req) (index : Nat)
  /-- JACK_EDGE (R324). -/
  | jackEdge (t : Nat) (n : Nat)
  /-- JACK_DEBOUNCE_END (R324). -/
  | jackDebounceEnd (t : Nat) (n : Nat)
  /-- JACK_MEASURE_END (R324). -/
  | jackMeasureEnd (t : Nat) (n loadL loadR : Nat)
  /-- JACK_REMOVE (R326). -/
  | jackRemove (t : Nat) (n : Nat)
  /-- JACK_ACTION (R326). -/
  | jackAction (t : Nat) (q : Req) (n : Nat) (polarity : Bool) (data : List Byte)
  /-- PWM_EN_LEAD_END (R330). -/
  | pwmEnLeadEnd (t : Nat) (n : Nat)
  /-- PWM_EN_SETTLE_END (R330). -/
  | pwmEnSettleEnd (t : Nat) (n : Nat)
  /-- PWM_STOP_LEAD_END (R331). -/
  | pwmStopLeadEnd (t : Nat) (n : Nat)
  /-- PWM_EDGE_EVENT (R332). -/
  | pwmEdgeEvent (t : Nat) (n : Nat)
  /-- PORT_FRAME (R345). -/
  | portFrame (t : Nat) (p : Nat) (dir : SapDir) (ev : PortEvent)
  /-- SAP_CLOCK_LOST (R357). -/
  | sapClockLost (t : Nat) (p : Nat) (dir : SapDir)
  /-- LINK_UP (R365). -/
  | linkUp (t : Nat) (port : ChPort)
  /-- LINK_DOWN (R365). -/
  | linkDown (t : Nat) (port : ChPort)
  /-- HELLO_SEND (R365). -/
  | helloSend (t : Nat) (port : ChPort)
  /-- HELLO (R365). -/
  | hello (t : Nat) (port : ChPort) (uid node headUid headPrio rate : Nat)
  /-- EDGE_TIMEOUT (R365). -/
  | edgeTimeout (t : Nat) (port : ChPort)
  /-- HEAD_CLAIM (R373). -/
  | headClaim (t : Nat)
  /-- HEAD_ELECTION (R373). -/
  | headElection (t : Nat)
  /-- TOPOLOGY (R374). -/
  | topology (t : Nat) (port : ChPort) (msg : TopoMsg)
  /-- CYCLE_START_SEND (R370). -/
  | cycleStartSend (t : Nat)
  /-- CYCLE_START (R379). -/
  | cycleStart (t : Nat) (port : ChPort) (f : CycleStartFrame)
  /-- AUDIO (R384). -/
  | audio (t : Nat) (port : ChPort) (f : AudioFrame)
  /-- FRAME_FORWARD (R372). -/
  | frameForward (t : Nat) (port : ChPort) (f : ChainFrame)
  /-- TRANSACTION (R392). -/
  | transaction (t : Nat) (port : ChPort) (f : TransFrame)
  /-- PEER_DELAY (R378). -/
  | peerDelay (t : Nat) (port : ChPort) (ns : Nat)
  /-- CHAIN_JOIN (R375). -/
  | chainJoin (t : Nat)
  /-- JOIN_RETRY (R375). -/
  | joinRetry (t : Nat)
  /-- NODE_RELEASE (R375). -/
  | nodeRelease (t : Nat) (node : Nat)
  /-- CHAIN_HOLDOVER (R380). -/
  | chainHoldover (t : Nat)
  /-- CHAIN_SYNC_LOSS (R380). -/
  | chainSyncLoss (t : Nat)
  /-- SHARE_REQUEST (R371). -/
  | shareRequest (t : Nat) (q : Req) (data : List Byte)
  /-- SHARE (R371). -/
  | share (t : Nat) (msg : ShareMsg)
  /-- PRESENTATION_CHANGE (R381). -/
  | presentationChange (t : Nat)
  /-- FLOW_LOST (R384). -/
  | flowLost (t : Nat) (r : Nat)
  /-- ALT_SOURCE_SWITCH (R386). -/
  | altSourceSwitch (t : Nat) (r : Nat)
  /-- AES67_PACKET (R396). -/
  | aes67Packet (t : Nat) (port : ChPort) (p : RtpPacket)
  /-- SEND_BEACON (R398). -/
  | sendBeacon (t : Nat) (q : Req) (data : List Byte)
  /-- BEACON_REQUEST (R398). -/
  | beaconRequest (t : Nat) (port : ChPort) (target : Nat)
  /-- BEACON_RECEIVE (R103). -/
  | beaconReceive (t : Nat) (port : ChPort) (target hops : Nat) (checkOk : Bool)
  /-- HEARTBEAT_SEND (R410). -/
  | heartbeatSend (t : Nat)
  /-- HEARTBEAT (R411). -/
  | heartbeat (t : Nat) (m : PairMsg)
  /-- ARB_BEAT (R404). -/
  | arbBeat (t : Nat) (m : PairMsg)
  /-- REVOKE (R415). -/
  | revoke (t : Nat) (m : PairMsg)
  /-- RELEASED (R412). -/
  | released (t : Nat) (m : PairMsg)
  /-- HEARTBEAT_WINDOW (R411). -/
  | heartbeatWindow (t : Nat) (pair member : Nat)
  /-- PEER_ACT_IN (R408). -/
  | peerActIn (t : Nat) (high : Bool)
  /-- INTERLOCK_WAIT_END (R407). -/
  | interlockWaitEnd (t : Nat)
  /-- REVOKE_TIMEOUT (R412). -/
  | revokeTimeout (t : Nat) (pair : Nat)
  /-- SELF_RELEASE (R412). -/
  | selfRelease (t : Nat)
  /-- ARBITER_LOST (R412). -/
  | arbiterLost (t : Nat)
  /-- TAKEOVER_RAMP_START (R414). -/
  | takeoverRampStart (t : Nat)
  /-- SELF_CHECK_PASS (R413). -/
  | selfCheckPass (t : Nat)
  /-- REVERT_HOLDOFF_END (R416). -/
  | revertHoldoffEnd (t : Nat)
  /-- SWITCH_REQUEST (R417). -/
  | switchRequest (t : Nat) (q : Req) (data : List Byte)
  /-- GRANT_TO (R417). -/
  | grantTo (t : Nat) (q : Req) (pair : Nat) (data : List Byte)
  /-- ARBITER_START (R404). -/
  | arbiterStart (t : Nat) (pair : Nat)
  /-- LISTEN_FRAME (R426). -/
  | listenFrame (t : Nat) (env : ListenEnv)
  /-- HANG_END (R426). -/
  | hangEnd (t : Nat)
  /-- MATCHER_FRAME (R428): the energies of the 16 bands, the scores of the templates, and the energy of the frame. -/
  | matcherFrame (t : Nat) (energies scores : List Nat) (energy : Nat)
  /-- RING_OVERLAP_END (R433). -/
  | ringOverlapEnd (t : Nat)
  /-- RING_RELEASE (R432). -/
  | ringRelease (t : Nat) (q : Req)
  /-- READER_AT_END (R434). -/
  | readerAtEnd (t : Nat) (r : Nat)
  /-- FEED_SWITCH (R435). -/
  | feedSwitch (t : Nat)
  /-- FRONT_END_SETTLED (R436). -/
  | frontEndSettled (t : Nat)
  /-- HK_CONVERSION_COMPLETE (R456). -/
  | hkConversionComplete (t : Nat) (slice : Nat) (code : Int)
  /-- CALIBRATION_COMPLETE (R448). -/
  | calibrationComplete (t : Nat)
  /-- HK_TIMER (R450). -/
  | hkTimer (t : Nat)
  /-- SW_TRIGGER (R450). -/
  | swTrigger (t : Nat) (q : Req)
  /-- PWM_DELAY_END (R451). -/
  | pwmDelayEnd (t : Nat)
  /-- URGENT_BANK (R452). -/
  | urgentBank (t : Nat) (q : Req) (data : List Byte)
  /-- URGENT_SLICE (R453). -/
  | urgentSlice (t : Nat) (q : Req) (data : List Byte)
  /-- SUPERVISION_SCAN (R458). -/
  | supervisionScan (t : Nat)
  /-- REF_SOURCE (R454). -/
  | refSource (t : Nat) (q : Req) (data : List Byte)
  /-- REF_SETTLED (R454). -/
  | refSettled (t : Nat)
  /-- WINDOW_MODE (R455). -/
  | windowMode (t : Nat) (q : Req) (data : List Byte)
  /-- MAINS_EDGE (R445). -/
  | mainsEdge (t : Nat)
  /-- MAINS_LOSS (R445). -/
  | mainsLoss (t : Nat)
  /-- HK_RESULT_READ (R456). -/
  | hkResultRead (t : Nat) (q : Req) (len : Nat)
  /-- DEVICE_ID (R466). -/
  | deviceId (t : Nat)
  /-- STATUS (R466). -/
  | status (t : Nat)
  /-- REQUEST (R467). -/
  | request (t : Nat) (x : TwbWrite)
  /-- RESPONSE (R468). -/
  | response (t : Nat) (taken : Bool)
  /-- RESPONSE_LEN (R466). -/
  | responseLen (t : Nat)
  /-- RESEND (R468). -/
  | resend (t : Nat)
  /-- ATTENTION (R473). -/
  | attention (t : Nat) (via : AttnVia)
  /-- UNKNOWN_COMMAND (R466). -/
  | unknownCommand (t : Nat) (code : Nat)
  /-- START_IN_ACK (R471). -/
  | startInAck (t : Nat)
  /-- STRETCH_TIMEOUT (R468). -/
  | stretchTimeout (t : Nat)
  /-- SCL_TIMEOUT (R472). -/
  | sclTimeout (t : Nat)
  /-- HOST_NOTIFY (R474). -/
  | hostNotify (t : Nat) (ack : Bool)
  /-- NOTIFY_RETRY (R474). -/
  | notifyRetry (t : Nat) (ack : Bool)
  /-- ARBITRATION_LOST (R475). -/
  | arbitrationLost (t : Nat) (bus : Nat) (during : ArbPhase)
  /-- BUS_RECOVERY (R476). -/
  | busRecovery (t : Nat) (bus pulses : Nat)
  /-- BUS_STUCK_RETRY (R476). -/
  | busStuckRetry (t : Nat) (bus pulses : Nat)
  /-- HSPI_REQUEST (R480). -/
  | hspiRequest (t : Nat) (body : List Byte) (crc : Nat)
  /-- FETCH (R480). -/
  | fetch (t : Nat) (full : Bool)
  /-- HSPI_STATUS (R480). -/
  | hspiStatus (t : Nat) (full : Bool)
  /-- REFETCH (R480). -/
  | refetch (t : Nat) (full : Bool)
  /-- PUSH (R488). -/
  | push (t : Nat) (offset : Nat) (data : List Byte) (crc : Nat)
  /-- PUSH_END (R488). -/
  | pushEnd (t : Nat) (length crc : Nat) (imgOk : BootImage)
  /-- HSPI_FRAME_ABORT (R482). -/
  | hspiFrameAbort (t : Nat)
  /-- BOOT_IMAGE_ACCEPTED (R486). -/
  | bootImageAccepted (t : Nat) (img : BootImage) (eeprom : List Byte)
  /-- BOOT_RETRY (R490). -/
  | bootRetry (t : Nat)
  /-- RECIPE_RECORDS (R487). -/
  | recipeRecords (t : Nat)
  /-- VERIFY_SLOT (R489). -/
  | verifySlot (t : Nat) (q : Req) (data : List Byte) (slotOk : Bool)
  /-- COMMIT_SV (R486). -/
  | commitSv (t : Nat) (q : Req)
  /-- MEM_TRAINING_START (R495). -/
  | memTrainingStart (t : Nat)
  /-- MEM_READY (R495). -/
  | memReady (t : Nat) (sizeMiB ranks : Nat)
  /-- MEM_TRAIN_FAIL (R496). -/
  | memTrainFail (t : Nat)
  /-- ZQ_CALIBRATION (R497). -/
  | zqCalibration (t : Nat)
  /-- DQS_CHECK (R497). -/
  | dqsCheck (t : Nat) (drift : Bool)
  /-- MR4_POLL (R497). -/
  | mr4Poll (t : Nat) (code : Nat) (overTemp : Bool)
  /-- MEM_FAULT (R509). -/
  | memFault (t : Nat) (cause : MemCause)
  /-- AUTO_RETRAIN (R510). -/
  | autoRetrain (t : Nat)
  /-- RETRAIN (R510). -/
  | retrain (t : Nat) (q : Req)
  /-- TRANSPORT_COMMAND (R505). -/
  | transportCommand (t : Nat) (q : Req) (tr : Nat) (data : List Byte)
  /-- TRANSPORT_START (R505). -/
  | transportStart (t : Nat) (tr : Nat)
  /-- COUNTER_SOURCE (R516). -/
  | counterSource (t : Nat) (q : Req) (n : Nat) (data : List Byte)
  /-- COUNTER_CLEAR (R516). -/
  | counterClear (t : Nat) (q : Req) (n : Nat)
  /-- SNAP_NOW (R519). -/
  | snapNow (t : Nat) (q : Req)
  /-- SNAP_CHAIN (R520). -/
  | snapChain (t : Nat) (q : Req)
  /-- SNAPSHOT (R520). -/
  | snapshot (t : Nat) (snapAt tag : Nat)
  /-- SNAP_AT_REACHED (R519). -/
  | snapAtReached (t : Nat)
  /-- TEST_RUN (R525). -/
  | testRun (t : Nat) (q : Req)
  /-- TEST_ITEM_COMPLETE (R524). -/
  | testItemComplete (t : Nat) (result : Nat)
  /-- AVDD33_RETENTION_LOSS (R551). -/
  | avdd33RetentionLoss (t : Nat)
  /-- BOOT_FAIL (R490). -/
  | bootFail (t : Nat)
  /-- SCAN_CONVERSION_DUE (R450). -/
  | scanConversionDue (t : Nat)
  /-- JACK_ABSENT (R324). -/
  | jackAbsent (t : Nat) (n : Nat)
  /-- EDGE_PTP_MESSAGE (R396). -/
  | edgePtpMessage (t : Nat) (port : ChPort) (locked : Bool) (offset : Int)deriving DecidableEq, Repr

end Sys2Proof
end

