-- ==== Sys2Proof/Decode.lean ====
section
/-!
DEFINITION. The commands that a word of spec/opcode_table.json's bits spells: none, since no row of the table gives bits.
-/

set_option autoImplicit false

namespace Sys2Proof

/-- The command spelled by `nbits` bits `w`: no row of the table gives any bits. [DESIGN CHOICE, log 2] -/
def decodeTableWord (_nbits _w : Nat) : Option Instr := none

end Sys2Proof
end

