-- ==== Sys2Proof/Config.lean ====
section
/-!
DEFINITION. What one device fixes (its fuses, its identity) and the values the spec leaves open. Every name here is
opaque: no proof can see a value, so a statement holds whatever the device gives.
-/

namespace Sys2Proof.Config

/-- A free value, by the number of the draw (`State.freeCtr`). [DESIGN CHOICE, log 4] -/
opaque freeNat : Nat → Nat

/-- The value a counter shows after it has passed its largest value; the spec states none. [DESIGN CHOICE, log 9] -/
opaque counterPastMax : Nat → Nat

/-! ## Fuses and identity (R109, R486, R522) -/

/-- `RCO_TRIM`. [DESIGN CHOICE, log 10] -/
opaque rcoTrim : BitVec 8
/-- `LOT`. [DESIGN CHOICE, log 10] -/
opaque lot : BitVec 64
/-- `WAFER`. [DESIGN CHOICE, log 10] -/
opaque wafer : BitVec 8
/-- `DIE_X`. [DESIGN CHOICE, log 10] -/
opaque dieX : BitVec 8
/-- `DIE_Y`. [DESIGN CHOICE, log 10] -/
opaque dieY : BitVec 8
/-- `STEPPING`. [DESIGN CHOICE, log 10] -/
opaque stepping : BitVec 16
/-- `TRIM_VERSION`. [DESIGN CHOICE, log 10] -/
opaque trimVersion : BitVec 16
/-- `UNIQUE_ID`. [DESIGN CHOICE, log 10] -/
opaque uniqueId : BitVec 64
/-- Whether the part is of grade I (otherwise C). [DESIGN CHOICE, log 10] -/
opaque gradeI : Bool
/-- The key hash in fuses when the device is first powered; `none` for blank fuses. [DESIGN CHOICE, log 10] -/
opaque fusedKey : Option (List Byte)

/-! ## The data plane -/

/-- How far the linear value of a gain in 0.01 dB lies from the exact one, in a fraction of 0.001 dB (R260). [DESIGN CHOICE, log 12] -/
opaque gainTrim : Rat → Int

/-- Whether a result between two whole numbers is rounded up, where the spec states no rounding. [DESIGN CHOICE, log 12] -/
opaque roundUp : Rat → Bool

/-- The analog limit of an input at range 0 in 0.01 dBu for an AVDD_HV in V below 9.0 V, for which R157 specifies no figure. [DESIGN CHOICE, log 13] -/
opaque analogLimit : Rat → Int

/-- The DC that the 1 Hz high-pass of an input at the rate `fs` has found after the code `x`, from what it had found before (R164). [DESIGN CHOICE, log 12] -/
opaque highPass : (fs : Nat) → (dc x : Int) → Int

/-- What a computed reading shows before the measurement it rests on has been made, by its key. [DESIGN CHOICE, log 7] -/
opaque unmeasured : Nat → Nat

/-- The word an ASRC channel gives for the input words in the span of its filter, newest first, at the draw `n` (R215). [DESIGN CHOICE, log 12] -/
opaque resample : (n : Nat) → List Word → Word

/-- A physical reading (a voltage, a temperature, a step rate), by the key of its object and the instant. [DESIGN CHOICE, log 11] -/
opaque sensor : (key now : Nat) → Nat

/-- The word that a cell gives for the sum of the products `l` of words and Q4.27 coefficients, where some product is no
whole number of word codes (R223). [DESIGN CHOICE, log 12] -/
opaque macWord : (l : List Int) → Int

/-- What a filter keeps of a result beyond the word's range (R226 gives it 32 bits). [DESIGN CHOICE, log 12] -/
opaque filterMemory : Int → Int

/-- The next state of a dynamics block from its parameters, threshold, rate, state and key word (R228, R231). [DESIGN CHOICE, log 12] -/
opaque dynNext : (params : List Byte) → (threshold fs : Nat) → (st key : Int) → Int

/-- The result of a dynamics block on a delayed word (R228, R231). [DESIGN CHOICE, log 12] -/
opaque dynOut : (params : List Byte) → (st x : Int) → Int

/-- What interpolation filter `f` of an output gives for the last words, newest first, at instant `j` of the `k` of a sample period (R303). [DESIGN CHOICE, log 12] -/
opaque interpolate : (f k j : Nat) → List Word → Int

/-- The analog limit of a line output in 0.01 dBu for an AVDD_HV in V below 9.0 V, for which R301 specifies no figure. [DESIGN CHOICE, log 13] -/
opaque outputLimit : Rat → Int

/-- The sum of the link delays in ns of the longest path of a chain of `n` nodes, as its head knows it (R381). [DESIGN CHOICE, log 15] -/
opaque pathDelay : (n : Nat) → Nat

/-- The steer in ppb that a tracking loop asks for, from its bandwidth code, the fill error in 1/256 sample and the present
steer (R147). [DEDUCED, log 14] -/
opaque loopStep : (bw : Nat) → (fill steer : Int) → Int

/-- The steer in ppb that the servo of a chain asks for, from the offset in ns and the present steer (R379). [DEDUCED, log 14] -/
opaque servoStep : (offset steer : Int) → Int

/-- The time that a frame forwarded at an instant stays in the node, in 2⁻¹⁶ ns, within the hop of R372 (R370). [DESIGN CHOICE, log 15] -/
opaque residence : (now : Nat) → Nat

/-- Whether the spread of the PWM carrier begins its triangle upward (R132). [DESIGN CHOICE, log 91] -/
opaque spreadUp : Bool

/-- Sample `k` of the 16 that a millisecond of words, newest first, is decimated to (R424). [DESIGN CHOICE, log 12] -/
opaque decimate : (k : Nat) → List Word → Word

/-- The word that the pre-wake ring gives back for the word recorded as sample `k` (R432: G.722). [DESIGN CHOICE, log 12] -/
opaque g722 : (k : Nat) → Word → Word

/-- Sample `k` of noise generator `g` at RMS level `lvl` (0.01 dBFS) (R220). [DESIGN CHOICE, log 12] -/
opaque noise : (g k : Nat) → (lvl : Rat) → Int

end Sys2Proof.Config
end

