-- ==== Sys2Proof/Machine/Num.lean ====
section
/-!
DEFINITION. The numerics of the data plane: powers of ten for gains in dB (R260), the sine and cosine of crossfades, ramps and
generators (R203, R207, R220), logarithms for levels (R275) and the rounding that the spec leaves open. Values are computed in fixed
point with 64 fraction bits by power series, far within the tolerances that the rules state.
-/

set_option autoImplicit false

namespace Sys2Proof.Machine

/-! ## Fixed point with 64 fraction bits -/

/-- 1 in fixed point. -/
def fxOne : Int := 2 ^ 64

/-- A product in fixed point. -/
def fxMul (a b : Int) : Int := a * b / fxOne

/-- A fraction in fixed point. -/
def fxOf (num den : Int) : Int := num * fxOne / den

/-- 1 + y/k (1 + y/(k+1) (1 + …)), `n` terms deep: with `k = 1`, the exponential of `y`. -/
def fxExpFrom (y : Int) : Nat → Nat → Int
  | 0, _ => fxOne
  | n + 1, k => fxOne + fxMul y (fxExpFrom y n (k + 1)) / k

/-- 1 − z/(2k(2k+1)) (1 − …), `n` terms deep, `z` being a square: with `k = 1`, the sine over its argument. -/
def fxSinFrom (z : Int) : Nat → Nat → Int
  | 0, _ => fxOne
  | n + 1, k => fxOne - fxMul z (fxSinFrom z n (k + 1)) / (2 * k * (2 * k + 1))

/-- 1/(2k+1) + z/(2k+3) + …, `n` terms deep, `z` being a square: with `k = 0`, the inverse hyperbolic tangent over its argument. -/
def fxAtanhFrom (z : Int) : Nat → Nat → Int
  | 0, _ => 0
  | n + 1, k => fxOne / (2 * k + 1) + fxMul z (fxAtanhFrom z n (k + 1))

/-- The natural logarithm of 2. -/
def fxLn2 : Int := 12786308645202655660
/-- The logarithm of 10 to the base 2. -/
def fxLog2Ten : Int := 61278757397652712441
/-- π/2. -/
def fxHalfPi : Int := 28976077832308491370
/-- The decimal logarithm of 2. -/
def fxLog10Two : Int := 5553023288523357132

/-- 10 to the power `x`. -/
def tenPow (x : Rat) : Rat :=
  let b := (x * ((fxLog2Ten : Rat) / (fxOne : Rat)) * (fxOne : Rat)).floor
  let n := b / fxOne
  let m := fxExpFrom (fxMul (b - n * fxOne) fxLn2) 26 1
  if 0 ≤ n then (m : Rat) * (2 ^ n.toNat : Nat) / (fxOne : Rat) else (m : Rat) / ((fxOne : Rat) * (2 ^ (-n).toNat : Nat))

/-- The sine of π/2 × num/den, for a fraction from 0 to 1: 0 and 1 at its ends. -/
def quarterSine (num den : Nat) : Rat :=
  if num = 0 then 0
  else if den ≤ num then 1
  else
    let y := fxMul fxHalfPi (fxOf num den)
    (fxMul y (fxSinFrom (fxMul y y) 14 1) : Rat) / (fxOne : Rat)

/-- The cosine of π/2 × num/den, for a fraction from 0 to 1. -/
def quarterCosine (num den : Nat) : Rat := quarterSine (den - min num den) den

/-- The sine of a full circle × ph/m, for `ph` below `m`. -/
def circleSine (ph m : Nat) : Rat :=
  let p := 4 * ph
  if p ≤ m then quarterSine p m
  else if p ≤ 2 * m then quarterSine (2 * m - p) m
  else if p ≤ 3 * m then -quarterSine (p - 2 * m) m
  else -quarterSine (4 * m - p) m

/-- Ten times the decimal logarithm of num/den, both above 0, in 0.01 dB. -/
def tenLog (num den : Nat) : Rat :=
  let e : Int := (Nat.log2 num : Int) - Nat.log2 den
  let a : Nat := if 0 ≤ e then num else num * 2 ^ (-e).toNat
  let b : Nat := if 0 ≤ e then den * 2 ^ e.toNat else den
  let z := fxOf ((a : Int) - b) ((a : Int) + b)
  let ln := 2 * fxMul z (fxAtanhFrom (fxMul z z) 40 0)
  let log2 := e * fxOne + fxOf ln fxLn2
  (fxMul log2 fxLog10Two : Rat) * 1000 / (fxOne : Rat)

/-! ## Rounding -/

/-- A number rounded to a whole one where the spec states no rounding: one of the two next to it. [DESIGN CHOICE, log 12] -/
def roundOpen (x : Rat) : Int := if x.den = 1 then x.num else x.floor + (if Config.roundUp x then 1 else 0)

/-- A number rounded to the nearest whole one, halves up. -/
def roundRat (x : Rat) : Int := (x + 1 / 2).floor

/-! ## Gains -/

/-- The linear value of a gain in 0.01 dB (R260): what the hardware computes lies within ±0.001 dB of the exact value; where in that
interval is open. [DESIGN CHOICE, log 12] -/
def linearGain (g : Rat) : Rat := tenPow ((g + ((Config.gainTrim g % 2001 : Int) - 1000 : Rat) / 10000) / 2000)

/-- A value times a gain other than mute, rounded to the nearest word code (R260, R265). [DESIGN CHOICE, log 12] -/
def gainProduct (g : Rat) (x : Int) : Int := roundRat ((x : Rat) * linearGain g)

end Sys2Proof.Machine
end

