-- ==== Sys2Proof/Machine/Store.lean ====
section
/-!
DEFINITION. Reading and writing a sparse table, and its one canonical form: numbers strictly rising, and no entry
equal to what an unlisted number reads as.
-/

namespace Sys2Proof.Machine

/-- The value at number `k`, where `d` is what an unlisted number reads as. -/
def look {α : Type} (d : α) (m : Sparse α) (k : Nat) : α :=
  match m with
  | [] => d
  | (j, v) :: r => if j = k then v else look d r k

/-- `m` without the number `k`. -/
def unlist {α : Type} (m : Sparse α) (k : Nat) : Sparse α :=
  match m with
  | [] => []
  | (j, w) :: r => if j = k then unlist r k else (j, w) :: unlist r k

/-- `m` with `v` listed at `k`, before the first higher number. -/
def enlist {α : Type} (m : Sparse α) (k : Nat) (v : α) : Sparse α :=
  match m with
  | [] => [(k, v)]
  | (j, w) :: r => if k < j then (k, v) :: (j, w) :: r else if k = j then (k, v) :: r else (j, w) :: enlist r k v

/-- `m` with the value at `k` set to `v`; a value equal to the default `d` of `k` is not listed. -/
def put {α : Type} [DecidableEq α] (d : α) (m : Sparse α) (k : Nat) (v : α) : Sparse α :=
  if v = d then unlist m k else enlist m k v

/-- The canonical form of a sparse table over the default values `d`, from the number `lo` on. -/
def canonFrom {α : Type} [DecidableEq α] (d : Nat → α) (lo : Nat) (m : Sparse α) : Bool :=
  match m with
  | [] => true
  | (j, v) :: r => decide (lo ≤ j) && decide (v ≠ d j) && canonFrom d (j + 1) r

/-- The canonical form of a sparse table over the default values `d`. -/
def canon {α : Type} [DecidableEq α] (d : Nat → α) (m : Sparse α) : Bool := canonFrom d 0 m

end Sys2Proof.Machine
end

