-- ==== Sys2Proof/Machine/Objects.lean ====
section
/-!
DEFINITION. The object table: for every index and sub of the dictionary its type, its access class, its default, the
range of a write and whether its value is held in PD_AO, row by row as the owner chapters list them (R46 to R49).
-/

set_option autoImplicit false

namespace Sys2Proof.Machine

/-- The types of R48. -/
inductive Ty where
  | bool | u8 | u16 | u32 | u64 | s16 | s32 | cdb | time | str (n : Nat) | domain
deriving DecidableEq, Repr

/-- The size of a type in bytes (R48). -/
def Ty.size : Ty → Nat
  | .bool => 1 | .u8 => 1 | .u16 => 2 | .u32 => 4 | .u64 => 8 | .s16 => 2 | .s32 => 4 | .cdb => 2 | .time => 8
  | .str n => n | .domain => 0

/-- The access classes of R49, with the modes in which an RWM object may be written. -/
inductive Acc where
  | const | ro | wo | rw
  | rwm (modes : List Mode)
deriving DecidableEq, Repr

/-- The range of a write (R48): any value of the type, an interval (of the signed value for a signed type), a list of
codes, a map whose bits outside the mask read as `val`, or an interval that also takes mute (8000h of a CDB) or another code. -/
inductive Rng where
  | any
  | span (lo hi : Int)
  | oneOf (codes : List Nat)
  | map (mask val : Nat)
  | orMute (lo hi : Int)
  | orCode (code : Nat) (lo hi : Int)
deriving DecidableEq, Repr

/-- One row of an object table. `ao` marks a value held in PD_AO, which survives SLATE, INDIGO and RESET_N. -/
structure Row where
  sub : Nat
  ty : Ty
  acc : Acc
  dflt : Nat
  rng : Rng
  ao : Bool
deriving DecidableEq, Repr

/-- A CONST row. -/
def cst (sub : Nat) (ty : Ty) (v : Nat) : Row := { sub, ty, acc := .const, dflt := v, rng := .any, ao := true }
/-- An RO row that is kept until power-on. -/
def ro (sub : Nat) (ty : Ty) (v : Nat) : Row := { sub, ty, acc := .ro, dflt := v, rng := .any, ao := true }
/-- An RO row that is lost with its power domain. -/
def rov (sub : Nat) (ty : Ty) (v : Nat) : Row := { sub, ty, acc := .ro, dflt := v, rng := .any, ao := false }
/-- A WO row. -/
def wo (sub : Nat) (ty : Ty) (r : Rng) : Row := { sub, ty, acc := .wo, dflt := 0, rng := r, ao := false }
/-- An RW row that PD_CORE0 holds. -/
def rw (sub : Nat) (ty : Ty) (v : Nat) (r : Rng) : Row := { sub, ty, acc := .rw, dflt := v, rng := r, ao := false }
/-- An RW row held in PD_AO. -/
def rwa (sub : Nat) (ty : Ty) (v : Nat) (r : Rng) : Row := { sub, ty, acc := .rw, dflt := v, rng := r, ao := true }
/-- An RWM row that PD_CORE0 holds. -/
def rwm (ms : List Mode) (sub : Nat) (ty : Ty) (v : Nat) (r : Rng) : Row :=
  { sub, ty, acc := .rwm ms, dflt := v, rng := r, ao := false }
/-- An RWM row held in PD_AO. -/
def rwma (ms : List Mode) (sub : Nat) (ty : Ty) (v : Nat) (r : Rng) : Row :=
  { sub, ty, acc := .rwm ms, dflt := v, rng := r, ao := true }

/-- The two modes most RWM objects name. -/
def amberTeal : List Mode := [.amber, .teal]

/-- The range of a BOOL (R48). -/
def boolR : Rng := .oneOf [0, 1]

/-- Index 1000h (R53); REQUESTER is computed for the requester that reads it. -/
def rows1000 : List Row :=
  [cst 0 .u8 5, cst 1 .u32 0x9648, cst 2 .u16 0x0100, cst 3 .u16 512, cst 4 .u8 8, rov 5 .u8 0]

/-- Index 1010h (R71); subs 01h to 0Ah are kept per requester. -/
def rows1010 : List Row :=
  [cst 0 .u8 0x0A, wo 1 .u8 (.oneOf [1, 2]), rov 2 .u16 0, rov 3 .u8 0, rov 4 .u32 0, rov 5 .u32 0, rov 6 .u32 0,
   rov 7 .u32 0, rov 8 .u8 0, rw 9 .time 0 .any, rw 0x0A .u16 10000 (.orCode 0 100 60000)]

/-- Index 1020h (R52). -/
def rows1020 : List Row :=
  [cst 0 .u8 7, rwa 1 .u32 0x3FFFFF .any, rwa 2 .u32 0x3FFFFF .any,
   rwa 3 .u32 0x3FFFFF .any, rwa 4 .u32 0x3FFFFF (.map 0xFFFFFFFA 5), rwa 5 .u32 0x3FFFFF (.map 0xFFFFFFFA 5),
   rwa 6 .u32 0x3FFFFF (.map 0xFFFFFFFA 5), rwa 7 .bool 0 boolR]

/-- Index 1100h (R522). -/
def rows1100 : List Row :=
  [cst 0 .u8 8, cst 1 (.str 8) Config.lot.toNat, cst 2 .u8 Config.wafer.toNat, cst 3 .u8 Config.dieX.toNat,
   cst 4 .u8 Config.dieY.toNat, cst 5 (.str 2) Config.stepping.toNat, cst 6 .u16 Config.trimVersion.toNat,
   cst 7 .u64 Config.uniqueId.toNat, cst 8 .u8 (if Config.gradeI then 1 else 0)]

/-- Index 1F00h (R79); subs 01h to 07h are computed from the journal. -/
def rows1F00 : List Row :=
  [cst 0 .u8 9, rov 1 .u32 0, rov 2 .u32 0, rov 3 .u32 0, rov 4 .u32 0, rov 5 .u8 0, ro 6 .u32 0, rw 7 .u32 0 .any,
   rw 8 .u16 0xFFFF (.orCode 0xFFFF 0 1023), rov 9 .u32 0]

/-- Index 1F01h (R80): ENTRIES is read by ENTRIES_READ. -/
def rows1F01 : List Row := [cst 0 .u8 1, rov 1 (.str 512) 0]

/-- A DOMAIN index (R58), with the highest sub its owner chapter states. -/
def rowsDomain : List Row := [cst 0 .u8 3, rw 1 .domain 0 .any, rw 2 .u32 0 .any, rw 3 .u32 0 .any]

/-- Index 2000h (R89). -/
def rows2000 : List Row :=
  [cst 0 .u8 0x0C, rov 1 .u8 0, rw 2 .u8 4 (.oneOf [1, 2, 4, 5, 8]), rov 3 .u8 0, rov 4 .u8 0,
   rwa 5 .u8 0 (.oneOf [0, 1]), wo 6 .bool boolR, ro 7 .u8 0, rwa 8 .u8 0x1E (.map 0x3E 0),
   rwa 9 .u8 4 (.oneOf [4, 5]), rov 0x0A .u32 0, rwa 0x0B .bool 1 boolR, rwa 0x0C .cdb 0 (.orMute (-4000) 2000)]

/-- Index 2002h (R98). -/
def rows2002 : List Row :=
  [cst 0 .u8 5, rwa 1 .u16 50 (.span 10 1000), rov 2 .s16 0, rov 3 .u8 0, rw 4 .u16 2000 (.span 100 60000), ro 5 .u32 0]

/-- Index 2003h (R103). -/
def rows2003 : List Row :=
  [cst 0 .u8 5, rwa 1 .u16 32 (.span 1 1024), rwa 2 .u16 20 (.span 0 1000), ro 3 .u16 0xFFFF, ro 4 .u32 0,
   rwa 5 .bool 1 boolR]

/-- Index 2004h (R106). -/
def rows2004 : List Row :=
  [cst 0 .u8 0x0A, rw 1 .bool 1 boolR, rwm amberTeal 2 .u16 750 (.oneOf [750, 850]), rw 3 .u16 550 (.span 550 750),
   rov 4 .u16 0, rov 5 .u16 0, rw 6 .u16 750 (.span 550 850), rw 7 .u8 0x40 (.span 0x08 0x77), rov 8 .u8 0,
   rw 9 .u8 15 (.span 5 50), rw 0x0A .u8 40 (.span 0 90)]

/-- Index 2005h (R108). -/
def rows2005 : List Row :=
  [cst 0 .u8 3, ro 1 .u16 0, rov 2 .s16 0, cst 3 .s16 (if Config.gradeI then 1250 else 1050)]

/-- Index 2006h (R538). -/
def rows2006 : List Row :=
  [cst 0 .u8 3, ro 1 .u8 0, rwa 2 .u8 0x0F (.map 0x0F 0), rwa 3 .u8 0x55 .any]

/-- The charge cost in 0.1 µC and the default priority of power domain `i` (R96), 2010h + i. -/
def pdCost : Nat → Nat
  | 1 => 4 | 2 => 20 | 3 => 80 | 4 => 60 | 5 => 45 | 6 => 45 | 7 => 40 | 8 => 40 | 9 => 30 | 10 => 50 | 11 => 25
  | _ => 0

/-- The default priority of power domain `i` (R96). -/
def pdPriority : Nat → Nat
  | 1 => 0 | 2 => 1 | 3 => 2 | 4 => 5 | 5 => 6 | 6 => 7 | 7 => 8 | 8 => 9 | 9 => 10 | 10 => 4 | 11 => 3
  | _ => 0

/-- Indices 2010h to 201Bh (R96). -/
def rowsPd (i : Nat) : List Row :=
  [cst 0 .u8 6, rov 1 .u8 0, cst 2 .u16 (pdCost i), rw 3 .u8 (pdPriority i) (.span 0 15),
   rwm amberTeal 4 .bool 0 (if i = 0 ∨ i = 3 then .oneOf [0] else boolR), ro 5 .u32 0, ro 6 .u32 0]

/-- Index 2100h (R109). -/
def rows2100 : List Row :=
  [cst 0 .u8 8, rwma [.amber] 1 .u8 0 (.oneOf [0, 1]), rov 2 .u8 0, ro 3 .u16 0, cst 4 .u16 8192,
   rov 5 .u8 Config.rcoTrim.toNat, cst 6 .u16 4000, ro 7 .time 0, ro 8 .u32 0]

/-- Index 2101h (R134). -/
def rows2101 : List Row :=
  [cst 0 .u8 3, rw 1 .u8 0 (.span 0 12), rw 2 .u16 2000 (.span 500 20000), rwm amberTeal 3 .u8 0 (.span 0 5)]

/-- The source a clock domain has when the device starts (R114, R116). -/
def cdSource : Nat → Nat
  | 0 => 7 | 1 => 2 | 2 => 3 | 3 => 1 | 4 => 1 | 5 => 1 | 6 => 6 | 7 => 4 | 8 => 6 | 9 => 6 | 10 => 3 | 11 => 2
  | 12 => 9 | _ => 7

/-- Indices 2110h to 211Fh (R114): `SOURCE` is RWM for PWM, RO where the choice is automatic, CONST otherwise. -/
def rowsCd (n : Nat) : List Row :=
  [cst 0 .u8 7,
   if n = 7 then rwm amberTeal 1 .u8 4 (.oneOf [4, 5])
   else if n = 8 ∨ n = 9 ∨ n = 10 ∨ n = 11 ∨ n = 12 then rov 1 .u8 (cdSource n) else cst 1 .u8 (cdSource n),
   rov 2 .u8 0, rov 3 .u8 0,
   if 7 ≤ n ∧ n ≤ 12 then wo 4 .bool boolR else cst 4 .bool 0,
   if n < 3 then cst 5 .bool 0 else rw 5 .bool 1 boolR, rov 6 .u32 0, ro 7 .u32 0]

/-- Indices 2104h to 2106h (R145). -/
def rowsSyn : List Row :=
  [cst 0 .u8 0x0D, rov 1 .u8 0, rwma [.amber, .pearl] 2 .u8 0 (.oneOf [0, 1, 2]), rov 3 .u16 0, rov 4 .u32 0,
   rov 5 .u32 0, rwa 6 .u8 0 (.oneOf [0, 1, 2]), rwa 7 .u8 40 (.span 1 255), rwa 8 .u16 2048 (.span 16 65535),
   rwa 9 .u8 4 (.span 1 64), rov 0x0A .u8 0, rov 0x0B .u32 0, ro 0x0C .u32 0, rov 0x0D .s16 0]

/-- Indices 2108h and 2109h (R148). -/
def rowsLoop : List Row :=
  [cst 0 .u8 8, rwm amberTeal 1 .u16 0xFFFF .any, rov 2 .u8 0, rov 3 .s32 0, rov 4 .s16 0, rw 5 .u8 1 (.oneOf [0, 1, 2]),
   rw 6 .u16 20 (.span 1 100), rw 7 .u16 200 (.span 10 200), ro 8 .u32 0]

/-- Indices 2120h to 2123h (R152). -/
def rowsCko : List Row :=
  [cst 0 .u8 5, rov 1 .u8 0, rwa 2 .u8 0 (.span 0 7), rwa 3 .u16 1 (.span 1 4096), rwa 4 .u8 0 (.span 0 3),
   rwa 5 .bool 0 boolR]

/-- Indices 3001h to 3030h (R179), input `n`. -/
def rowsIn (n : Nat) : List Row :=
  [cst 0 .u8 0x13, rov 1 .u8 0, rwa 2 .bool 1 boolR, rwa 3 .u8 0 (.oneOf [0, 1, 2]), rwa 4 .cdb 0 (.span 0 6600),
   rwa 5 .bool 0 boolR, rwa 6 .u16 20 (.span 1 2000), rwa 7 .u8 0 (.oneOf [0, 1, 2]), rwma amberTeal 8 .u8 1 (.oneOf [0, 1]),
   rov 9 .u16 0, rwa 0x0A .u8 0 (.map 0x0F 0), ro 0x0B .u32 0,
   rov 0x0C .u8 0, rov 0x0D .cdb 0, rov 0x0E .cdb 0, rov 0x0F .u32 0, rwa 0x10 .u8 0 (.oneOf [0, 1, 2]),
   rwa 0x11 .u16 1000 (.span 100 5000), rwa 0x12 .u8 1 (.oneOf [0, 1]), cst 0x13 .u8 ((n - 1) / 8)]

/-- Whether sink point `p` is present (R198). -/
def sinkPresent (p : Nat) : Bool :=
  decide (p ≤ 0x33) || (decide (0x40 ≤ p) && decide (p ≤ 0x4F)) || (decide (0x100 ≤ p) && decide (p ≤ 0x3FF)) ||
    (decide (0x500 ≤ p) && decide (p ≤ 0x6FF))

/-- Whether source point `p` is present (R197). -/
def sourcePresent (p : Nat) : Bool :=
  decide (p ≤ 0x31) || (decide (0x100 ≤ p) && decide (p ≤ 0x80F)) || (decide (0x810 ≤ p) && decide (p ≤ 0x817))

/-- Index 3400h (R210). -/
def rows3400 : List Row :=
  [cst 0 .u8 7, rw 1 .u16 10 (.span 1 200), rov 2 .u16 0, rov 3 .u16 0, ro 4 .u32 0, ro 5 .u32 0, ro 6 .u32 0,
   rw 7 .u8 96 (.span 1 255)]

/-- Index 3401h (R219). -/
def rows3401 : List Row :=
  [cst 0 .u8 6, cst 1 .u16 256, rov 2 .u16 0, rov 3 .u16 0, rov 4 .u16 0, ro 5 .u32 0, ro 6 .u16 0]

/-- The indices with one sub for each sink point, `base` + point div 128 (R199, R207, R209): the row of sub `sub`. -/
def rowSink (block sub : Nat) (r : Row) : Option Row :=
  if sub = 0 then (if (List.range 128).any (fun j => sinkPresent (block * 128 + j)) then some (cst 0 .u8 (if block = 0 then 0x50 else 0x80)) else none)
  else if sub ≤ 128 ∧ sinkPresent (block * 128 + sub - 1) then some { r with sub := sub } else none

/-- Index 3440h + g (R221). -/
def rowsGen (g : Nat) : List Row :=
  if g = 0 then [cst 0 .u8 1, rw 1 .u8 0 (.span 0 2)]
  else [cst 0 .u8 3, rw 1 .u8 0 (.span 0 2), rw 2 .u32 (if g ≤ 8 then 100000 else 0) (.span 2000 2000000),
        rw 3 .cdb 0xF830 (.orMute (-12000) 0)]

/-- The six sample rates (R153). -/
def sampleRates : List Nat := [44100, 48000, 88200, 96000, 176400, 192000]

/-- Index 3800h (R212). -/
def rows3800 : List Row :=
  [cst 0 .u8 0x16, rwma amberTeal 1 .u8 1 (.span 1 3), rwma amberTeal 2 .u8 0 (.oneOf [0, 1]),
   rwma amberTeal 3 .u32 48000 (.oneOf sampleRates), rwma amberTeal 4 .u32 48000 (.oneOf sampleRates),
   rwma amberTeal 5 .u32 48000 (.oneOf sampleRates), rwma amberTeal 6 .u16 0 (.map 0x0FFF 0),
   rwma amberTeal 7 .u16 0 (.map 0x0FFF 0), rwma amberTeal 8 .u8 0 (.span 0 2), rwma amberTeal 9 .u8 0 (.span 0 2),
   rov 0x0A .u8 0, rwa 0x0B .u8 0 (.span 0 64), rwa 0x0C .u8 0 (.span 0 64), rwa 0x0D .u8 0 (.span 0 64),
   rwa 0x0E .u8 0 (.span 0 64), rwa 0x0F .u8 0 (.span 0 64), rwa 0x10 .u8 0 (.span 0 64), rov 0x11 .u8 0, rov 0x12 .u8 0,
   rov 0x13 .u8 0, rov 0x14 .u8 0, rov 0x15 .u8 0, rov 0x16 .u8 0]

/-- Index 3600h + n (R257). -/
def rowsLane : List Row :=
  [cst 0 .u8 0x4F, rov 1 .u8 0, rw 2 .bool 0 boolR, rw 3 .u16 20 (.span 1 2000), rw 4 .u8 4 (.span 1 64), rov 5 .u32 0,
   rov 6 .u8 0, rov 7 .u16 8, rov 8 .u16 0, rov 9 .u32 0, rov 0x0A .u32 0, rov 0x0B .u16 0, rov 0x0C .u16 1000,
   ro 0x0D .u32 0, ro 0x0E .u16 0, ro 0x0F .u32 0] ++
    (List.range 64).map fun b => rw (0x10 + b) .u32 0 (.map 0x8000FFFF 0)

/-- Index 3820h (R258). -/
def rows3820 : List Row := [cst 0 .u8 5, rov 1 .u16 0, rov 2 .u16 550, ro 3 .u32 0, ro 4 .u32 0, rov 5 .u8 0]

/-- Index 3821h + c (R259). -/
def rowsCluster : List Row :=
  [cst 0 .u8 8, rov 1 .u8 0, rov 2 .u32 0, rov 3 .u32 0, rov 4 .u16 1000, rov 5 .u16 1000, rov 6 .u8 0xFF, ro 7 .u32 0,
   rov 8 .u8 0]

/-- Index 3500h + b (R271). -/
def rowsBus : List Row :=
  [cst 0 .u8 0x8F, rov 1 .u8 0, rw 2 .bool 0 boolR, rw 3 .u8 0 (.span 0 2), rw 4 .cdb 0 (.orMute (-12000) 2400),
   rw 5 .bool 0 boolR, rw 6 .u16 20 (.span 1 2000), rov 7 .u8 0, ro 8 .u32 0, rov 9 .u8 0] ++
    (List.range 128).map fun c => rw (0x10 + c) .u32 0xFFF (.map 0xFFFF8FFF 0)

/-- Index 3829h (R273). -/
def rows3829 : List Row := [cst 0 .u8 5, cst 1 .u16 16384, rov 2 .u16 0, rov 3 .u16 0, ro 4 .u32 0, rov 5 .u16 1000]

/-- Index 3900h (R280). -/
def rows3900 : List Row :=
  [cst 0 .u8 0x3F, rwa 1 .u16 2000 (.span 0 10000), rwa 2 .u8 0 (.oneOf [0, 1]), cst 3 .u16 300, cst 4 .u16 10] ++
    (List.range 48).map fun n => ro (0x10 + n) .u32 0

/-- The row of a meter word (R279). -/
def rowMeter (i sub : Nat) : Option Row :=
  let r : Row := { sub := sub, ty := .u64, acc := .ro, dflt := 0, rng := .any, ao := false }
  if i = 0x3911 ∨ (0x3921 ≤ i ∧ i ≤ 0x392F) ∨ (0x3931 ≤ i ∧ i ≤ 0x393F) then none
  else if sub = 0 then
    (if i = 0x3930 then some (cst 0 .u8 0x50) else if i = 0x3920 then some (cst 0 .u8 0x18)
     else if i = 0x3910 then some (cst 0 .u8 0x32) else some (cst 0 .u8 0x80))
  else if i = 0x3930 then
    (if sub ≤ 0x34 ∨ (0x41 ≤ sub ∧ sub ≤ 0x50) then some r else none)
  else if 0x3940 ≤ i then (if sub ≤ 128 then some r else none)
  else if sub ≤ 128 ∧ sourcePresent ((i - 0x3910) * 128 + sub - 1) then some r else none

/-- Index 3450h + l (R289). -/
def rowsLink : List Row :=
  [cst 0 .u8 8, rov 1 .u8 0, rwa 2 .bool 0 boolR, rwa 3 .u8 0 (.span 0 0x30), rwa 4 .u16 0x0FFF (.span 0 0x0FFF),
   rwa 5 .cdb 0 (.orMute (-4000) 6600), rwa 6 .bool 0 boolR, rwa 7 .u16 20 (.span 1 2000), rwa 8 .u8 0 (.oneOf [0, 1])]

/-- Index 3B20h (R295). -/
def rows3B20 : List Row := [cst 0 .u8 4, rwa 1 .u16 20 (.span 1 2000), rov 2 .u16 0, rov 3 .u16 0, ro 4 .u32 0]

/-- The rows of the delay lines (R295): configuration, delay and state, 128 lines to an index. -/
def rowDelay (i sub : Nat) : Option Row :=
  if sub = 0 then some (cst 0 .u8 0x80)
  else if 128 < sub then none
  else if i ≤ 0x3B22 then some (rwa sub .u32 0x107D0FFF (.map 0xB07FFFFF 0))
  else if i ≤ 0x3B24 then some (rwa sub .u32 32 .any)
  else some (rov sub .u8 0)

/-- Indices 3101h to 3130h (R319), output `n`. -/
def rowsOut (n : Nat) : List Row :=
  [cst 0 .u8 0x15, rov 1 .u8 0, rwma amberTeal 2 .u8 0 (.oneOf [0, 1, 2]), rwa 3 .bool 1 boolR,
   rwma amberTeal 4 .u8 0 (.span 0 3), rwma amberTeal 5 .u8 0 (.oneOf [0, 1]), rwa 6 .cdb 0 (.orMute (-12000) 600),
   rwa 7 .bool 0 boolR, rwa 8 .u16 20 (.span 1 2000), rwa 9 .bool 0 boolR, wo 0x0A .bool boolR, rov 0x0B .u16 0,
   ro 0x0C .u32 0, rov 0x0D .cdb 0, rov 0x0E .u32 0, rwa 0x0F .u8 0 (.oneOf [0, 1]), rwa 0x10 .u16 0 .any,
   rwa 0x11 .u16 0 (.span 0 60000), rwa 0x12 .u16 0 .any, rwa 0x13 .bool 0 boolR, rov 0x14 .u16 0,
   cst 0x15 .u8 ((n - 1) / 2)]

/-- Indices 3201h and 3202h (R327). -/
def rowsHp : List Row :=
  [cst 0 .u8 0x12, rov 1 .u8 0, rwa 2 .bool 1 boolR, rwa 3 .u8 0 (.span 0 3), rwma amberTeal 4 .u8 0 (.oneOf [0, 1]),
   rwa 5 .cdb 0 (.orMute (-12000) 600), rwa 6 .bool 0 boolR, rwa 7 .u16 20 (.span 1 2000), rwa 8 .u8 1 (.oneOf [0, 1]),
   rwa 9 .u8 0 (.oneOf [0, 1]), rwa 0x0A .u8 0 (.oneOf [0, 1]), rov 0x0B .u8 0, rov 0x0C .u16 0xFFFF,
   rov 0x0D .u16 0xFFFF, rov 0x0E .u16 0, rwa 0x0F .bool 1 boolR, wo 0x10 .bool boolR, ro 0x11 .u32 0, rov 0x12 .u32 0]

/-- Indices 3210h to 321Fh (R333). -/
def rowsPwm : List Row :=
  [cst 0 .u8 0x0E, rov 1 .u8 0, rwa 2 .bool 0 boolR, rwma amberTeal 3 .u8 1 (.oneOf [0, 1, 2]), rwa 4 .u8 0 (.span 0 2),
   rwma amberTeal 5 .u8 95 (.span 50 98), rwa 6 .cdb 0 (.orMute (-12000) 600), rwa 7 .bool 0 boolR,
   rwa 8 .u16 20 (.span 1 2000), rwa 9 .u16 5 (.span 1 5000), rwa 0x0A .u16 50 (.span 1 5000), rwa 0x0B .u8 0 (.span 0 2),
   rwa 0x0C .u16 1 (.span 1 65535), rov 0x0D .u8 0, rov 0x0E .u32 0]

/-- Index 3200h (R334). -/
def rows3200 : List Row :=
  [cst 0 .u8 6, rwma amberTeal 1 .u8 0 (.oneOf [0, 1]), rwa 2 .u16 10 (.span 0 100), rov 3 .u8 0, rov 4 .u8 0,
   rov 5 .u8 0, ro 6 .u32 0]

/-- Indices 3301h to 3310h (R359). -/
def rowsSap : List Row :=
  [cst 0 .u8 0x1C, rov 1 .u8 0, rov 2 .u8 0, rwa 3 .bool 0 boolR, rwa 4 .bool 0 boolR,
   rwa 5 .u32 0xA80F1000 (.map 0xFF3FF800 0), rwa 6 .u32 0xA80F1000 (.map 0xFF3FF800 0), rwa 7 .u32 0xFF .any,
   rwa 8 .u32 0xFF .any, rwa 9 .u8 0 (.span 0 2), rwa 0x0A .u8 0 (.span 0 2),
   rwa 0x0B .u8 4 (.oneOf [2, 4, 6, 8, 10, 12, 14, 16]), rwa 0x0C .u8 4 (.oneOf [2, 4, 6, 8, 10, 12, 14, 16]),
   rwa 0x0D .u16 20 (.span 1 2000), rov 0x0E .u16 0, rov 0x0F .u16 0, rov 0x10 .u32 0, rov 0x11 .u32 0, ro 0x12 .u32 0,
   ro 0x13 .u32 0, rov 0x14 .s16 0, rov 0x15 .s16 0, rov 0x16 .u32 0, rov 0x17 .u32 0, wo 0x18 .bool boolR,
   wo 0x19 .bool boolR, ro 0x1A .u32 0, ro 0x1B .u32 0, ro 0x1C .u32 0]

/-- A chain flow number (R382), or none. -/
def flowR : Rng := .orCode 0xFFFF 0 0x2F

/-- Indices 3830h to 3837h (R361). -/
def rowsGroup : List Row :=
  [cst 0 .u8 0x0F, rwa 1 .u8 0 (.oneOf [0, 1, 2]), rwa 2 .u32 0 .any, rov 3 .u8 0xFF, ro 4 .u32 0, rov 5 .u32 0,
   rov 6 .u8 0, rov 7 .u16 0xFFFF, rwa 8 .u16 0xFFFF flowR, rwa 9 .u16 0xFFFF flowR, rwa 0x0A .u16 0xFFFF flowR,
   rwa 0x0B .u16 0xFFFF flowR, rwa 0x0C .u16 0xFFFF flowR, rwa 0x0D .u16 0xFFFF flowR, rwa 0x0E .u16 0xFFFF flowR,
   rwa 0x0F .u16 0xFFFF flowR]

/-- Index 4000h (R400). -/
def rows4000 : List Row :=
  [cst 0 .u8 0x11, rov 1 .u16 0xFFFF, cst 2 .u64 Config.uniqueId.toNat, rov 3 .u8 0, rov 4 .u8 0, rov 5 .u16 0,
   rov 6 .u16 0xFFFF, rwa 7 .u8 128 .any, rwma amberTeal 8 .u16 16 (.span 2 160), rov 9 .u16 0, rov 0x0A .u16 0,
   rov 0x0B .u8 0, rwma amberTeal 0x0C .bool 1 boolR, wo 0x0D .u8 (.oneOf [4, 5]), ro 0x0E .u32 0, ro 0x0F .u32 0,
   rov 0x10 .s32 0, rwa 0x11 .bool 0 boolR]

/-- Indices 4001h and 4002h (R401). -/
def rowsPort : List Row :=
  [cst 0 .u8 0x0B, rov 1 .u8 0, rwma amberTeal 2 .u8 1 (.span 0 3), rwa 3 .u8 0 (.oneOf [0, 1, 2]), rov 4 .u64 0,
   rov 5 .u16 0xFFFF, rov 6 .u32 0, ro 7 .u32 0, rov 8 .u32 0, rov 9 .u8 0, rwa 0x0A .u32 0 .any, rwa 0x0B .u8 24 (.span 8 30)]

/-- Index 4003h (R402). -/
def rows4003 : List Row :=
  [cst 0 .u8 5, rw 1 .u8 0 (.span 0 16), rov 2 .u8 0, rov 3 .u8 0, rov 4 .u8 0, rov 5 .u8 0]

/-- Index 4010h + f (R389). -/
def rowsFlowTx : List Row :=
  [cst 0 .u8 8, rov 1 .u8 0, rw 2 .bool 0 boolR, rw 3 .u8 16 (.span 1 16), rw 4 .u8 1 (.oneOf [1, 2]), rw 5 .u8 0 (.span 0 2),
   rw 6 .u16 20 (.span 1 2000), ro 7 .u32 0, rov 8 .u8 0]

/-- Index 4020h + r (R390). -/
def rowsFlowRx : List Row :=
  [cst 0 .u8 0x0F, rov 1 .u8 0, rwa 2 .bool 0 boolR, rwa 3 .u64 0 .any, rwa 4 .u8 0 (.span 0 15), rwa 5 .u64 0 .any,
   rwa 6 .u8 16 (.span 1 16), rwa 7 .u8 1 (.oneOf [1, 2]), rwa 8 .u8 0 (.span 0 2), rwa 9 .bool 0 boolR,
   rwa 0x0A .u16 20 (.span 1 2000), rov 0x0B .u8 0, ro 0x0C .u32 0, ro 0x0D .u32 0, rov 0x0E .u8 0, rov 0x0F .u32 0]

/-- Index 4040h + a (R397). -/
def rowsAes : List Row :=
  [cst 0 .u8 0x0B, rov 1 .u8 0, rw 2 .bool 0 boolR, rw 3 .u8 0xFF (.oneOf (0xFF :: List.range 0x30)), rw 4 .u8 1 (.oneOf [1, 2]),
   rw 5 .u32 0 .any, rw 6 .u16 5004 (.span 1024 65535), rw 7 .u8 0 (.oneOf [0, 1]), rw 8 .u8 98 (.span 96 127),
   rw 9 .u8 34 (.span 0 63), rw 0x0A .u16 2 (.span 1 20), rw 0x0B .u32 0 .any]

/-- Index 4100h (R420). -/
def rows4100 : List Row :=
  [cst 0 .u8 0x0F, rwma amberTeal 1 .bool 0 boolR, rov 2 .u8 0, rwma amberTeal 3 .u16 0 .any,
   rwma amberTeal 4 .u8 0 (.oneOf [0, 1]), rwma amberTeal 5 .u64 0 .any, rwma amberTeal 6 .u64 0 .any, rwa 7 .bool 1 boolR,
   rwa 8 .u16 30 (.span 5 600), rwa 9 .u16 10 (.span 1 2000), rwa 0x0A .u16 50 (.orCode 0 10 1000), wo 0x0B .u8 (.oneOf [1]),
   rov 0x0C .u16 0, ro 0x0D .time 0, ro 0x0E .u32 0, ro 0x0F .u32 0]

/-- Index 4101h (R421). -/
def rows4101 : List Row := [cst 0 .u8 3, rw 1 .bool 0 boolR, rw 2 .bool 0 boolR, rov 3 .u8 0]

/-- Indices 4110h to 411Fh (R421). -/
def rowsArb : List Row :=
  [cst 0 .u8 9, rw 1 .u16 0xFFFF .any, rw 2 .u64 0 .any, rw 3 .u64 0 .any, rov 4 .u8 0, rov 5 .u8 0,
   wo 6 .u8 (.oneOf [1, 2]), ro 7 .u32 0, ro 8 .time 0, ro 9 .u32 0]

/-- Index 3A00h (R438). -/
def rows3A00 : List Row :=
  [cst 0 .u8 0x15, rov 1 .u8 0, rwa 2 .bool 1 boolR, rwa 3 .u8 3 (.oneOf [0, 1, 3, 4, 5, 7]), rwa 4 .u8 8 (.span 0 15),
   rwa 5 .u8 2 (.span 0 2), rwa 6 .cdb 3000 (.oneOf [0, 600, 1200, 1800, 2400, 3000, 3600, 4200]),
   rwa 7 .cdb 0xEC78 (.span (-9000) (-2000)), rwa 8 .cdb 900 (.span 300 3000), rwa 9 .u16 600 (.span 0 1000),
   rwa 0x0A .u8 30 (.span 5 200), rwa 0x0B .u16 1000 (.span 300 7000), rwa 0x0C .cdb 0xF060 (.span (-6000) (-1000)),
   rwa 0x0D .u16 200 (.span 20 2000), rwa 0x0E .u16 500 (.span 100 10000), rwa 0x0F .bool 1 boolR, rwa 0x10 .bool 0 boolR,
   rwa 0x11 .bool 1 boolR, rov 0x12 .u16 0, ro 0x13 .u32 0, ro 0x14 .time 0, ro 0x15 .u32 0]

/-- Index 3A01h (R440). -/
def rows3A01 : List Row :=
  [cst 0 .u8 0x0C, rwa 1 .bool 1 boolR, rwa 2 .u8 2 (.span 0 2), ro 3 .u8 0, wo 4 .bool boolR, ro 5 .u32 0, ro 6 .u32 0,
   ro 7 .time 0, ro 8 .u32 0, ro 9 .u32 0, ro 0x0A .u8 0, ro 0x0B .u32 0, ro 0x0C .u32 0]

/-- Index 3A10h + r (R441). -/
def rowsReader : List Row :=
  [cst 0 .u8 5, rov 1 .u8 0, rw 2 .bool 0 boolR, rw 3 .s32 0xFFFFF830 (.span (-24576) 100), rov 4 .s32 0, rov 5 .u8 0]

/-- Index 3A20h + t (R441). -/
def rowsTemplate : List Row :=
  [cst 0 .u8 5, rwa 1 .bool 0 boolR, ro 2 .u8 0, ro 3 .u32 0, ro 4 .u32 0, ro 5 .u16 0]

/-- The codes of a write of `URGENT` or `URGENT_CONFIG` (R460): target, divider and channel within their fields. -/
def urgentOk (v : Nat) : Bool :=
  decide (v / 0x2000 ≠ 5) && decide (v / 0x2000 ≠ 6) && decide (v / 0x400 % 8 = 0) && decide (v / 0x20 % 8 = 0) &&
    decide (v % 0x20 ≤ 23)

/-- Index 2200h (R460). -/
def rows2200 : List Row :=
  [cst 0 .u8 0x15, rov 1 .u8 0, rwa 2 .bool 0 boolR, rwa 3 .u32 0 (.map 0x00FFFFFF 0), rwa 4 .u8 0 (.span 0 2),
   rwa 5 .u16 1000 (.span 1 60000), rwa 6 .u8 0 (.span 0 16), rwa 7 .u16 0 (.span 0 10000), rwa 8 .u8 0 (.span 0 2),
   rwa 9 .u8 0 (.span 0 2), rwa 0x0A .u8 0 (.span 0 2), wo 0x0B .bool boolR, rov 0x0C .u16 0, rov 0x0D .u32 20000000,
   rov 0x0E .u8 4, ro 0x0F .u32 0, ro 0x10 .u32 0, ro 0x11 .u32 0, ro 0x12 .u32 0, ro 0x13 .u32 0, wo 0x14 .u16 .any,
   rwa 0x15 .u16 0x0010 .any]

/-- Index 2201h (R462). -/
def rows2201 : List Row := cst 0 .u8 24 :: (List.range 24).map fun c => rwa (c + 1) .u8 0 (.span 0 3)

/-- Index 2210h (R462). -/
def rows2210 : List Row := [cst 0 .u8 1, ro 1 .u64 0]

/-- Index 2220h (R462). -/
def rows2220 : List Row := cst 0 .u8 0x18 :: (List.range 24).map fun c => ro (c + 1) .u64 0

/-- Index 2300h (R491). -/
def rows2300 : List Row :=
  [cst 0 .u8 0x0F, rov 1 .u8 0x48, rwa 2 .u8 1 (.span 0 3), rwa 3 .u8 0 (.span 0 2), rwa 4 .u16 0 (.map 0x3FF 0),
   rwa 5 .u16 7 (.map 0x3FF 0), rov 6 .u16 0, ro 7 .u32 0, ro 8 .u32 0, ro 9 .u32 0, ro 0x0A .u32 0, ro 0x0B .u32 0,
   ro 0x0C .u32 0, ro 0x0D .u32 0, ro 0x0E .u32 0, rov 0x0F .u8 0]

/-- Index 2301h (R492). -/
def rows2301 : List Row :=
  [cst 0 .u8 0x0A, rwa 1 .u8 1 (.span 0 2), rwa 2 .u8 1 (.span 0 3), rwa 3 .bool 0 boolR,
   rwa 4 .u8 0 (.oneOf (0 :: (List.range 0x70).map (· + 8))), rov 5 .u8 0, ro 6 .u32 0, ro 7 .u32 0, rov 8 .u32 0,
   rov 9 .u64 0, ro 0x0A .u32 0]

/-- Index 2302h (R493). -/
def rows2302 : List Row := [cst 0 .u8 4, rwa 1 .u8 0 (.oneOf [0, 1]), ro 2 .u32 0, ro 3 .u32 0, ro 4 .u32 0]

/-- Index 2303h (R493). -/
def rows2303 : List Row :=
  [cst 0 .u8 0x0C, rwa 1 .u8 0 (.span 0 2), rov 2 .u8 0, rov 3 .u32 0, rov 4 .u32 0, ro 5 .u32 0, wo 6 .bool boolR,
   rov 7 .u8 0, rov 8 .u16 0, rov 9 .u32 0, rw 0x0A .u32 0 .any, wo 0x0B .u8 (.oneOf [1, 2]), rov 0x0C .u8 0]

/-- Index 3B00h (R511). -/
def rows3B00 : List Row :=
  [cst 0 .u8 0x0D, rov 1 .u8 0, rov 2 .u16 0, rov 3 .u8 0, rov 4 .u16 0, rov 5 .u16 0, rov 6 .u8 0, ro 7 .u32 0, ro 8 .u32 0,
   ro 9 .u32 0, ro 0x0A .u32 0, rov 0x0B .u8 0, rwa 0x0C .bool 1 boolR, wo 0x0D .bool boolR]

/-- Index 3B40h (R512). -/
def rows3B40 : List Row := [cst 0 .u8 3, rov 1 .u16 0, rov 2 .u16 0, ro 3 .u32 0]

/-- Index 3B50h (R512). -/
def rows3B50 : List Row := [cst 0 .u8 3, rov 1 .u16 0, rwa 2 .u16 20 (.span 1 2000), ro 3 .u32 0]

/-- The rows of the capture and playback channels (R512), 128 channels to an index. -/
def rowCapture (i sub : Nat) : Option Row :=
  if sub = 0 then some (cst 0 .u8 0x80)
  else if 128 < sub then none
  else if i ≤ 0x3B42 then some (rwa sub .u32 0x10000001 (.map 0xFFE01FFF 0))
  else if i = 0x3B51 ∨ i = 0x3B52 then some (rwa sub .u32 0 (.map 0xF3E000FF 0))
  else some (rov sub .u8 0)

/-- Index 3B60h + t (R513). -/
def rowsTransport : List Row :=
  [cst 0 .u8 6, rw 1 .u8 0 (.oneOf [0, 1]), rw 2 .time 0 .any, rov 3 .u8 0, rov 4 .u32 0, rov 5 .time 0, rov 6 .u32 0]

/-- Index 2400h (R521). -/
def rows2400 : List Row :=
  [cst 0 .u8 8, wo 1 .bool boolR, rw 2 .time 0 .any, rw 3 .u32 0 .any, wo 4 .bool boolR, ro 5 .u32 0, ro 6 .time 0,
   ro 7 .u8 0, rov 8 .u8 0]

/-- Indices 2410h to 244Fh (R515). -/
def rowsCounter : List Row :=
  [cst 0 .u8 4, rwa 1 .u32 0 (.map 0x00FFFFFF 0), ro 2 .u64 0, ro 3 .u64 0, wo 4 .bool boolR]

/-- Index 2460h (R527). -/
def rows2460 : List Row :=
  [cst 0 .u8 5, rov 1 .u8 0, rw 2 .u16 0x1FF (.map 0x1FF 0), wo 3 .bool boolR, rw 4 .u8 0 (.oneOf [0, 1]), rov 5 .u8 0xFF]

/-- Index 2461h (R527): the nine results, `FIRST_FAIL` FFFFh before any run. -/
def rows2461 : List Row :=
  cst 0 .u8 9 :: (List.range 9).map fun t => ro (t + 1) .u32 0xFFFF

/-- The rows of a DOMAIN index with the highest sub `h` (R58, R507). -/
def rowsWindow : List Row :=
  [cst 0 .u8 4, rw 1 .domain 0 .any, rw 2 .u32 0 .any, rw 3 .u32 0 .any, rw 4 .u32 0 .any]

/-- Whether index `i` is one of the DOMAIN blocks (R57, R236, R252, R431, R486, R489, R507). -/
def isDomain (i : Nat) : Bool :=
  (decide (0x5000 ≤ i) && decide (i ≤ 0x50FF)) || (decide (0x5100 ≤ i) && decide (i ≤ 0x5107)) ||
    (decide (0x5200 ≤ i) && decide (i ≤ 0x52FF)) || i == 0x5F00 || i == 0x5F01

/-- The rows of the control, power, clock and diagnostic indices; empty for an index that is not present. -/
def rowsControl (i : Nat) : List Row :=
  if i = 0x1000 then rows1000 else if i = 0x1010 then rows1010 else if i = 0x1020 then rows1020
  else if i = 0x1100 then rows1100 else if i = 0x1F00 then rows1F00 else if i = 0x1F01 then rows1F01
  else if i = 0x2000 then rows2000 else if i = 0x2002 then rows2002 else if i = 0x2003 then rows2003
  else if i = 0x2004 then rows2004 else if i = 0x2005 then rows2005 else if i = 0x2006 then rows2006
  else if 0x2010 ≤ i ∧ i ≤ 0x201B then rowsPd (i - 0x2010)
  else if i = 0x2100 then rows2100 else if i = 0x2101 then rows2101
  else if 0x2104 ≤ i ∧ i ≤ 0x2106 then rowsSyn else if i = 0x2108 ∨ i = 0x2109 then rowsLoop
  else if 0x2110 ≤ i ∧ i ≤ 0x211F then rowsCd (i - 0x2110)
  else if 0x2120 ≤ i ∧ i ≤ 0x2123 then rowsCko
  else if i = 0x2200 then rows2200 else if i = 0x2201 then rows2201 else if i = 0x2210 then rows2210
  else if i = 0x2220 then rows2220 else if i = 0x2300 then rows2300 else if i = 0x2301 then rows2301
  else if i = 0x2302 then rows2302 else if i = 0x2303 then rows2303
  else if i = 0x2400 then rows2400 else if 0x2410 ≤ i ∧ i ≤ 0x244F then rowsCounter
  else if i = 0x2460 then rows2460 else if i = 0x2461 then rows2461
  else []

/-- The rows of the data-plane indices with one list of rows; empty for an index that is not present. -/
def rowsPlane (i : Nat) : List Row :=
  if 0x3001 ≤ i ∧ i ≤ 0x3030 then rowsIn (i - 0x3000)
  else if 0x3101 ≤ i ∧ i ≤ 0x3130 then rowsOut (i - 0x3100)
  else if i = 0x3200 then rows3200 else if i = 0x3201 ∨ i = 0x3202 then rowsHp
  else if 0x3210 ≤ i ∧ i ≤ 0x321F then rowsPwm
  else if 0x3301 ≤ i ∧ i ≤ 0x3310 then rowsSap
  else if i = 0x3400 then rows3400 else if i = 0x3401 then rows3401
  else if 0x3440 ≤ i ∧ i ≤ 0x344F then rowsGen (i - 0x3440)
  else if 0x3450 ≤ i ∧ i ≤ 0x345F then rowsLink
  else if 0x3500 ≤ i ∧ i ≤ 0x35FF then rowsBus else if 0x3600 ≤ i ∧ i ≤ 0x367F then rowsLane
  else if i = 0x3800 then rows3800 else if i = 0x3820 then rows3820
  else if 0x3821 ≤ i ∧ i ≤ 0x3828 then rowsCluster else if i = 0x3829 then rows3829
  else if 0x3830 ≤ i ∧ i ≤ 0x3837 then rowsGroup
  else if i = 0x3900 then rows3900
  else if i = 0x3A00 then rows3A00 else if i = 0x3A01 then rows3A01
  else if 0x3A10 ≤ i ∧ i ≤ 0x3A17 then rowsReader else if 0x3A20 ≤ i ∧ i ≤ 0x3A27 then rowsTemplate
  else if i = 0x3B00 then rows3B00 else if i = 0x3B20 then rows3B20
  else if i = 0x3B40 then rows3B40 else if i = 0x3B50 then rows3B50
  else if 0x3B60 ≤ i ∧ i ≤ 0x3B67 then rowsTransport
  else if i = 0x4000 then rows4000 else if i = 0x4001 ∨ i = 0x4002 then rowsPort else if i = 0x4003 then rows4003
  else if 0x4010 ≤ i ∧ i ≤ 0x401F then rowsFlowTx else if 0x4020 ≤ i ∧ i ≤ 0x403F then rowsFlowRx
  else if 0x4040 ≤ i ∧ i ≤ 0x404F then rowsAes
  else if i = 0x4100 then rows4100 else if i = 0x4101 then rows4101
  else if 0x4110 ≤ i ∧ i ≤ 0x411F then rowsArb
  else if 0x5200 ≤ i ∧ i ≤ 0x52FF then rowsWindow
  else if isDomain i then rowsDomain
  else []

/-- The row of index `i`, sub `sub`, if it is present (R46). -/
def rowOf (i sub : Nat) : Option Row :=
  if 0x3410 ≤ i ∧ i ≤ 0x341F then rowSink (i - 0x3410) sub (rw 0 .u32 0xFFF (.map 0xCFFF0FFF 0))
  else if 0x3420 ≤ i ∧ i ≤ 0x342F then rowSink (i - 0x3420) sub (rov 0 .u8 0)
  else if 0x3430 ≤ i ∧ i ≤ 0x343F then rowSink (i - 0x3430) sub (rov 0 .u32 0)
  else if 0x3910 ≤ i ∧ i ≤ 0x3943 then rowMeter i sub
  else if 0x3B21 ≤ i ∧ i ≤ 0x3B26 then rowDelay i sub
  else if (0x3B41 ≤ i ∧ i ≤ 0x3B44) ∨ (0x3B51 ≤ i ∧ i ≤ 0x3B54) then rowCapture i sub
  else ((if i < 0x3000 then rowsControl i else rowsPlane i).find? fun r => r.sub = sub)

/-- Whether index `i` is present (R46): its sub 00h is. -/
def indexPresent (i : Nat) : Bool := (rowOf i 0).isSome

/-- The key under which `State.objs` holds the value of index `i`, sub `sub`. -/
def key (i sub : Nat) : Nat := i * 256 + sub

/-- The default of the object at key `k`; 0 where no object is. -/
def objDefault (k : Nat) : Nat :=
  match rowOf (k / 256) (k % 256) with
  | some r => r.dflt
  | none => 0

/-- Whether the object at key `k` is held in PD_AO. -/
def objAo (k : Nat) : Bool :=
  match rowOf (k / 256) (k % 256) with
  | some r => r.ao
  | none => false

/-- The signed reading of the `n`-byte value `v` (R48). -/
def signed (n v : Nat) : Int := if v < 2 ^ (8 * n - 1) then (v : Int) else (v : Int) - 2 ^ (8 * n)

/-- The `n`-byte code of the integer `v`. -/
def unsigned (n : Nat) (v : Int) : Nat := (v % (2 ^ (8 * n) : Int)).toNat

/-- A CDB value in 0.01 dB, `none` for mute (R48). -/
def cdb (v : Nat) : Option Int := if v = 0x8000 then none else some (signed 2 v)

/-- Whether value `v` of type `ty` lies in the range `r` (R48). -/
def Rng.ok (r : Rng) (ty : Ty) (v : Nat) : Bool :=
  let x : Int := match ty with
    | .s16 => signed 2 v
    | .s32 => signed 4 v
    | .cdb => signed 2 v
    | _ => v
  match r with
  | .any => true
  | .span lo hi => decide (lo ≤ x) && decide (x ≤ hi)
  | .oneOf l => l.contains v
  | .map mask val => v &&& (mask ^^^ (2 ^ (8 * ty.size) - 1)) == val
  | .orMute lo hi => v == 0x8000 || (decide (lo ≤ x) && decide (x ≤ hi))
  | .orCode c lo hi => v == c || (decide (lo ≤ x) && decide (x ≤ hi))

end Sys2Proof.Machine
end

