-- ==== Sys2Proof/Machine/State.lean ====
section
/-!
DEFINITION. The state of the DK9648 as plain data: the dictionary's values, the control plane (queues, staging sets,
journal), modes and power, clocks, the data plane (samples, lanes, buses, ramps), the ports, the chain, the pair, the
listening path, the housekeeping converter, the host buses, the external memory and the counters; and the queue of
commands that wait.

A `Sparse` table lists only what differs from its default value.
-/

set_option autoImplicit false

namespace Sys2Proof.Machine

/-- Why the block stops. Nothing in the spec stops it: no meaning answers with a fault. -/
inductive Fault where
  /-- Raised by nobody; the type is kept for the host's interface. Safe. -/
  | stopped (reason : String)
deriving DecidableEq, Repr

/-- Why a command has no meaning. -/
inductive Refusal where
  /-- Raised by `exec` for a command without a meaning yet. Safe: the machine stops there. -/
  | notModelled (mnemonic : String)
deriving DecidableEq, Repr

/-- The phases of R43. -/
inductive Phase where
  | off | starting | running | draining | ramping | quiesced | fault
deriving DecidableEq, Repr

/-- A gain that moves from `g0` to `g1` (0.01 dB; `none` is mute) over `len` samples, of which `i` are done (R260).
At rest `i = len`, and the gain is `g1`. -/
structure Ramp where
  g0 : Option Rat
  g1 : Option Rat
  i : Nat
  len : Nat
deriving DecidableEq, Repr

/-- The gain at rest at `g`. -/
def Ramp.rest (g : Option Rat) : Ramp := { g0 := g, g1 := g, i := 0, len := 0 }

/-- What the rules R35 to R43 keep for one function. `bound` is the instant at which the time bound of R39 passes;
`wait` counts the samples that its start still holds back; `fade` is its own start and stop ramp; `mark` is the frame
at which it became QUIESCED; `dom` is the rate domain it last started in (R213); `gated` says that it reads OFF because
its clock or its ticks stopped (R550). -/
structure FuncState where
  phase : Phase
  forced : Bool
  startPending : Bool
  fade : Ramp
  bound : Nat
  wait : Nat
  mark : Nat
  dom : Nat
  gated : Bool
deriving DecidableEq, Repr

/-- A function that has never started since reset (R43: OFF). -/
def FuncState.off : FuncState :=
  { phase := .off, forced := false, startPending := false, fade := .rest none, bound := 0, wait := 0, mark := 0,
    dom := 0, gated := false }

/-! ## The control plane -/

/-- The origin rights of 1020h (R51, R52), apart from the other objects because power-on and RESET_N alone reset
them. -/
structure Rights where
  chainWrite : BitVec 32
  twb0Write : BitVec 32
  hspiWrite : BitVec 32
  chainRead : BitVec 32
  twb0Read : BitVec 32
  hspiRead : BitVec 32
  lock : Bool
deriving DecidableEq, Repr

/-- The defaults of R52. -/
def Rights.default : Rights :=
  { chainWrite := 0x003FFFFF, twb0Write := 0x003FFFFF, hspiWrite := 0x003FFFFF,
    chainRead := 0x003FFFFF, twb0Read := 0x003FFFFF, hspiRead := 0x003FFFFF, lock := false }

/-- One write of a staging set or of a commit: the object's key, its value, and the bytes of a block close. -/
structure WItem where
  key : Nat
  val : Nat
  block : List Byte
  seq : Nat
deriving DecidableEq, Repr

/-- An open DOMAIN buffer (R57): the index and the bytes, `LENGTH` of them. -/
structure BlockBuf where
  index : Nat
  data : List Byte
deriving DecidableEq, Repr

/-- A transaction that waits in its requester's queue (R61); `reply` says that its requester wants a response (R393). -/
structure QEntry where
  node : Nat
  reply : Bool
  body : List Byte
deriving DecidableEq, Repr

/-- A response body of R55, before it is laid out in bytes. -/
structure Response where
  op : Nat
  tid : Nat
  status : Nat
  seq : Nat
  data : List Byte
deriving DecidableEq, Repr

/-- What the control processor keeps for one requester (R50, R61, R64, R71, R79, R507). `commitId` is the
sequence number of the last accepted commit, whose parts `applied0` to `appliedMask` follow; `out` are the responses not
taken yet, `windows` the capture windows selected. `closed` says that its set was committed or discarded after it last staged or
placed its cursor (R50), `node` is the node number that its last transaction carried (R74). `lastBody`, `lastResp` and `lastAt` are the last request of a chain
requester, the response kept for it, and the instant of its sending (R393). -/
structure ReqState where
  queue : List QEntry
  staged : List WItem
  buffer : Option BlockBuf
  lastSeen : Nat
  stageTimeout : Nat
  commitAt : Nat
  lastStatus : Nat
  lastSeq : Nat
  commitId : Nat
  applied0 : Nat
  applied1 : Nat
  applied2 : Nat
  appliedMask : Nat
  cursor : Option Nat
  out : List Response
  lastBody : List Byte
  lastResp : Option Response
  lastAt : Nat
  windows : Sparse Nat
  closed : Bool
  node : Nat
deriving DecidableEq, Repr

/-- A requester that has sent nothing. -/
def ReqState.fresh : ReqState :=
  { queue := [], staged := [], buffer := none, lastSeen := 0, stageTimeout := 10000, commitAt := 0, lastStatus := 0,
    lastSeq := 0, commitId := 0, applied0 := 0, applied1 := 0, applied2 := 0, appliedMask := 0, cursor := none, out := [],
    lastBody := [], lastResp := none, lastAt := 0,
    windows := [], closed := false, node := 0xFFFF }

/-- The part of an accepted commit that waits for a tick of rate domain `dom` (R30, R65). `gated` parts are fabric
parts that wait for the core voltage (R245). `tracked` says that it came through `COMMIT` (R71). -/
structure Part where
  seq : Nat
  who : Requester
  node : Nat
  tracked : Bool
  dom : Nat
  at_ : Nat
  gated : Bool
  count : Nat
  first : Nat
  writes : List WItem
  keys : List Nat
deriving DecidableEq, Repr

/-- The kinds of journal entry (R74). -/
inductive EntryKind where
  | write | stage | commit | discard | system
deriving DecidableEq, Repr

/-- One journal entry (R74); its CHECK is computed from the other fields. -/
structure Entry where
  seq : Nat
  kind : EntryKind
  origin : Nat
  status : Nat
  node : Nat
  time : Nat
  index : Nat
  sub : Nat
  synced : Bool
  hashed : Bool
  value : Nat
deriving DecidableEq, Repr

/-- The journal (R73 to R80): the ring and the mirror ring newest first, the entries still to be mirrored, and the
push to the logger node. `drawn` says that EPOCH has been drawn since the journal was last lost (R76, R551). -/
structure Journal where
  head : Nat
  epoch : Nat
  drawn : Bool
  ring : List Entry
  mirror : List Entry
  mirrorOn : Bool
  mirrorNext : Nat
  mirrorGap : Option Nat
  pushNext : Nat
  pushAcked : Nat
  pushSentAt : Nat
deriving DecidableEq, Repr

/-! ## Modes and power -/

/-- A transition in progress (R85, R86, R87, R101). -/
inductive Trans where
  | none
  | descent (target : Mode) (at_ : Nat) (begun : Bool)
  | stagger (until_ : Nat)
  | wake
  | leave (at_ : Nat)
deriving DecidableEq, Repr

/-- The mode and what moves it (R82 to R95, R100, R101). `entered` is the mode CRIMSON was entered from; `late` holds
the SYSTEM entries (time, key, value) that wait for the control processor; `discards` the staging sets lost meanwhile
(requester, node, writes, first sequence number); `cause` bits 2:0 of CRIMSON_CAUSE as settled last and `seen` its sticky bits;
`clearAt` is the instant since which no cause is present. -/
structure ModeState where
  mode : Mode
  entered : Mode
  changedAt : Nat
  trans : Trans
  ashCause : Nat
  resetHigh : Bool
  resetAt : Nat
  clamping : Bool
  booted : Bool
  wakeBoot : Bool
  wakeTarget : Nat
  thermal : Bool
  thermalWarn : Bool
  low : List Rail
  cause : Nat
  seen : Nat
  clearAt : Nat
  clear : Bool
  ack : Bool
  noStart : Bool
  avsOk : Bool
  recipesLoaded : Bool
  ctlHeld : Bool
  late : List (Nat × Nat × Nat)
  discards : List (Requester × Nat × Nat × Nat)
  ioRearm : Nat
deriving DecidableEq, Repr

/-- The inrush governor (R97, R98): the balance in 0.1 µC, the queued starts as (domain, instant of the request) in
request order, and the instants of admission. -/
structure Governor where
  balance : Int
  window : Nat
  queue : List (Nat × Nat)
  admitted : Sparse Nat
deriving DecidableEq, Repr

/-- A PMBus transfer of the core-voltage requests (R105): the VOUT_MODE read, or a VOUT_COMMAND for `mV` with its data word in
LINEAR16. -/
inductive PmbusOp where
  | voutMode
  | request (mV word : Nat) (preRaise : Bool)
deriving DecidableEq, Repr

/-- The adaptive core voltage (R104 to R106, R245). `op` is the transfer in progress, or, after a failed attempt,
`waiting`; `first` says that the first request after TEAL entry is not acknowledged yet; `highSince` is the instant since
which the slack has been at or above `LOWER_SLACK`; `check` says that the next measurement is compared with the request;
`next` is a request that waits for the present transfer; `fabricAt` is the instant from which a fabric part may apply. -/
structure Avs where
  first : Bool
  op : Option PmbusOp
  waiting : Bool
  tries : Nat
  triedAt : Nat
  lost : Bool
  exponent : Nat
  evaluating : Bool
  evalAt : Nat
  highSince : Option Nat
  requestAt : Nat
  ackAt : Nat
  check : Bool
  next : Option PmbusOp
  fabricAt : Nat
deriving DecidableEq, Repr

/-! ## Clocks -/

/-- A multiplexer (R117 to R120): the source it passes, the source a waiting switch is for, and `SWITCH_STATE`. -/
structure MuxState where
  active : Nat
  want : Nat
  st : Nat
deriving DecidableEq, Repr

/-- What one synthesizer keeps beside its phase (R137 to R145): what the two methods declare, the instants of the acquisition in
progress (0: none), of the gating, of the last try's start, of the last lock and of the last end of measuring, and the settings that the
acquisition took: reference scale, method, window, qualification and loss counts. -/
structure SynState where
  pin : Bool
  window : Bool
  refLost : Bool
  acqAt : Nat
  gatedAt : Nat
  fails : Nat
  tryAt : Nat
  scale : Nat
  method : Nat
  winW : Nat
  winN : Nat
  unlockN : Nat
  lockAt : Nat
  stopAt : Nat
deriving DecidableEq, Repr

/-- A buffer-steered loop (R146, R147). -/
structure LoopState where
  st : Nat
  steer : Int
  fill : Int
  since : Nat
  goodSince : Nat
  mean : Int
  updAt : Nat
  slopeFill : Int
  hist : List Int
  leaving : Bool
deriving DecidableEq, Repr

/-- The settings that a clock output runs with (R149 to R152), and the instant until which a change of them keeps it low. -/
structure CkoSt where
  src : Nat
  div : Nat
  format : Nat
  invert : Bool
  lowUntil : Nat
deriving DecidableEq, Repr

/-- A clock output that has not run: the defaults of R152. -/
def CkoSt.off : CkoSt := { src := 0, div := 1, format := 0, invert := false, lowUntil := 0 }

/-- The oscillators, multiplexers, gates, synthesizers, loops and clock outputs. `pwmDepth` and `pwmRate` are the spread of the present
triangle period, which began at `triAt` (R132); `lpoAt` is the instant from which PTP time has run on LPO (R121); `workAt` holds, by
clock domain, when its blocks last had work (R122). -/
structure Clocks where
  amp : Bool
  stable : Bool
  lost : Bool
  freqBad : Bool
  armed : Bool
  countAt : Nat
  amberAt : Nat
  muxes : Sparse MuxState
  closed : List Nat
  synA : SynState
  synB : SynState
  synS : SynState
  loopA : LoopState
  loopB : LoopState
  pwmDepth : Nat
  pwmRate : Nat
  triAt : Nat
  lpoAt : Nat
  workAt : Sparse Nat
  ckos : Sparse CkoSt
deriving DecidableEq, Repr

/-- An armed snapshot (R519, R520). -/
structure Snap where
  at_ : Nat
  tag : Nat
  chain : Bool
  late : Bool
deriving DecidableEq, Repr

/-! ## Samples and analog inputs -/

/-- A sample word with its five tags (R187, R188). -/
structure Sample where
  w : Word
  v : Bool
  o : Bool
  s : Bool
  n : Bool
  q : Bool
deriving DecidableEq, Repr

/-- What a function that is OFF or in FAULT presents (R189). -/
def Sample.off : Sample := { w := 0, v := false, o := false, s := false, n := false, q := true }

/-- What a function that is QUIESCED presents, and an unrouted sink receives (R189, R202). -/
def Sample.quiet : Sample := { w := 0, v := true, o := false, s := false, n := false, q := true }

/-- The steps of a cycle that takes a channel to silence and back: a selection change (R167) or a phantom switching
(R183). `out` ramps to silence, `held` keeps it, `back` ramps in. -/
inductive Cycle where
  | idle | out | held | back
deriving DecidableEq, Repr

/-- An input channel (R154 to R184): the gain ramp in 0.01 dB of total gain, the total gain apart from a ramp to or from silence (`base`),
the selection, filter, range and high-pass in use, the DC that the high-pass removes, the V=0 samples left, the selection and phantom cycles, the overload, neighbour and clip bookkeeping, the path
of the combiner and the instant of its last change to the low-gain path, and the phantom switch and fault bits. `run` is 1 in a run of clipped samples and 2 once that run
contains an overload; `phRun` counts the frames with the fault bit `phBit`. -/
structure InputCh where
  gain : Ramp
  base : Rat
  sel : Nat
  filter : Nat
  range : Nat
  hpf : Bool
  dc : Int
  bad : Nat
  badQ : Nat
  selCyc : Cycle
  phCyc : Cycle
  phUntil : Nat
  phOn : Bool
  phTrip : Bool
  phFault : Bool
  phRun : Nat
  phBit : Bool
  ovl : Bool
  run : Nat
  clamp : Bool
  neigh : Nat
  overAt : Option Nat
  neg : Bool
  lg : Bool
  lgAt : Nat
  last : Sample
deriving DecidableEq, Repr

/-- A channel in its reset settings. -/
def InputCh.reset : InputCh :=
  { gain := .rest none, base := 0, sel := 0, filter := 0, range := 0, hpf := true, dc := 0, bad := 0, badQ := 0, selCyc := .idle,
    phCyc := .idle, phUntil := 0, phOn := false, phTrip := false, phFault := false, phRun := 0,
    phBit := false, ovl := false, run := 0, clamp := false, neigh := 0, overAt := none,
    neg := false, lg := false, lgAt := 0, last := .quiet }

/-- The reference buffer of an input group (R174, R176). -/
structure RefGroup where
  on : Bool
  settled : Bool
  settleAt : Nat
  fault : Bool
  faultAt : Nat
deriving DecidableEq, Repr

/-- A reference that is off. -/
def RefGroup.off : RefGroup := { on := false, settled := false, settleAt := 0, fault := false, faultAt := 0 }

/-- The phantom pins (R181, R182): the instant of the last frame, and whether a switch bit has changed since. -/
structure Phantom where
  lastAt : Nat
  due : Bool
deriving DecidableEq, Repr

/-! ## Router and rate domains -/

/-- A crossfade of a route from the source `old` (R203). -/
structure XFade where
  old : Nat
  pos : Nat
  len : Nat
deriving DecidableEq, Repr

/-- The route of one sink (R199 to R207): the source in use, its crossfade, the run of concealed samples, the last valid
sample since the route last changed, how far its start fade of `len` samples came, whether a change with CUT waits for the domain, and what
the router gave last. -/
structure RouteState where
  src : Nat
  xf : Option XFade
  hold : Nat
  holding : Bool
  last : Option Sample
  pos : Nat
  len : Nat
  cut : Bool
  outp : Sample
deriving DecidableEq, Repr

/-- A sink without a route. -/
def RouteState.none : RouteState :=
  { src := 0xFFF, xf := .none, hold := 0, holding := false, last := .none, pos := 0, len := 0, cut := false,
    outp := .quiet }

/-- The steps of an ASRC or bridge channel (R216, R217). -/
inductive AsrcPhase where
  | acquiring | rampIn | pass | falling | lost
deriving DecidableEq, Repr

/-- A granted channel of the pool (R214 to R218): the point it converts, whether that is a sink, the domains of its two
sides (3 for a foreign clock), its step, the samples done in it, its input samples with their instants, newest first, the instant
at which its acquisition began, and the input period in ns that it measured then (0 before). -/
structure AsrcCh where
  point : Nat
  sink : Bool
  inDom : Nat
  outDom : Nat
  phase : AsrcPhase
  pos : Nat
  buf : List (Nat × Sample)
  at_ : Nat
  per : Nat
  outp : Sample
deriving DecidableEq, Repr

/-- A rate domain (R19, R24): whether it issues ticks, its rate, its frame count, whether its first tick is still to
come, the instant of its last tick, and the frame at which its present meter period began (R275). -/
structure DomState where
  running : Bool
  rate : Nat
  frame : Nat
  fresh : Bool
  tickAt : Nat
  meterAt : Nat
deriving DecidableEq, Repr

/-- A domain that issues no ticks. -/
def DomState.off : DomState := { running := false, rate := 48000, frame := 0, fresh := true, tickAt := 0, meterAt := 0 }

/-- A generator (R220, R221): its level ramp, its phase in cycles × 100 × rate, and the samples made. -/
structure GenState where
  level : Ramp
  ph : Nat
  k : Nat
deriving DecidableEq, Repr

/-- A generator at its defaults. -/
def GenState.reset : GenState := { level := .rest (some (-2000)), ph := 0, k := 0 }

/-- The router and the rate domains. `sinks` holds the sample last delivered to each sink point, `outs` what each
computed source point presents; `relayout` marks a layout change that waits for its functions (R213); `xfades` holds, by sink, the
`XFADE_DEFAULT` under which its last route change was committed (R210). -/
structure Router where
  routes : Sparse RouteState
  sinks : Sparse Sample
  outs : Sparse Sample
  asrc : Sparse (Option AsrcCh)
  doms : Sparse DomState
  gens : Sparse GenState
  relayout : Bool
  xfades : Sparse Nat
deriving DecidableEq, Repr

/-! ## The processing fabric -/

/-- One block of a recipe (R226, R237): its type, size, slots, parameter bytes and initial live value. -/
structure RBlock where
  ty : Nat
  size : Nat
  a : Nat
  b : Nat
  y : Nat
  z : Nat
  params : List Byte
  live : Nat
deriving DecidableEq, Repr

/-- What a block remembers from frame to frame (R229 to R235, R251): its live value and bypass bit, its gain or trim
ramp, the crossfade of 64 samples in progress (`xf` samples done of a change from `old`, or of the bypass), its line of
past samples newest first, its filter memories, and its counters. -/
structure BlockSt where
  live : Nat
  byp : Bool
  ramp : Ramp
  xf : Nat
  old : Nat
  xfByp : Nat
  line : List Sample
  regs : List Int
  hold : List Nat
  valid : Option Sample
deriving DecidableEq, Repr

/-- A lane (R222 to R256): its installed recipe and the recipe that waits to replace it, its blocks' memories, the frame
in progress with its inputs, its results, its run of late frames, its pages and its slack. -/
structure LaneState where
  prog : List RBlock
  next : Option (List Byte)
  st : List BlockSt
  busy : Bool
  in0 : Sample
  in1 : Sample
  done : Bool
  out0 : Sample
  out1 : Sample
  new : List BlockSt
  taps : List Sample
  newTaps : List Sample
  lateRun : Nat
  lateRamp : Nat
  lateMute : Bool
  coefPages : Nat
  statePages : Nat
  replacing : Bool
  slackMs : Nat
  slackSec : Nat
deriving DecidableEq, Repr

/-- A lane with the empty recipe (R236). -/
def LaneState.empty : LaneState :=
  { prog := [], next := none, st := [], busy := false, in0 := .quiet, in1 := .quiet, done := false, out0 := .quiet,
    out1 := .quiet, new := [], taps := [], newTaps := [], lateRun := 0, lateRamp := 0, lateMute := false, coefPages := 0,
    statePages := 0,
    replacing := false, slackMs := 1000, slackSec := 1000 }

/-- The slack windows of the fabric (R246, R257, R259): the end of the present millisecond and second, and, by cluster,
the lowest slack of the last completed ones and the lane that set it. -/
structure SlackWin where
  msEnd : Nat
  secEnd : Nat
  ms : Sparse Nat
  sec : Sparse Nat
  worst : Sparse Nat
deriving DecidableEq, Repr

/-! ## Buses, meters, direct links, delay lines -/

/-- A contribution of a bus (R267, R272): its source, its weight ramp, and the source it crosses over from or ramps out
(`old`), with the position of that crossfade. -/
structure Contrib where
  src : Nat
  ramp : Ramp
  old : Option Nat
  oldRamp : Ramp
  xf : Nat
  xfLen : Nat
deriving DecidableEq, Repr

/-- An inactive contribution. -/
def Contrib.unused : Contrib :=
  { src := 0xFFF, ramp := .rest .none, old := .none, oldRamp := .rest .none, xf := 0, xfLen := 0 }

/-- A mix bus (R263 to R270): the ramp of its gain and mute, its contributions, the result of the frame in progress, and
the instants and runs that `BUS_STATUS` shows. -/
structure BusState where
  gain : Ramp
  contribs : Sparse Contrib
  next : Sample
  satRun : Bool
  satAt : Option Nat
  lateAt : Option Nat
deriving DecidableEq, Repr

/-- A bus without contributions. -/
def BusState.none : BusState :=
  { gain := .rest .none, contribs := [], next := .quiet, satRun := false, satAt := .none, lateAt := .none }

/-- A meter (R275 to R278): the running period (largest magnitude, sum of squares, valid samples, tags), the last 30
periods' sums, and what was published last; `age` counts the periods since PEAK_HELD was last reached. -/
structure Meter where
  peak : Nat
  sum : Nat
  cnt : Nat
  tags : Nat
  rms : List (Nat × Nat)
  now : Nat
  held : Nat
  age : Nat
  oHeld : Bool
  seen : Nat
  wasRead : Bool
  hist : List Word
deriving DecidableEq, Repr

/-- A meter that has just restarted (R281). -/
def Meter.fresh : Meter :=
  { peak := 0, sum := 0, cnt := 0, tags := 0, rms := [], now := 0, held := 0, age := 0, oHeld := false, seen := 0,
    wasRead := false, hist := [] }

/-- A direct link (R282 to R287): the ramp of its gain, the ramp of the routed signal that it replaces, the samples it
still holds its output for, whether an event of its input keeps it silent, the analog range it compensates, its last sample, and the
samples of the last tick, each with the gain of the routed signal and whether it was clamped; and the input, the sink and the mode
with which it started. -/
structure LinkState where
  gain : Ramp
  routed : Ramp
  holdLeft : Nat
  silent : Bool
  range : Nat
  val : Int
  outs : List (Int × Option Rat × Bool)
  input : Nat
  sink : Nat
  replace : Bool
deriving DecidableEq, Repr

/-- A link at rest. -/
def LinkState.none : LinkState :=
  { gain := .rest .none, routed := .rest (some 0), holdLeft := 0, silent := true, range := 0, val := 0, outs := [],
    input := 0, sink := 0xFFF, replace := false }

/-- An external delay line (R290 to R294): what it holds, newest first, its delay in use and the one it crosses over
from, its pages, the samples written since its start, the sink that it feeds, and the ramp-in of the undelayed signal at the sink
that it has left. -/
structure DelayLine where
  buf : List Sample
  d : Nat
  old : Nat
  xf : Nat
  pages : Nat
  written : Nat
  sink : Nat
  left : Nat
  after : Ramp
deriving DecidableEq, Repr

/-- A line that is not in use. -/
def DelayLine.none : DelayLine :=
  { buf := [], d := 32, old := 32, xf := 64, pages := 0, written := 0, sink := 0xFFF, left := 0xFFF,
    after := .rest (some 0) }

/-! ## Outputs -/

/-- The current-limit supervision of one channel (R317): consecutive windows with the limit active, windows since it was
last active, whether the channel has tripped, is retrying, and the windows of the retry that were clean. -/
structure LimitSt where
  run : Nat
  quiet : Nat
  tripped : Bool
  retrying : Bool
  clean : Nat
  retryAt : Nat
deriving DecidableEq, Repr

/-- A limit that has never been active. -/
def LimitSt.idle : LimitSt :=
  { run := 0, quiet := 10, tripped := false, retrying := false, clean := 0, retryAt := 0 }

/-- A line output (R296 to R320): the mode, full scale and filter in use, the ramp of trim and mute, the samples in its
interpolation filter, the values it converts in the period, 8 for each base-rate period, the control-voltage code with its fade (`cvHold` is the frame in which it began), a change of
mode that waits for its stop or for its 1 ms, and its supervision. -/
structure OutCh where
  mode : Nat
  scale : Nat
  filter : Nat
  gain : Ramp
  hist : List Word
  conv : List Int
  code : Option Nat
  cvFrom : Nat
  cvTo : Nat
  cvJ : Nat
  cvLen : Nat
  cvSrc : Nat
  fading : Bool
  cvHold : Option Nat
  clipAt : Option Nat
  hvLow : Bool
  switchAt : Option Nat
  switching : Bool
  limit : LimitSt
deriving DecidableEq, Repr

/-- A line output that has not run. -/
def OutCh.reset : OutCh :=
  { mode := 0, scale := 0, filter := 0, gain := .rest none, hist := [], conv := [], code := none, cvFrom := 0, cvTo := 0,
    cvJ := 0, cvLen := 0, cvSrc := 0, fading := false, cvHold := none, clipAt := none, hvLow := false, switchAt := none, switching := false,
    limit := .idle }

/-- A headphone output (R321 to R327), with its jack: the state code, the instant of the last edge, the plug's level and
the loads. -/
structure HpCh where
  gain : Ramp
  range : Nat
  filter : Nat
  rangeCyc : Cycle
  histL : List Word
  histR : List Word
  convL : List Int
  convR : List Int
  clipAt : Option Nat
  limitL : LimitSt
  limitR : LimitSt
  jack : Nat
  edgeAt : Nat
  absentAt : Option Nat
  present : Bool
  level : Bool
  loadL : Nat
  loadR : Nat
deriving DecidableEq, Repr

/-- A headphone output that has not run, without a plug. -/
def HpCh.reset : HpCh :=
  { gain := .rest none, range := 0, filter := 0, rangeCyc := .idle, histL := [], histR := [], convL := [], convR := [],
    clipAt := none, limitL := .idle, limitR := .idle, jack := 0, edgeAt := 0, absentAt := none, present := false,
    level := true, loadL := 0xFFFF, loadR := 0xFFFF }

/-- The steps of a PWM start and stop (R330, R331). -/
inductive PwmStep where
  | safe | lead | settle | run | stop
deriving DecidableEq, Repr

/-- A PWM output (R328 to R333). -/
structure PwmCh where
  step : PwmStep
  at_ : Nat
  gain : Ramp
  hist : List Word
  conv : List Int
  clipAt : Option Nat
  edgeAt : Option Nat
deriving DecidableEq, Repr

/-- A PWM output at its safe level. -/
def PwmCh.reset : PwmCh :=
  { step := .safe, at_ := 0, gain := .rest none, hist := [], conv := [], clipAt := none, edgeAt := none }

/-- A bias: off, rising, ready or falling (R313, R315), and since when. -/
structure BiasSt where
  st : Nat
  at_ : Nat
deriving DecidableEq, Repr

/-- What a ball of an output carries (R299, R312 to R316, R331): nothing, a clamp to AGND, a common mode or bias that rises, falls or
stands without a signal, the soft clamp, the signal, a control-voltage code, a logic level, or the electrical idle of a chain port. -/
inductive BallState where
  | highZ
  | agnd
  | moving
  | muted
  | soft
  | signal
  | code (c : Nat)
  | low
  | high
  | idle
deriving DecidableEq, Repr

/-- The outputs, with what they share: the biases, the soft clamp and mute of the safe state (R129, R314, R315), talkback (R91), and
the clamp switches to AGND of the line balls of each bank and of the headphone balls (R312), true where closed. -/
structure Outputs where
  line : Sparse OutCh
  hp : Sparse HpCh
  pwm : Sparse PwmCh
  cmA : BiasSt
  cmB : BiasSt
  hpBias : BiasSt
  safe : Bool
  safeAt : Nat
  talkback : Bool
  agndA : Bool
  agndB : Bool
  agndHp : Bool
deriving DecidableEq, Repr

/-! ## Serial ports -/

/-- A frame in an elastic buffer (R344): its samples by slot, the frame count of the tick that wrote or will read it,
the instant of its first bit (receive) or of the tick that wrote it (transmit), and whether it is the first with a new
mask (R350). -/
structure SapFrame where
  slots : List Sample
  tick : Nat
  at_ : Nat
  first : Bool
deriving DecidableEq, Repr

/-- A mask that waits for its frame start (R349): the mask, the instant of its tick, whether it was deferred, and
whether the port has applied it. -/
structure MaskWait where
  mask : Nat
  at_ : Nat
  deferred : Bool
  applied : Bool
deriving DecidableEq, Repr

/-- One direction of a serial port (R337 to R360): the configuration and mask in use, the framing measured so far, the
buffer oldest first, what is on the line, the waiting mask, the instants and bits of its status, the fill and the latency
measured last, the slips of its own since the last tick (`ins`, `del`) and what its group makes it do at the present tick
(`slipNow`, `dropNext`). `restart` marks a mask that a restart has taken (R350); `oldMask` is the mask of the frame before the present one where that
had another. -/
structure SapDirSt where
  cfg : Nat
  mask : Nat
  f : Nat
  good : Nat
  startAt : Nat
  buf : List SapFrame
  ready : Bool
  line : List Word
  wait : Option MaskWait
  oldMask : Option Nat
  slipAt : Option Nat
  framingAt : Option Nat
  clockLost : Bool
  supply : Bool
  alignLost : Bool
  ins : Bool
  del : Bool
  doneAt : Nat
  maskDue : Bool
  restart : Bool
  slipNow : Bool
  dropNext : Bool
  fill : Int
  delay : Option Nat
deriving DecidableEq, Repr

/-- A direction that has not run. -/
def SapDirSt.off : SapDirSt :=
  { cfg := 0xA80F1000, mask := 0xFF, f := 0, good := 0, startAt := 0, buf := [], ready := false, line := [],
    wait := none, oldMask := none, slipAt := none, framingAt := none, clockLost := false, supply := false, alignLost := false,
    ins := false, del := false, doneAt := 0, maskDue := false, restart := false,
    slipNow := false, dropNext := false, fill := 0, delay := none }

/-! ## The chain -/

/-- What the node sends on its chain ports, beacons included. A beacon request without an origin is one that the node forwards with the
origin it came with. -/
inductive Sent where
  | hello (port : ChPort) (uid node headUid headPrio rate : Nat)
  | cycleStart (port : ChPort) (f : CycleStartFrame)
  | audio (port : ChPort) (f : AudioFrame)
  | forward (port : ChPort) (f : ChainFrame)
  | transaction (node : Nat) (f : TransFrame)
  | topology (port : ChPort) (m : TopoMsg)
  | push (node epoch : Nat) (entries : List Entry)
  | share (m : ShareMsg)
  | pair (bytes : List Byte) (dst kind : Nat)
  | snapshot (at_ tag : Nat)
  | beaconRequest (target : Nat) (origin : Option Nat)
  | beacon (port : ChPort) (target hops : Nat) (valid : Bool)
  | rtp (port : ChPort) (src dscp : Nat) (p : RtpPacket)
deriving DecidableEq, Repr

/-- A chain port (R363 to R365, R375, R401): its code of `PORT_STATE`, the instants of link-up, of the first HELLO taken and
the last one sent, and the peer-delay exchanges done with the instant of the last. -/
structure PortSt where
  st : Nat
  up : Bool
  upAt : Nat
  helloAt : Option Nat
  sentAt : Nat
  exchanges : Nat
  delayAt : Nat
deriving DecidableEq, Repr

/-- A port without a link. -/
def PortSt.down : PortSt :=
  { st := 1, up := false, upAt := 0, helloAt := none, sentAt := 0, exchanges := 0, delayAt := 0 }

/-- A member as the head keeps it (R371, R375): its unique ID (0 where only its number is known), its number and granted slots. -/
structure Member where
  uid : Nat
  number : Nat
  slots : Nat
deriving DecidableEq, Repr

/-- A transmit flow (R382, R387, R388): the cycle in progress with its samples, the ended cycles that wait to be sent
(oldest first), the offset of its group slips, NO_SLOT, and what its group makes it do at the present tick. -/
structure FlowTxSt where
  cycle : Nat
  block : List (List Sample)
  full : List (Nat × List (List Sample))
  offset : Int
  noSlot : Bool
  slipNow : Bool
  dropNext : Bool
deriving DecidableEq, Repr

/-- A flow that sends nothing. -/
def FlowTxSt.off : FlowTxSt :=
  { cycle := 0, block := [], full := [], offset := 0, noSlot := false, slipNow := false, dropNext := false }

/-- A receive flow (R384 to R388): the samples that wait by the tick index of their sender, from the source and from the
alternative, and the cycles taken from each; the run of cycles without a usable block and the last of them; the source in
use with the samples done of its crossfade; the instants of the last frames and their STANDBY bits; the ramp of a return
from LOST or of a presentation change (`cyc`), the delay in use, the group offset, and the instants its status shows. -/
structure FlowRxSt where
  buf : List (Nat × List Sample)
  alt : List (Nat × List Sample)
  seen : List Nat
  altSeen : List Nat
  missRun : Nat
  missCycle : Option Nat
  lost : Bool
  onAlt : Bool
  standby : Bool
  altStandby : Bool
  primAt : Nat
  altAt : Nat
  xf : Nat
  gain : Ramp
  cyc : Cycle
  pres : Nat
  offset : Int
  alignLost : Bool
  slipNow : Bool
  missAt : Option Nat
  lateAt : Option Nat
  formatAt : Option Nat
  clockAt : Option Nat
deriving DecidableEq, Repr

/-- A flow that has received nothing. -/
def FlowRxSt.off : FlowRxSt :=
  { buf := [], alt := [], seen := [], altSeen := [], missRun := 0, missCycle := none, lost := false, onAlt := false,
    standby := false, altStandby := false, primAt := 0, altAt := 0, xf := 64, gain := .rest (some 0), cyc := .idle,
    pres := 16, offset := 0, alignLost := false, slipNow := false, missAt := none, lateAt := none, formatAt := none,
    clockAt := none }

/-- The servo that steers SYN_A and SYN_B in a chain (R379, R380): the steer in ppb that it had at an instant and the one it goes to, its
largest change in a millisecond, and its steers of the last second, one for each millisecond. -/
structure Servo where
  from_ : Int
  goal : Int
  at_ : Nat
  rate : Nat
  hist : List Int
  histAt : Nat
deriving DecidableEq, Repr

/-- A servo that steers nothing. -/
def Servo.rest : Servo := { from_ := 0, goal := 0, at_ := 0, rate := 0, hist := [], histAt := 0 }

/-- The node in its chain (R371 to R381, R398 to R402); `headPrio` is the `HEAD_PRIORITY` of its head as the HELLOs tell it, and `beatCycle` the
cycle of its last pair beats (R410). -/
structure Net where
  cha : PortSt
  chb : PortSt
  st : Nat
  node : Nat
  headId : Nat
  headPrio : Nat
  position : Nat
  nodes : Nat
  topology : Nat
  flags : Nat
  everSync : Bool
  csAt : Nat
  claimAt : Option Nat
  best : Option (Nat × Bool × Nat)
  retryAt : Nat
  offset : Int
  goodSince : Nat
  holdAt : Nat
  servo : Servo
  presentation : Nat
  presNext : Option (Nat × Nat)
  members : List Member
  cycle : Nat
  beaconAt : Option Nat
  requestAt : Option Nat
  extLocked : Bool
  beatCycle : Option Nat
  txFlows : Sparse FlowTxSt
  rxFlows : Sparse FlowRxSt
  sent : List Sent
deriving DecidableEq, Repr

/-- A node without a link. -/
def Net.reset : Net :=
  { cha := .down, chb := .down, st := 0, node := 0xFFFF, headId := 0, headPrio := 0, position := 0xFFFF, nodes := 0, topology := 0,
    flags := 0, everSync := false, csAt := 0, claimAt := none, best := none, retryAt := 0, offset := 0,
    goodSince := 0, holdAt := 0, servo := .rest, presentation := 16, presNext := none, members := [], cycle := 0, beaconAt := none,
    requestAt := none, extLocked := false, beatCycle := none, txFlows := [], rxFlows := [], sent := [] }

/-! ## Pairs -/

/-- The member's side of a pair (R406 to R420). `granted` says that it holds the newest grant; `step` counts the steps
of R414 (0 none, 1 ACT_OUT low, 2 drivers on, 3 ramp started); `ramp` is the takeover or release ramp; `cause` is the
cause of a release that runs (R420), and `sentHealth` the HEALTH it told last. -/
structure PairMember where
  role : Nat
  epoch : Nat
  granted : Bool
  driving : Bool
  peerHigh : Bool
  peerLowAt : Nat
  waitAt : Option Nat
  blocked : Bool
  conflict : Bool
  arbLost : Bool
  arbAt : Nat
  switchAt : Option Nat
  holdoffAt : Option Nat
  revertReq : Bool
  checkAt : Option Nat
  checkOk : Bool
  stepAt : Nat
  step : Nat
  ramp : Ramp
  cause : Nat
  leaving : Bool
  selfReleased : Bool
  drivenAt : Nat
  sentHealth : Nat
deriving DecidableEq, Repr

/-- A member that is not in a pair. -/
def PairMember.reset : PairMember :=
  { role := 0, epoch := 0, granted := false, driving := false, peerHigh := true, peerLowAt := 0, waitAt := none,
    blocked := false, conflict := false, arbLost := false, arbAt := 0, switchAt := none, holdoffAt := none,
    revertReq := false, checkAt := none, checkOk := false, stepAt := 0, step := 0, ramp := .rest none, cause := 0,
    leaving := false, selfReleased := false, drivenAt := 0, sentHealth := 0 }

/-- What the arbiter knows of one member (R411, R412): the instant of its last heartbeat and what it said, whether one
came in the present window, the run of missed windows, and whether it has asked for a revert, which only a primary does. -/
structure ArbMember where
  beatAt : Option Nat
  health : Nat
  role : Nat
  got : Bool
  missed : Nat
  failed : Bool
  primary : Bool
  win : Nat
deriving DecidableEq, Repr

/-- A member that has sent nothing. -/
def ArbMember.none : ArbMember :=
  { beatAt := .none, health := 0, role := 0, got := false, missed := 0, failed := false, primary := false, win := 0 }

/-- One pair of the arbiter (R404, R411 to R417): whether it has started, the holder (0 none), its `ARB_STATE`, the
newest epoch received or granted, the instant of a pending REVOKE, the member to be granted after it, whether the change
is a failover or a revert, whether the clash of preferences has been counted, and the members that requests made during a change name,
oldest first. -/
structure ArbPair where
  on : Bool
  startAt : Nat
  holder : Nat
  st : Nat
  epoch : Nat
  m0 : ArbMember
  m1 : ArbMember
  revokeAt : Option Nat
  next : Nat
  failover : Bool
  revert : Bool
  prefSeen : Bool
  queue : List Nat
deriving DecidableEq, Repr

/-- A pair that is not arbitrated. -/
def ArbPair.off : ArbPair :=
  { on := false, startAt := 0, holder := 0, st := 0, epoch := 0, m0 := .none, m1 := .none, revokeAt := .none, next := 0,
    failover := false, revert := false, prefSeen := false, queue := [] }

/-! ## Listening -/

/-- A matcher window (R428): when it opened, whether the pre-arm seeded it, whether it was open at a wake and during a
descent, the energy at its opening and the matcher frames 10 dB below it in a row, the templates in use (number, threshold, and the best and the present
score). -/
structure MatchWin where
  openedAt : Nat
  seeded : Bool
  acrossWake : Bool
  acrossDescent : Bool
  level : Nat
  low : Nat
  temps : Sparse (Nat × Nat × Nat)
deriving DecidableEq, Repr

/-- The listening path (R422 to R439). `powers` are the mean squares of the last 1000 frames, newest first; `hist` is the
feature history, newest first: the energy of each matcher frame with those of its bands; `since` counts those since the onset that opened the gate; `feed` is the awake
feed, `feedXf` the samples done of a feed switch; `prearm` is the step of R436; `front` is the front end; `frameAt` is the instant of the last
frame, and `tenth` counts the frames that no matcher frame holds yet. -/
structure Listen where
  gate : Bool
  powers : List Nat
  preroll : List (List Word)
  voice : Bool
  voiceRun : Nat
  pauseRun : Nat
  pilot : Bool
  pilotRun : Nat
  heardAt : Nat
  stage2 : Bool
  frameAt : Option Nat
  tenth : Nat
  hist : List (Nat × List Nat)
  since : Nat
  win : Option MatchWin
  feed : Bool
  feedXf : Nat
  feedDue : Bool
  returnDue : Bool
  front : Bool
  frontAt : Nat
  frontOk : Bool
  prearm : Nat
  voiceAt : Option Nat
  awake1 : List Sample
  awake2 : List Sample
deriving DecidableEq, Repr

/-- A path that has heard nothing. -/
def Listen.reset : Listen :=
  { gate := false, powers := [], preroll := [], voice := false, voiceRun := 0, pauseRun := 0, pilot := false,
    pilotRun := 0, heardAt := 0, stage2 := false, frameAt := none, tenth := 0, hist := [], since := 0, win := none, feed := false, feedXf := 16,
    feedDue := false, returnDue := false, front := false, frontAt := 0, frontOk := false, prearm := 0,
    voiceAt := none, awake1 := [], awake2 := [] }

/-- The pre-wake ring (R432, R433): its state code, the samples it holds (newest first), whether a splice is due, the
write index of the last splice if the ring has not recorded afresh since, and the samples of the overlap still to come. -/
structure Ring where
  st : Nat
  audio : List Word
  spliceDue : Bool
  splice : Option Nat
  left : Nat
deriving DecidableEq, Repr

/-- An empty ring. -/
def Ring.reset : Ring := { st := 0, audio := [], spliceDue := false, splice := none, left := 0 }

/-- A ring reader (R434): the write index of the sample it plays, and whether it reached the end. -/
structure Reader where
  pos : Int
  atEnd : Bool
  outp : Sample
deriving DecidableEq, Repr

/-- A reader that has not played. -/
def Reader.off : Reader := { pos := 0, atEnd := false, outp := .off }

/-! ## Housekeeping -/

/-- A conversion on a slice (R446, R454, R455, R457): channel, divider field, trigger code, start, duration T_c, and its
flags. -/
structure HkConv where
  ch : Nat
  div : Nat
  trig : Nat
  at_ : Nat
  len : Nat
  invalid : Bool
  lowRes : Bool
  mainsFree : Bool
deriving DecidableEq, Repr

/-- A conversion that waits (R449): channel, divider field, trigger code of R457. -/
structure HkReq where
  ch : Nat
  div : Nat
  trig : Nat
deriving DecidableEq, Repr

/-- The housekeeping converter (R442 to R461). `calAt` is the end of the spare's calibration, `leaving` the slice told
to leave the bank; `urgent`, `sup` and `user` are what waits in each class, `user` being what is left to start of the
scan in progress (channel and divider), `queued` its head once it is due at `due`, `fresh` a scan none of whose
conversions has started, `running` the user conversions in progress; `held` is a held trigger, `trigger` the setting in
effect, `timerAt` the timer's next trigger, `delayAt` the end of a `PWM_DELAY`. `window` is W in ns, `periods` the
periods within ±5 % in a row, newest first. `valid` holds the latest valid code of each channel. -/
structure Hk where
  on : Bool
  slices : Sparse (Option HkConv)
  spare : Nat
  calAt : Option Nat
  calOk : Bool
  leaving : Option Nat
  count : Nat
  urgent : List HkReq
  sup : List Nat
  supAt : Option Nat
  user : List (Nat × Nat)
  userTrig : Nat
  fresh : Bool
  running : Nat
  due : Nat
  queued : Bool
  held : Option Nat
  trigger : Nat
  timerAt : Nat
  refAt : Nat
  refSettled : Bool
  window : Nat
  locked : Bool
  periods : List Nat
  edgeAt : Option Nat
  result : Nat
  shadow : Sparse Nat
  valid : Sparse Int
  delayAt : Option Nat
deriving DecidableEq, Repr

/-- The converter at power-on, not yet started: slice 4 is the spare. -/
def Hk.reset : Hk :=
  { on := false, slices := [], spare := 4, calAt := none, calOk := false, leaving := none, count := 0, urgent := [],
    sup := [], supAt := none, user := [], userTrig := 0, fresh := false, running := 0, due := 0, queued := false,
    held := none, trigger := 0, timerAt := 0, refAt := 0, refSettled := true, window := 20000000, locked := false,
    periods := [], edgeAt := none, result := 0, shadow := [], valid := [], delayAt := none }

/-! ## Host ports and boot -/

/-- The two-wire buses, the host SPI port and the attention word (R463 to R482). `latched` are the latched bits of the
attention word; `notify` is the code of `NOTIFY_STATUS`, `attempts` what the pending notify has used, `masked` the bits that a
notify has carried; `crcErr` and `dropped` show in the status byte; `sentTwb` and `sentHspi` are what each port sent last. -/
structure HostPorts where
  latched : Nat
  notify : Nat
  attempts : Nat
  notifyAt : Nat
  masked : Nat
  stuck0 : Bool
  stuck1 : Bool
  recoverAt0 : Nat
  recoverAt1 : Nat
  arbAt : Option Nat
  crcErr : Bool
  dropped : Bool
  stretching : Bool
  stretchAt : Nat
  stretchTaken : Bool
  addr : Nat
  lanes : Nat
  lastTwb : Option Response
  lastHspi : Option Response
  sentTwb : List Byte
  sentPec : Option Nat
  sentHspi : List Byte
deriving DecidableEq, Repr

/-- The ports at power-on. -/
def HostPorts.reset : HostPorts :=
  { latched := 0, notify := 0, attempts := 0, notifyAt := 0, masked := 0, stuck0 := false, stuck1 := false,
    recoverAt0 := 0, recoverAt1 := 0, arbAt := none, crcErr := false, dropped := false,
    stretching := false, stretchAt := 0, stretchTaken := false, addr := 0x48, lanes := 0, lastTwb := none,
    lastHspi := none, sentTwb := [], sentPec := none, sentHspi := [] }

/-- The boot ROM (R484 to R490): whether a boot runs, whether it waits for a push or for a retry, the bytes pushed, the
running image's security version, the key hash in fuses, the recipe records still to be committed, the flash sectors
programmed through the dictionary, and the findings that the next successful boot reports. -/
structure Boot where
  pushWait : Bool
  failed : Bool
  retryAt : Nat
  pushed : List (Nat × Nat)
  pushErr : Bool
  keyHash : Option (List Byte)
  records : List BootRecord
  flash : Sparse (List Byte)
  noFlash : Bool
  slot0Bad : Bool
  slot1Bad : Bool
  reported : Bool
  powerOn : Bool
  resetBoot : Bool
  startAt : Nat
deriving DecidableEq, Repr

/-- A device that has not booted and whose key fuses are as made. -/
def Boot.reset : Boot :=
  { pushWait := false, failed := false, retryAt := 0, pushed := [], pushErr := false, keyHash := Config.fusedKey,
    records := [], flash := [], noFlash := false, slot0Bad := false, slot1Bad := false, reported := false,
    powerOn := true, resetBoot := false, startAt := 0 }

/-! ## External memory -/

/-- A capture buffer (R503, R504, R507, R508): its pages, the packing it was started with, its bytes by their place, the
samples written since the transport started, its recorded length in bytes, whether it is full, and the instant of its
last late sample. -/
structure CapBuf where
  pages : Nat
  packing : Nat
  data : Sparse Nat
  count : Nat
  length : Nat
  full : Bool
  lateAt : Option Nat
deriving DecidableEq, Repr

/-- A channel without a buffer. -/
def CapBuf.none : CapBuf :=
  { pages := 0, packing := 0, data := [], count := 0, length := 0, full := false, lateAt := .none }

/-- A playback channel (R506): whether it plays, its position in samples, the gain of its transport's stop, whether it
reached the end, and the instant of its last late sample. -/
structure PlayCh where
  playing : Bool
  pos : Nat
  gain : Ramp
  atEnd : Bool
  lateAt : Option Nat
deriving DecidableEq, Repr

/-- A channel that has not played. -/
def PlayCh.off : PlayCh := { playing := false, pos := 0, gain := .rest none, atEnd := false, lateAt := none }

/-- A transport (R505, R513): whether it runs, is armed, and stops at the next tick; the samples since its start. -/
structure Transport where
  running : Bool
  armed : Bool
  stopping : Bool
  pos : Nat
deriving DecidableEq, Repr

/-- A stopped transport. -/
def Transport.off : Transport := { running := false, armed := false, stopping := false, pos := 0 }

/-- The memory interface (R494 to R510). `held` are the causes present, `since` the instant since which none is,
`trainAt` the instant of the last automatic retrain, `chipBuf` the requester that holds the on-chip block buffer of R502. -/
structure Mem where
  ready : Bool
  training : Bool
  tries : Nat
  held : List MemCause
  since : Nat
  trainAt : Option Nat
  zqAt : Nat
  dqsAt : Nat
  mr4At : Nat
  depth : Nat
  attemptAt : Nat
  caps : Sparse CapBuf
  plays : Sparse PlayCh
  trans : Sparse Transport
  chipBuf : Option Requester
deriving DecidableEq, Repr

/-- An interface that has not trained. -/
def Mem.reset : Mem :=
  { ready := false, training := false, tries := 0, held := [], since := 0, trainAt := none, zqAt := 0, dqsAt := 0,
    mr4At := 0, depth := 0, attemptAt := 0, caps := [], plays := [], trans := [], chipBuf := none }

/-- An event counter (R515): its source, its count with SATURATED in bit 63, and the count of the last snapshot. -/
structure Counter where
  source : Nat
  count : Nat
  snap : Nat
deriving DecidableEq, Repr

/-- A counter that nobody has claimed. -/
def Counter.idle : Counter := { source := 0, count := 0, snap := 0 }

/-- The self-test (R524 to R526): the tests still to run, the running one first, and whether they were asked to stop. -/
structure TestState where
  left : List Nat
  waiting : Bool
  stopping : Bool
deriving DecidableEq, Repr

/-- No self-test runs. -/
def TestState.idle : TestState := { left := [], waiting := false, stopping := false }

/-! ## The whole state -/

/-- The state of the block. `objs` holds, by key index × 256 + sub, the value in force of every dictionary object that
is kept as a value; `funcs` holds the phases of the functions by `Func.key`. -/
structure State where
  now : Nat
  ptpOffset : Int
  freeCtr : Nat
  objs : Sparse Nat
  blocks : Sparse (List Byte)
  rights : Rights
  funcs : Sparse FuncState
  internal : ReqState
  hspi : ReqState
  twb0 : ReqState
  chain : List (Nat × ReqState)
  turn : Nat
  parts : List Part
  journal : Journal
  ms : ModeState
  gov : Governor
  avs : Avs
  clk : Clocks
  snap : Option Snap
  counters : Sparse Counter
  test : TestState
  inputs : Sparse InputCh
  refs : Sparse RefGroup
  phantom : Phantom
  router : Router
  lanes : Sparse LaneState
  slack : SlackWin
  buses : Sparse BusState
  meters : Sparse Meter
  links : Sparse LinkState
  lines : Sparse DelayLine
  outs : Outputs
  sap : Sparse SapDirSt
  net : Net
  pair : PairMember
  arb : Sparse ArbPair
  listen : Listen
  ring : Ring
  readers : Sparse Reader
  hk : Hk
  host : HostPorts
  boot : Boot
  mem : Mem
  pending : List Instr
deriving DecidableEq, Repr

/-- A synthesizer that has not run. -/
def SynState.off : SynState :=
  { pin := false, window := false, refLost := false, acqAt := 0, gatedAt := 0, fails := 0, tryAt := 0, scale := 0, method := 0,
    winW := 40, winN := 2048, unlockN := 4, lockAt := 0, stopAt := 0 }

/-- A loop without a leader. -/
def LoopState.off : LoopState :=
  { st := 0, steer := 0, fill := 0, since := 0, goodSince := 0, mean := 0, updAt := 0, slopeFill := 0,
    hist := [], leaving := false }

/-- The oscillators at power-on: RCO and LPO run, XO is stopped. -/
def Clocks.reset : Clocks :=
  { amp := false, stable := false, lost := false, freqBad := false, armed := false, countAt := 0, amberAt := 0,
    muxes := [], closed := [], synA := .off, synB := .off, synS := .off, loopA := .off, loopB := .off,
    pwmDepth := 0, pwmRate := 2000, triAt := 0, lpoAt := 0, workAt := [], ckos := [] }

/-- Mode ASH with RESET_N low, after a power-on (R84, cause 01h). -/
def ModeState.reset : ModeState :=
  { mode := .ash, entered := .ash, changedAt := 0, trans := .none, ashCause := 1, resetHigh := false, resetAt := 0,
    clamping := false, booted := false, wakeBoot := false, wakeTarget := 4, thermal := false,
    thermalWarn := false, low := [], cause := 0, seen := 0, clearAt := 0, clear := true, ack := false, noStart := false,
    avsOk := false, recipesLoaded := false, ctlHeld := false, late := [], discards := [],
    ioRearm := 0 }

/-- The governor with a full balance and nothing queued. -/
def Governor.reset : Governor := { balance := 50, window := 0, queue := [], admitted := [] }

/-- No core-voltage request made yet. -/
def Avs.reset : Avs :=
  { first := false, op := .none, waiting := false, tries := 0, triedAt := 0, lost := false, exponent := 0,
    evaluating := false, evalAt := 0, highSince := .none, requestAt := 0, ackAt := 0, check := false, next := .none,
    fabricAt := 0 }

/-- The empty journal before the first entry (R76). -/
def Journal.reset : Journal :=
  { head := 0, epoch := 0, drawn := false, ring := [], mirror := [], mirrorOn := false, mirrorNext := 1, mirrorGap := .none,
    pushNext := 1, pushAcked := 0, pushSentAt := 0 }

/-- The part right after power-on, held in ASH by RESET_N (R82, R84, R99). -/
def State.reset : State :=
  { now := 0, ptpOffset := 0, freeCtr := 0, objs := [], blocks := [], rights := .default, funcs := [],
    internal := .fresh, hspi := .fresh, twb0 := .fresh, chain := [], turn := 0, parts := [], journal := .reset,
    ms := .reset, gov := .reset, avs := .reset, clk := .reset, snap := .none, counters := [],
    test := .idle, inputs := [], refs := [],
    phantom := { lastAt := 0, due := false },
    router := { routes := [], sinks := [], outs := [], asrc := [], doms := [], gens := [], relayout := false, xfades := [] },
    lanes := [], slack := { msEnd := 0, secEnd := 0, ms := [], sec := [], worst := [] }, buses := [], meters := [],
    links := [], lines := [],
    outs := { line := [], hp := [], pwm := [], cmA := { st := 0, at_ := 0 }, cmB := { st := 0, at_ := 0 },
              hpBias := { st := 0, at_ := 0 }, safe := true, safeAt := 0, talkback := false,
              agndA := true, agndB := true, agndHp := true },
    sap := [], net := .reset, pair := .reset, arb := [], listen := .reset, ring := .reset, readers := [], hk := .reset,
    host := .reset, boot := .reset, mem := .reset,
    pending := [] }

end Sys2Proof.Machine
end

