-- ==== Sys2Proof/Machine/Ops.lean ====
section
/-!
DEFINITION. The named operations over the state that the meanings share: time, dictionary values, functions, events and
the journal, gain ramps, and reading and setting one member of each table of the state.
-/

set_option autoImplicit false

namespace Sys2Proof

/-- The number under which a function is kept: its class × 65536 + its number. -/
def Func.key : Func → Nat
  | .lane n => 0x10000 + n | .bus n => 0x20000 + n | .route n => 0x30000 + n | .input n => 0x40000 + n
  | .output n => 0x50000 + n | .hp n => 0x60000 + n | .pwm n => 0x70000 + n | .sapTx n => 0x80000 + n
  | .sapRx n => 0x90000 + n | .flowTx n => 0xA0000 + n | .flowRx n => 0xB0000 + n | .aes n => 0xC0000 + n
  | .cap n => 0xD0000 + n | .play n => 0xE0000 + n | .delayLine n => 0xF0000 + n | .link n => 0x100000 + n
  | .cko n => 0x110000 + n | .syn .a => 0x120000 | .syn .b => 0x120001 | .syn .s => 0x120002
  | .pd n => 0x130000 + n | .scan => 0x140000 | .listen => 0x150000 | .reader n => 0x160000 + n | .mem => 0x170000
  | .selftest => 0x180000

/-- The function kept under a number. -/
def Func.ofKey (k : Nat) : Func :=
  let n := k % 0x10000
  match k / 0x10000 with
  | 1 => .lane n | 2 => .bus n | 3 => .route n | 4 => .input n | 5 => .output n | 6 => .hp n | 7 => .pwm n
  | 8 => .sapTx n | 9 => .sapRx n | 10 => .flowTx n | 11 => .flowRx n | 12 => .aes n | 13 => .cap n | 14 => .play n
  | 15 => .delayLine n | 16 => .link n | 17 => .cko n
  | 18 => if n = 0 then .syn .a else if n = 1 then .syn .b else .syn .s
  | 19 => .pd n | 20 => .scan | 21 => .listen | 22 => .reader n | 23 => .mem | _ => .selftest

/-- The number of a synthesizer in 2104h to 2106h. -/
def Syn.num : Syn → Nat
  | .a => 0 | .b => 1 | .s => 2

/-- The power domain a function lies in (R96), by its number in 2010h to 201Bh. -/
def Func.pdom : Func → Nat
  | .lane n => if n < 64 then 3 else 4
  | .bus _ => 3 | .route _ => 3
  | .input n => if n ≤ 24 then 5 else 6
  | .output n => if n ≤ 24 then 7 else 8
  | .hp _ => 9 | .pwm _ => 9
  | .sapTx _ => 3 | .sapRx _ => 3
  | .flowTx _ => 11 | .flowRx _ => 11 | .aes _ => 11
  | .cap _ => 10 | .play _ => 10 | .delayLine _ => 10 | .mem => 10
  | .link _ => 3
  | .cko _ => 0 | .syn _ => 2
  | .pd n => n
  | .scan => 0
  | .listen => 1
  | .reader _ => 3
  | .selftest => 3

/-- The dictionary index that holds the function's `STATE` (R43), its raising index for QUIESCE_FORCED (R514). -/
def Func.index : Func → Nat
  | .lane n => 0x3600 + n | .bus n => 0x3500 + n | .route p => 0x3420 + p / 128 | .input n => 0x3000 + n
  | .output n => 0x3100 + n | .hp n => 0x3200 + n | .pwm n => 0x320F + n | .sapTx p => 0x3301 + p
  | .sapRx p => 0x3301 + p | .flowTx f => 0x4010 + f | .flowRx r => 0x4020 + r | .aes a => 0x4040 + a
  | .cap c => 0x3B43 + c / 128 | .play c => 0x3B53 + c / 128 | .delayLine d => 0x3B25 + d / 128
  | .link l => 0x3450 + l | .cko n => 0x2120 + n | .syn x => 0x2104 + x.num | .pd n => 0x2010 + n | .scan => 0x2200
  | .listen => 0x3A00 | .reader r => 0x3A10 + r | .mem => 0x3B00 | .selftest => 0x2460

/-- The mode's code (R82). -/
def Mode.code : Mode → Nat
  | .ash => 0 | .slate => 1 | .indigo => 2 | .amber => 3 | .teal => 4 | .ivory => 5 | .cobalt => 6 | .crimson => 7
  | .pearl => 8

/-- The origin code of a requester (R53, R74). -/
def Requester.origin : Requester → Nat
  | .internal => 0 | .chain _ => 1 | .twb0 => 3 | .hspi => 4

namespace Machine

/-! ## Time and dictionary values -/

/-- The state at the instant `t`; time never runs back. [DESIGN CHOICE, log 1] -/
def State.clock (s : State) (t : Nat) : State := { s with now := max s.now t }

/-- The device's PTP time in ns: the local time plus the offset to its master. While XO does not run it goes on from `lpoAt` in
steps of 1/32768 s, so that it never steps back (R84, R121). [DESIGN CHOICE, log 1] -/
def State.ptp (s : State) : Nat :=
  let a := s.clk.lpoAt
  let t := if s.clk.stable then s.now else a + (s.now - a) * 32768 / 1000000000 * 1000000000 / 32768
  ((t : Int) + s.ptpOffset).toNat % 2 ^ 64

/-- The value in force of index `i`, sub `sub`. [DESIGN CHOICE, log 7] -/
def State.rd (s : State) (i sub : Nat) : Nat := look (objDefault (key i sub)) s.objs (key i sub)

/-- The signed value in force of an object of `n` bytes. -/
def State.rdS (s : State) (n i sub : Nat) : Int := signed n (s.rd i sub)

/-- The state with the value `v` in index `i`, sub `sub`. -/
def State.wr (s : State) (i sub v : Nat) : State :=
  { s with objs := put (objDefault (key i sub)) s.objs (key i sub) v }

/-- A 32-bit event count of the dictionary raised by `n`; what it shows past its largest value is not stated. [DESIGN CHOICE, log 9] -/
def State.bumpBy (s : State) (i sub n : Nat) : State :=
  let v := s.rd i sub + n
  s.wr i sub (if v < 2 ^ 32 then v else Config.counterPastMax v % 2 ^ 32)

/-- A 32-bit event count of the dictionary raised by one. [DESIGN CHOICE, log 9] -/
def State.bump (s : State) (i sub : Nat) : State := s.bumpBy i sub 1

/-- Bit `n` of the value in force. -/
def State.rdBit (s : State) (i sub n : Nat) : Bool := (s.rd i sub).testBit n

/-- `v` with bit `n` as `b` says. -/
def setBit (v n : Nat) (b : Bool) : Nat :=
  if v.testBit n = b then v else if b then v + 2 ^ n else v - 2 ^ n

/-- Bit `n` of the value in force set to `b`. -/
def State.wrBit (s : State) (i sub n : Nat) (b : Bool) : State := s.wr i sub (setBit (s.rd i sub) n b)

/-- A flag as a bit. -/
def bit (c : Bool) (k : Nat) : Nat := if c then 2 ^ k else 0

/-- The bits `hi` to `lo` of `v`. -/
def bits (v hi lo : Nat) : Nat := v / 2 ^ lo % 2 ^ (hi - lo + 1)

/-- A free value below `2 ^ w`; the counter makes each draw a new one. [DESIGN CHOICE, log 4] -/
def State.draw (s : State) (w : Nat) : Nat × State :=
  (Config.freeNat s.freeCtr % 2 ^ w, { s with freeCtr := s.freeCtr + 1 })

/-! ## Tables of the state -/

/-- The phase and ramp of function `f`. [DEDUCED, log 40] -/
def State.fn (s : State) (f : Func) : FuncState := look .off s.funcs f.key
/-- The state with `x` for function `f`. -/
def State.setFn (s : State) (f : Func) (x : FuncState) : State := { s with funcs := put .off s.funcs f.key x }
/-- The phase of function `f`. -/
def State.phase (s : State) (f : Func) : Phase := (s.fn f).phase
/-- The functions that are not OFF or keep a flag. -/
def State.funcList (s : State) : List Func := s.funcs.map fun x => Func.ofKey x.1

/-- Input channel `n`. -/
def State.inp (s : State) (n : Nat) : InputCh := look .reset s.inputs n
/-- The state with `x` for input channel `n`. -/
def State.setInp (s : State) (n : Nat) (x : InputCh) : State := { s with inputs := put .reset s.inputs n x }
/-- The reference of input group `g`. -/
def State.refGroup (s : State) (g : Nat) : RefGroup := look .off s.refs g
/-- The state with `x` for the reference of group `g`. -/
def State.setRef (s : State) (g : Nat) (x : RefGroup) : State := { s with refs := put .off s.refs g x }
/-- The route of sink `p`. -/
def State.route (s : State) (p : Nat) : RouteState := look .none s.router.routes p
/-- The state with `x` for the route of sink `p`. -/
def State.setRoute (s : State) (p : Nat) (x : RouteState) : State :=
  { s with router := { s.router with routes := put .none s.router.routes p x } }
/-- What sink point `p` took last. -/
def State.sinkSample (s : State) (p : Nat) : Sample := look .off s.router.sinks p
/-- The state with `x` delivered to sink point `p`. -/
def State.setSink (s : State) (p : Nat) (x : Sample) : State :=
  { s with router := { s.router with sinks := put .off s.router.sinks p x } }
/-- What source point `p` presented last. -/
def State.srcSample (s : State) (p : Nat) : Sample := look .off s.router.outs p
/-- The state with `x` presented at source point `p`. -/
def State.setSrc (s : State) (p : Nat) (x : Sample) : State :=
  { s with router := { s.router with outs := put .off s.router.outs p x } }
/-- Channel `c` of the ASRC pool. -/
def State.asrc (s : State) (c : Nat) : Option AsrcCh := look none s.router.asrc c
/-- The state with `x` for channel `c` of the ASRC pool. -/
def State.setAsrc (s : State) (c : Nat) (x : Option AsrcCh) : State :=
  { s with router := { s.router with asrc := put none s.router.asrc c x } }
/-- Rate domain `d`. -/
def State.dom (s : State) (d : Nat) : DomState := look .off s.router.doms d
/-- The state with `x` for rate domain `d`. -/
def State.setDom (s : State) (d : Nat) (x : DomState) : State :=
  { s with router := { s.router with doms := put .off s.router.doms d x } }
/-- Generator `g`. -/
def State.gen (s : State) (g : Nat) : GenState := look .reset s.router.gens g
/-- The state with `x` for generator `g`. -/
def State.setGen (s : State) (g : Nat) (x : GenState) : State :=
  { s with router := { s.router with gens := put .reset s.router.gens g x } }
/-- Lane `n`. -/
def State.lane (s : State) (n : Nat) : LaneState := look .empty s.lanes n
/-- The state with `x` for lane `n`. -/
def State.setLane (s : State) (n : Nat) (x : LaneState) : State := { s with lanes := put .empty s.lanes n x }
/-- Mix bus `b`. -/
def State.bus (s : State) (b : Nat) : BusState := look .none s.buses b
/-- The state with `x` for mix bus `b`. -/
def State.setBus (s : State) (b : Nat) (x : BusState) : State := { s with buses := put .none s.buses b x }
/-- Meter `m` (by index × 256 + sub). -/
def State.meter (s : State) (m : Nat) : Meter := look .fresh s.meters m
/-- The state with `x` for meter `m`. -/
def State.setMeter (s : State) (m : Nat) (x : Meter) : State := { s with meters := put .fresh s.meters m x }
/-- Direct link `l`. -/
def State.dlink (s : State) (l : Nat) : LinkState := look .none s.links l
/-- The state with `x` for direct link `l`. -/
def State.setLink (s : State) (l : Nat) (x : LinkState) : State := { s with links := put .none s.links l x }
/-- Delay line `d`. -/
def State.line (s : State) (d : Nat) : DelayLine := look .none s.lines d
/-- The state with `x` for delay line `d`. -/
def State.setLine (s : State) (d : Nat) (x : DelayLine) : State := { s with lines := put .none s.lines d x }
/-- Line output `n`. -/
def State.out (s : State) (n : Nat) : OutCh := look .reset s.outs.line n
/-- The state with `x` for line output `n`. -/
def State.setOut (s : State) (n : Nat) (x : OutCh) : State :=
  { s with outs := { s.outs with line := put .reset s.outs.line n x } }
/-- Headphone `h`. -/
def State.hp (s : State) (h : Nat) : HpCh := look .reset s.outs.hp h
/-- The state with `x` for headphone `h`. -/
def State.setHp (s : State) (h : Nat) (x : HpCh) : State :=
  { s with outs := { s.outs with hp := put .reset s.outs.hp h x } }
/-- PWM output `n`. -/
def State.pwm (s : State) (n : Nat) : PwmCh := look .reset s.outs.pwm n
/-- The state with `x` for PWM output `n`. -/
def State.setPwm (s : State) (n : Nat) (x : PwmCh) : State :=
  { s with outs := { s.outs with pwm := put .reset s.outs.pwm n x } }
/-- The number of a serial-port direction. -/
def sapKey (p : Nat) (dir : SapDir) : Nat :=
  match dir with
  | .tx => 2 * p
  | .rx => 2 * p + 1
/-- A direction of serial port `p`. -/
def State.sapDir (s : State) (p : Nat) (dir : SapDir) : SapDirSt := look .off s.sap (sapKey p dir)
/-- The state with `x` for a direction of serial port `p`. -/
def State.setSap (s : State) (p : Nat) (dir : SapDir) (x : SapDirSt) : State :=
  { s with sap := put .off s.sap (sapKey p dir) x }
/-- The function of a serial-port direction. -/
def sapFunc (p : Nat) (dir : SapDir) : Func :=
  match dir with
  | .tx => .sapTx p
  | .rx => .sapRx p
/-- Transmit flow `f`. -/
def State.txFlow (s : State) (f : Nat) : FlowTxSt := look .off s.net.txFlows f
/-- The state with `x` for transmit flow `f`. -/
def State.setTx (s : State) (f : Nat) (x : FlowTxSt) : State :=
  { s with net := { s.net with txFlows := put .off s.net.txFlows f x } }
/-- Receive flow `r`. -/
def State.rxFlow (s : State) (r : Nat) : FlowRxSt := look .off s.net.rxFlows r
/-- The state with `x` for receive flow `r`. -/
def State.setRx (s : State) (r : Nat) (x : FlowRxSt) : State :=
  { s with net := { s.net with rxFlows := put .off s.net.rxFlows r x } }
/-- Pair `i` of the arbiter. -/
def State.arbPair (s : State) (i : Nat) : ArbPair := look .off s.arb i
/-- The state with `x` for pair `i` of the arbiter. -/
def State.setArb (s : State) (i : Nat) (x : ArbPair) : State := { s with arb := put .off s.arb i x }
/-- Ring reader `r`. -/
def State.reader (s : State) (r : Nat) : Reader := look .off s.readers r
/-- The state with `x` for ring reader `r`. -/
def State.setReader (s : State) (r : Nat) (x : Reader) : State := { s with readers := put .off s.readers r x }
/-- Capture channel `c`. -/
def State.cap (s : State) (c : Nat) : CapBuf := look .none s.mem.caps c
/-- The state with `x` for capture channel `c`. -/
def State.setCap (s : State) (c : Nat) (x : CapBuf) : State :=
  { s with mem := { s.mem with caps := put .none s.mem.caps c x } }
/-- Playback channel `c`. -/
def State.play (s : State) (c : Nat) : PlayCh := look .off s.mem.plays c
/-- The state with `x` for playback channel `c`. -/
def State.setPlay (s : State) (c : Nat) (x : PlayCh) : State :=
  { s with mem := { s.mem with plays := put .off s.mem.plays c x } }
/-- Transport `t`. -/
def State.transport (s : State) (t : Nat) : Transport := look .off s.mem.trans t
/-- The state with `x` for transport `t`. -/
def State.setTransport (s : State) (t : Nat) (x : Transport) : State :=
  { s with mem := { s.mem with trans := put .off s.mem.trans t x } }
/-- The multiplexer with key `k`. -/
def State.mux (s : State) (k : Nat) : MuxState := look { active := 0, want := 0, st := 0 } s.clk.muxes k
/-- The state with `x` for the multiplexer with key `k`. -/
def State.setMux (s : State) (k : Nat) (x : MuxState) : State :=
  { s with clk := { s.clk with muxes := put { active := 0, want := 0, st := 0 } s.clk.muxes k x } }
/-- The number under which a multiplexer is kept (R116). -/
def muxKey (m : Mux) : Nat :=
  match m with
  | .control => 0 | .ptp => 1 | .hk => 2 | .listen => 3 | .pwm => 4 | .chaRx => 5 | .chbRx => 6
  | .sap p dir => 0x100 + sapKey p dir
/-- The source that a multiplexer passes until it has switched, by its code of R115; a serial port's divider is 0. -/
def muxStart (k : Nat) : Nat :=
  match k with
  | 0 => 2 | 1 => 3 | 2 => 3 | 3 => 9 | 4 => 4 | 5 => 6 | 6 => 6 | _ => 0
/-- The source that a multiplexer passes now. -/
def State.muxActive (s : State) (m : Mux) : Nat :=
  let x := s.mux (muxKey m)
  if x.active = 0 then muxStart (muxKey m) else x.active
/-- A multiplexer is told to pass source `src` (R117); one that hangs only notes it (R119). -/
def State.switchMux (s : State) (m : Mux) (src : Nat) : State :=
  let x := s.mux (muxKey m)
  if x.st = 2 then s.setMux (muxKey m) { x with want := src }
  else if s.muxActive m = src then
    (if x.st = 1 ∨ x.st = 4 then s.setMux (muxKey m) { x with want := 0, st := 0 } else s)
  else if x.want = src ∧ x.st = 1 then s
  else s.setMux (muxKey m) { x with want := src, st := 1 }
/-- Synthesizer `x`. -/
def State.syn (s : State) (x : Syn) : SynState :=
  match x with
  | .a => s.clk.synA
  | .b => s.clk.synB
  | .s => s.clk.synS
/-- The state with `v` for synthesizer `x`. -/
def State.setSyn (s : State) (x : Syn) (v : SynState) : State :=
  match x with
  | .a => { s with clk := { s.clk with synA := v } }
  | .b => { s with clk := { s.clk with synB := v } }
  | .s => { s with clk := { s.clk with synS := v } }
/-- The settings that clock output `n` runs with. -/
def State.cko (s : State) (n : Nat) : CkoSt := look .off s.clk.ckos n
/-- The state with `x` for clock output `n`. -/
def State.setCko (s : State) (n : Nat) (x : CkoSt) : State := { s with clk := { s.clk with ckos := put .off s.clk.ckos n x } }
/-- Event counter `n`. -/
def State.counter (s : State) (n : Nat) : Counter := look .idle s.counters n
/-- The state with `x` for event counter `n`. -/
def State.setCounter (s : State) (n : Nat) (x : Counter) : State := { s with counters := put .idle s.counters n x }
/-- A change of the mode record. -/
def State.mapMs (s : State) (g : ModeState → ModeState) : State := { s with ms := g s.ms }
/-- A change of the chain record. -/
def State.mapNet (s : State) (g : Net → Net) : State := { s with net := g s.net }
/-- A chain port's record. -/
def State.port (s : State) (p : ChPort) : PortSt :=
  match p with
  | .cha => s.net.cha
  | .chb => s.net.chb
/-- The state with `x` for a chain port. -/
def State.setPort (s : State) (p : ChPort) (x : PortSt) : State :=
  match p with
  | .cha => s.mapNet fun n => { n with cha := x }
  | .chb => s.mapNet fun n => { n with chb := x }
/-- Something sent on the chain, newest first. [DESIGN CHOICE, log 84] -/
def State.emit (s : State) (x : Sent) : State := s.mapNet fun n => { n with sent := x :: n.sent }

/-- Something sent on the chain: while SYN_S does not run, the transmitters are in electrical idle (R129, R130), and only a wake beacon,
which is no frame, leaves. [DESIGN CHOICE, log 84] -/
def State.send (s : State) (x : Sent) : State :=
  match x with
  | .beacon _ _ _ _ => s.emit x
  | _ => if s.phase (.syn .s) = .running then s.emit x else s

/-! ## Events, attention and the journal -/

/-- Whether a counter with source `src` counts an event with a code and a raising index (R515). [DEDUCED, log 74] -/
def sourceHits (src code idx : Nat) : Bool :=
  decide (src / 0x10000 = code) && decide (code ≠ 0) && (decide (src % 0x10000 = 0xFFFF) || decide (src % 0x10000 = idx))

/-- The count after one more occurrence: it stops at 2^48 − 1 and sets SATURATED, bit 63 (R516). [DESIGN CHOICE, log 9] -/
def countUp (c : Nat) : Nat :=
  if 2 ^ 48 - 1 ≤ c then c else if c + 1 = 2 ^ 48 - 1 then 2 ^ 63 + (2 ^ 48 - 1) else c + 1

/-- The counters after one occurrence (R516). [DEDUCED, log 74] -/
def countAll (m : Sparse Counter) (code idx : Nat) : Sparse Counter :=
  m.map fun x => if sourceHits x.2.source code idx then (x.1, { x.2 with count := countUp x.2.count }) else x

/-- Whether self-test `t` exercises the functions that raise events at index `idx` (R524, R525). [DEDUCED, log 74] -/
def testCovers (t idx : Nat) : Bool :=
  match t with
  | 0 => decide (0x3600 ≤ idx) && decide (idx ≤ 0x367F) || decide (0x3820 ≤ idx) && decide (idx ≤ 0x3828)
  | 1 => decide (0x3600 ≤ idx) && decide (idx ≤ 0x367F) || decide (0x3820 ≤ idx) && decide (idx ≤ 0x3828)
  | 2 => decide (0x3001 ≤ idx) && decide (idx ≤ 0x3030) || decide (0x3101 ≤ idx) && decide (idx ≤ 0x3130)
  | 3 => decide (0x3201 ≤ idx) && decide (idx ≤ 0x321F)
  | 4 => decide (0x3301 ≤ idx) && decide (idx ≤ 0x3310)
  | 5 => decide (0x4000 ≤ idx) && decide (idx ≤ 0x403F)
  | 6 => decide (0x3B00 ≤ idx) && decide (idx ≤ 0x3BFF)
  | 7 => decide (idx = 0x2200)
  | 8 => decide (idx = 0x3401)
  | _ => false

/-- An event occurs with its raising index; the events of functions under self-test are not counted (R516, R525). [DEDUCED, log 74] -/
def State.event (s : State) (code idx : Nat) : State :=
  match s.test.left with
  | t :: _ =>
    if testCovers t idx then s else { s with counters := countAll s.counters code idx }
  | [] => { s with counters := countAll s.counters code idx }

/-- A latched bit of the attention word sets (R473). -/
def State.latch (s : State) (bit : Nat) : State :=
  { s with host := { s.host with latched := setBit s.host.latched bit true } }

/-- Whether the device's time is the chain's (R74, R400): XO runs, and it is head or a member in CHAIN_SYNC. -/
def State.chainSync (s : State) : Bool :=
  if s.net.st = 4 then s.clk.stable else s.net.flags.testBit 0

/-- TIME_SYNCED (R74). -/
def State.timeSynced (s : State) : Bool := s.clk.stable && s.chainSync

/-- A new journal entry at the head of the on-chip ring (R73, R74, R77, R514), made at the time `time`. -/
def State.entryAt (s : State) (time : Nat) (kind : EntryKind) (origin status node index sub : Nat) (hashed : Bool)
    (value : Nat) : State :=
  let seq := (s.journal.head + 1) % 2 ^ 32
  let e : Entry := { seq, kind, origin, status, node, time, index, sub, synced := s.timeSynced, hashed, value }
  let s := { s with journal := { s.journal with head := seq, ring := (e :: s.journal.ring).take 1024 } }
  if status = 0 then s else s.event 0x0C 0x1F00

/-- A new journal entry made now. -/
def State.entry (s : State) (kind : EntryKind) (origin status node index sub : Nat) (hashed : Bool) (value : Nat) :
    State := s.entryAt s.ptp kind origin status node index sub hashed value

/-! ## Requesters -/

/-- What the control processor keeps for a requester (R50). -/
def State.req (s : State) (w : Requester) : ReqState :=
  match w with
  | .internal => s.internal
  | .hspi => s.hspi
  | .twb0 => s.twb0
  | .chain u => match s.chain.find? fun (x : Nat × ReqState) => x.1 == u with
    | some x => x.2
    | none => .fresh

/-- The state with `x` for a requester; a new chain requester comes last (R61). -/
def State.setReq (s : State) (w : Requester) (x : ReqState) : State :=
  match w with
  | .internal => { s with internal := x }
  | .hspi => { s with hspi := x }
  | .twb0 => { s with twb0 := x }
  | .chain u =>
    if s.chain.any fun (y : Nat × ReqState) => y.1 == u then
      { s with chain := s.chain.map fun (y : Nat × ReqState) => if y.1 = u then (u, x) else y }
    else { s with chain := s.chain ++ [(u, x)] }

/-- A COMMIT or DISCARD entry (R74, R75). -/
def State.setEntry (s : State) (kind : EntryKind) (w : Requester) (node status count cause first : Nat) : State :=
  s.entry kind w.origin status node 0x1010 1 false (count + cause * 2 ^ 16 + first * 2 ^ 32)

/-- A part of a commit is abandoned (R68). [DEDUCED, log 25] -/
def State.abandonPart (s : State) (p : Part) : State :=
  let s := s.setEntry .commit p.who p.node 0x0B p.count 0 p.first
  let x := s.req p.who
  if p.tracked && x.commitId == p.seq then s.setReq p.who { x with lastStatus := 0x0B, lastSeq := s.journal.head } else s

/-- The parts of rate domain `d` are abandoned: its clock is gated by force (R68). -/
def State.abandonParts (s : State) (d : Nat) : State :=
  let l := s.parts.filter fun p => p.dom == d
  l.foldl State.abandonPart { s with parts := s.parts.filter fun p => p.dom != d }

/-! ## Gains -/

/-- Whether the ramp still runs. [DEDUCED, log 87] -/
def Ramp.live (r : Ramp) : Bool := decide (r.i < r.len)

/-- The gain of a dB value, with mute at −100.00 dB (R261). -/
def muteDb (g : Option Rat) : Rat := g.getD (-10000)

/-- The gain of sample `i` of the ramp (R260, R261): `none` where the sample is exactly 0. [DEDUCED, log 87] -/
def Ramp.gainAt (r : Ramp) (i : Nat) : Option Rat :=
  if r.len ≤ i then r.g1
  else if r.g1 = none ∧ i + 1 = r.len then none
  else if r.g0 = r.g1 then r.g1
  else some (muteDb r.g0 + (muteDb r.g1 - muteDb r.g0) * ((i : Rat) + 1) / (r.len : Rat))

/-- The gain of the next sample. -/
def Ramp.gain (r : Ramp) : Option Rat := r.gainAt r.i

/-- The gain applied to the last sample (R262). -/
def Ramp.cur (r : Ramp) : Option Rat :=
  if r.len ≤ r.i then r.g1 else if r.i = 0 then r.g0 else r.gainAt (r.i - 1)

/-- The ramp one sample later. -/
def Ramp.step (r : Ramp) : Ramp := if r.i < r.len then { r with i := r.i + 1 } else r

/-- A new gain over `len` samples, from the gain applied to the last sample (R262). [DEDUCED, log 87] -/
def Ramp.to (r : Ramp) (g : Option Rat) (len : Nat) : Ramp :=
  if len = 0 then .rest g else { g0 := r.cur, g1 := g, i := 0, len := len }

/-- The gain at its end (GAIN_RAMP_END). -/
def Ramp.finish (r : Ramp) : Ramp := if r.live then r else .rest r.g1

/-- The number of samples of a ramp of `ms` milliseconds at rate `fs`, rounded (R260). [DEDUCED, log 87] -/
def rampLen (ms fs : Nat) : Nat := (ms * fs * 2 + 1000) / 2000

/-- The conversion of input `n` among those of the tick; silence where none came. -/
def convOf (l : List InConv) (n : Nat) : InConv := (l.find? fun c => c.n == n).getD { n := n, code := 0, clip := false, comb := [] }

/-- A CDB value as a gain. -/
def gainOf (v : Nat) : Option Rat := (cdb v).map fun x => (x : Rat)

/-- A value times a gain, rounded to the nearest code, before saturation (R260, R265). [DESIGN CHOICE, log 12] -/
def mulGain (g : Option Rat) (x : Int) : Int :=
  match g with
  | none => 0
  | some q => if q = 0 then x else gainProduct q x

/-- 0 dBFS (R187). -/
def fsWord : Int := 2 ^ 27

/-- A 32-bit word and whether the value had to saturate (R265). -/
def sat32 (x : Int) : Word × Bool :=
  if 2 ^ 31 - 1 < x then (BitVec.ofInt 32 (2 ^ 31 - 1), true)
  else if x < -(2 ^ 31) then (BitVec.ofInt 32 (-(2 ^ 31)), true)
  else (BitVec.ofInt 32 x, false)

/-- A sample times a gain, with the tags it has. -/
def Sample.times (g : Option Rat) (x : Sample) : Sample := { x with w := (sat32 (mulGain g x.w.toInt)).1 }

/-- Sample `i` of an equal-power crossfade of `l` samples (R203): a cosine of the old value and a sine of the new one, at
t = (i + 1)/l; the last sample is the new value. How a result between two codes is rounded is open. [DESIGN CHOICE, log 12] -/
def fade (i l : Nat) (old new : Int) : Int :=
  if l ≤ i + 1 then new else roundOpen ((old : Rat) * quarterCosine (i + 1) l + (new : Rat) * quarterSine (i + 1) l)

/-! ## Measured supplies -/

/-- The latest valid code of housekeeping channel `c` (R444, R458). -/
def State.hkCode (s : State) (c : Nat) : Option Int := (s.hk.valid.find? fun x => x.1 == c).map (·.2)

/-- A supply in V: the channel's reading scaled through the latest valid result of channel 0, which converts the 1.250 V
bandgap at a gain of 1/2 (R443, R458); `div` is the reciprocal of the channel's gain. -/
def State.volts (s : State) (c div : Nat) : Option Rat :=
  match s.hkCode c, s.hkCode 0 with
  | some x, some b => if b = 0 then none else some ((x : Rat) * (div : Rat) * (5 / 8) / (b : Rat))
  | _, _ => none

/-- AVDD_HV in V. -/
def State.avddHv (s : State) : Option Rat := s.volts 2 16

end Machine

/-- Whether `x` lies from `lo` to `hi`. -/
def between (lo hi x : Nat) : Bool := decide (lo ≤ x) && decide (x ≤ hi)

end Sys2Proof
end

