-- ==== Sys2Proof/Machine/Functions.lean ====
section
/-!
DEFINITION. Rate domains as the layout gives them (R211 to R214), and the device-wide rule for starting and stopping a
function (R35 to R43): which domain a function belongs to, whether its enable is in force, its ramp and its time bound,
and the phases it goes through.
-/

set_option autoImplicit false

namespace Sys2Proof.Machine

/-! ## The layout -/

/-- The number of rate domains of the layout (R211). -/
def State.domCount (s : State) : Nat := s.rd 0x3800 1

/-- The rate domain of cluster `c` (R211). -/
def State.clusterDom (s : State) (c : Nat) : Nat :=
  match s.rd 0x3800 1 with
  | 2 => if s.rd 0x3800 2 = 0 then (if c < 4 then 0 else 1) else (if c < 6 then 0 else 1)
  | 3 => if c < 4 then 0 else if c < 6 then 1 else 2
  | _ => 0

/-- The rate that the settings give domain `d` (R212). -/
def State.confRate (s : State) (d : Nat) : Nat := if d < 3 then s.rd 0x3800 (3 + d) else 48000

/-- Whether a rate belongs to the 44.1 kHz family. -/
def family441 (fs : Nat) : Bool := fs == 44100 || fs == 88200 || fs == 176400

/-- The base rate of a rate's family. -/
def baseRate (fs : Nat) : Nat := if family441 fs then 44100 else 48000

/-- The synthesizer that domain `d` takes its tick from (R211). -/
def State.domSyn (s : State) (d : Nat) : Syn := if family441 (s.confRate d) then .b else .a

/-- The rate at which domain `d` runs, or would run. -/
def State.rate (s : State) (d : Nat) : Nat := if (s.dom d).running then (s.dom d).rate else s.confRate d

/-- A value within `±m`. -/
def within (m x : Int) : Int := max (-m) (min m x)

/-- The mean of a list of steers. -/
def meanOf (l : List Int) : Int := if l.isEmpty then 0 else l.sum / (l.length : Int)

/-- The steer of a servo in ppb at the instant `t`: it goes to its goal no faster than its rate (R379). -/
def Servo.steer (x : Servo) (t : Nat) : Int := x.from_ + within ((x.rate * (t - x.at_) / 1000000 : Nat) : Int) (x.goal - x.from_)

/-- The steer of synthesizer `x` in ppb: that of its loop (R147), and that of the chain's servo (R379). -/
def State.steer (s : State) (x : Syn) : Int :=
  match x with
  | .a => s.clk.loopA.steer + s.net.servo.steer s.now
  | .b => s.clk.loopB.steer + s.net.servo.steer s.now
  | .s => 0

/-- A frequency taken from synthesizer `x`, in Hz, as its loop or the chain steers it (R147, R379). -/
def State.steered (s : State) (x : Syn) (hz : Rat) : Rat := hz * (1 + (s.steer x : Rat) / 1000000000)

/-- The synthesizer that a clock-output source comes from; `none` for XO and off (R150). -/
def State.ckoSyn (s : State) (k : Nat) : Option Syn :=
  match k with
  | 0 => none
  | 1 => none
  | 2 => some .a
  | 3 => some .b
  | 4 => some .s
  | _ => some (if family441 (s.rate (k - 5)) then .b else .a)

/-- The nominal frequency of a clock-output source in Hz (R135, R150); that of a word clock is `fs`. -/
def ckoNominal (fs k : Nat) : Nat :=
  match k with
  | 0 => 0 | 1 => 24576000 | 2 => 98304000 | 3 => 90316800 | 4 => 125000000
  | _ => fs

/-- The frequency of a clock-output source in Hz, as its synthesizer is steered (R147). -/
def State.ckoHz (s : State) (k : Nat) : Rat :=
  let hz : Rat := ckoNominal (s.rate (k - 5)) k
  match s.ckoSyn k with
  | some x => s.steered x hz
  | none => hz

/-- One period of a clock output that divides source `k` by `div`, in ns, rounded up (R150). -/
def State.ckoPeriod (s : State) (k div : Nat) : Nat := if k = 0 then 0 else (div * 1000000000 / s.ckoHz k).ceil.toNat

/-- The time in ns of `k` sample periods of domain `d`, rounded down. -/
def State.periods (s : State) (d k : Nat) : Nat :=
  let syn : Syn := if family441 (s.rate d) then .b else .a
  (k * 1000000000 / s.steered syn (s.rate d)).floor.toNat

/-- The sample period of domain `d` in ns, rounded up. -/
def State.period (s : State) (d : Nat) : Nat := s.periods d 1 + 1

/-- Whether a tick of domain `d` is due: its first, or one a sample period after the last (R21). -/
def State.tickDue (s : State) (d : Nat) : Bool :=
  let x := s.dom d
  x.running && (x.fresh || decide (x.tickAt + s.periods d 1 ≤ s.now))

/-- Whether this instant is a tick of domain `d`, due or just taken (R21). -/
def State.atTick (s : State) (d : Nat) : Bool := s.tickDue d || ((s.dom d).running && (s.dom d).tickAt == s.now)

/-- The domain of input `n` (R212). -/
def State.inDom (s : State) (n : Nat) : Nat := bits (s.rd 0x3800 6) (2 * ((n - 1) / 8) + 1) (2 * ((n - 1) / 8))
/-- The domain of line output `n` (R212). -/
def State.outDom (s : State) (n : Nat) : Nat := bits (s.rd 0x3800 7) (2 * ((n - 1) / 8) + 1) (2 * ((n - 1) / 8))
/-- The domain of the headphones and PWM outputs (R212). -/
def State.hpwmDom (s : State) : Nat := s.rd 0x3800 8
/-- The output domain of the listening points' ASRC channels (R212). -/
def State.listenDom (s : State) : Nat := s.rd 0x3800 9
/-- The configuration word of a serial-port direction (R341). -/
def State.sapCfg (s : State) (p : Nat) (dir : SapDir) : Nat :=
  match dir with
  | .tx => s.rd (0x3301 + p) 5
  | .rx => s.rd (0x3301 + p) 6
/-- The slot mask of a serial-port direction (R348). -/
def State.sapMask (s : State) (p : Nat) (dir : SapDir) : Nat :=
  match dir with
  | .tx => s.rd (0x3301 + p) 7
  | .rx => s.rd (0x3301 + p) 8
/-- The domain of a serial-port direction. -/
def State.sapDomain (s : State) (p : Nat) (dir : SapDir) : Nat :=
  match dir with
  | .tx => s.rd (0x3301 + p) 9
  | .rx => s.rd (0x3301 + p) 0x0A
/-- ROLE of a configuration word (R341). -/
def cfgMaster (c : Nat) : Bool := c.testBit 29
/-- ASYNC of a configuration word (R341). -/
def cfgAsync (c : Nat) : Bool := c.testBit 28
/-- SLOTS of a configuration word (R341). -/
def cfgSlots (c : Nat) : Nat := bits c 21 17 + 1
/-- WIDTH of a configuration word, in bits (R341). -/
def cfgWidth (c : Nat) : Nat := 16 + 8 * bits c 27 26
/-- The configuration word of capture channel `c` (R512). -/
def State.capCfg (s : State) (c : Nat) : Nat := s.rd (0x3B41 + c / 128) (c % 128 + 1)
/-- The configuration word of playback channel `c` (R512). -/
def State.playCfg (s : State) (c : Nat) : Nat := s.rd (0x3B51 + c / 128) (c % 128 + 1)
/-- The configuration word of delay line `d` (R295). -/
def State.lineCfg (s : State) (d : Nat) : Nat := s.rd (0x3B21 + d / 128) (d % 128 + 1)
/-- The route word of sink `p` (R199). -/
def State.routeWord (s : State) (p : Nat) : Nat := s.rd (0x3410 + p / 128) (p % 128 + 1)
/-- The source that the settings give sink `p`. -/
def State.routeSource (s : State) (p : Nat) : Nat := s.routeWord p % 0x1000

/-- The enabled AES67 flow bound to flow number `f` (R382, R395). -/
def State.aesBound (s : State) (f : Nat) : Option Nat :=
  (List.range 16).find? fun a => s.rd (0x4040 + a) 2 == 1 && s.rd (0x4040 + a) 3 == f

/-- Whether an AES67 flow is synchronous: the gateway is head and locked to the network's PTP master (R395). -/
def State.aesSync (s : State) : Bool := s.net.st == 4 && s.net.extLocked && s.rd 0x4000 0x11 == 1

/-- Whether one of the source points `lo` to `hi`, of domain `d`, leads the loop of that domain's synthesizer (R146, R214). -/
def State.isLeader (s : State) (d lo hi : Nat) : Bool :=
  let p := s.rd (if s.domSyn d = .b then 0x2109 else 0x2108) 1
  decide (lo ≤ p) && decide (p ≤ hi)

/-- Whether source point `p` is foreign-clocked (R214, R346, R385). -/
def State.foreignSrc (s : State) (p : Nat) : Bool :=
  if p = 0x30 ∨ p = 0x31 ∨ (0x810 ≤ p ∧ p ≤ 0x817) then true
  else if 0x100 ≤ p ∧ p ≤ 0x2FF then
    let port := (p - 0x100) / 32
    let c := s.sapCfg port .rx
    !cfgMaster c && cfgAsync c && !s.isLeader (s.sapDomain port .rx) (0x100 + 32 * port) (0x11F + 32 * port)
  else if 0x300 ≤ p ∧ p ≤ 0x4FF then
    let r := (p - 0x300) / 16
    (s.rd (0x4020 + r) 9 == 1 || ((s.aesBound (0x10 + r)).isSome && !s.aesSync)) &&
      !s.isLeader (s.rd (0x4020 + r) 8) (0x300 + 16 * r) (0x30F + 16 * r)
  else false

/-- Whether sink point `p` is foreign-clocked (R214). -/
def State.foreignSink (s : State) (p : Nat) : Bool :=
  if 0x100 ≤ p ∧ p ≤ 0x2FF then
    let c := s.sapCfg ((p - 0x100) / 32) .tx
    !cfgMaster c && cfgAsync c
  else if 0x300 ≤ p ∧ p ≤ 0x3FF then (s.aesBound ((p - 0x300) / 16)).isSome && !s.aesSync
  else false

/-- The rate domain of source point `p` (R213). -/
def State.srcDom (s : State) (p : Nat) : Nat :=
  if p ≤ 0x2F then s.inDom (p + 1)
  else if p ≤ 0x31 then s.listenDom
  else if p ≤ 0x2FF then s.sapDomain ((p - 0x100) / 32) .rx
  else if p ≤ 0x4FF then s.rd (0x4020 + (p - 0x300) / 16) 8
  else if p ≤ 0x5FF then bits (s.playCfg (p - 0x500)) 24 23
  else if p ≤ 0x6FF then s.clusterDom ((p - 0x600) / 32)
  else if p ≤ 0x7FF then s.rd (0x3500 + (p - 0x700)) 3
  else if p ≤ 0x80F then s.rd (0x3440 + (p - 0x800)) 1
  else s.listenDom

/-- The rate domain of sink point `p` (R213). -/
def State.sinkDom (s : State) (p : Nat) : Nat :=
  if p ≤ 0x2F then s.outDom (p + 1)
  else if p ≤ 0x4F then s.hpwmDom
  else if p ≤ 0x2FF then s.sapDomain ((p - 0x100) / 32) .tx
  else if p ≤ 0x3FF then s.rd (0x4010 + (p - 0x300) / 16) 5
  else if p ≤ 0x5FF then bits (s.capCfg (p - 0x500)) 24 23
  else s.clusterDom ((p - 0x600) / 32)

/-- The rate domain of a function by the settings in force; `none` for a function outside any rate domain. -/
def State.fdom (s : State) (f : Func) : Option Nat :=
  match f with
  | .lane n => some (s.clusterDom (n / 16))
  | .bus b => some (s.rd (0x3500 + b) 3)
  | .route p => some (s.sinkDom p)
  | .input n => some (s.inDom n)
  | .output n => some (s.outDom n)
  | .hp _ => some s.hpwmDom
  | .pwm _ => some s.hpwmDom
  | .sapTx p => some (s.sapDomain p .tx)
  | .sapRx p => some (s.sapDomain p .rx)
  | .flowTx n => some (s.rd (0x4010 + n) 5)
  | .flowRx r => some (s.rd (0x4020 + r) 8)
  | .cap c => some (bits (s.capCfg c) 24 23)
  | .play c => some (bits (s.playCfg c) 24 23)
  | .delayLine d => some (s.sinkDom (s.lineCfg d % 0x1000))
  | .link l => some (s.sinkDom (s.rd (0x3450 + l) 4))
  | .reader _ => some s.listenDom
  | .aes a => let f := s.rd (0x4040 + a) 3
              some (if f < 0x10 then s.rd (0x4010 + f) 5 else s.rd (0x4020 + (f - 0x10)) 8)
  | _ => none

/-! ## Enables, ramps and bounds -/

/-- Whether the enable of a function is in force in the dictionary. -/
def State.wants (s : State) (f : Func) : Bool :=
  match f with
  | .lane n => s.rd (0x3600 + n) 2 == 1
  | .bus b => s.rd (0x3500 + b) 2 == 1
  | .route p => s.routeSource p != 0xFFF
  | .input n => s.rd (0x3000 + n) 2 == 1
  | .output n => s.rd (0x3100 + n) 3 == 1
  | .hp h => s.rd (0x3200 + h) 2 == 1
  | .pwm n => s.rd (0x320F + n) 2 == 1
  | .sapTx p => s.rd (0x3301 + p) 3 == 1
  | .sapRx p => s.rd (0x3301 + p) 4 == 1
  | .flowTx n => s.rd (0x4010 + n) 2 == 1
  | .flowRx r => s.rd (0x4020 + r) 2 == 1
  | .aes a => s.rd (0x4040 + a) 2 == 1
  | .cap c => (s.capCfg c).testBit 31
  | .play c => (s.playCfg c).testBit 31
  | .delayLine d => (s.lineCfg d).testBit 31
  | .link l => s.rd (0x3450 + l) 2 == 1
  | .cko n => s.rd (0x2120 + n) 2 != 0
  | .scan => s.rd 0x2200 2 == 1
  | .listen => s.rd 0x3A00 2 == 1
  | .reader r => s.rd (0x3A10 + r) 2 == 1
  | .syn _ => true
  | .pd _ => true
  | .mem => true
  | .selftest => false

/-- The function whose enable the object with key `k` holds, where it is disabled by default. -/
def enableOf (k : Nat) : Option Func :=
  let i := k / 256
  let sub := k % 256
  if 0x3600 ≤ i ∧ i ≤ 0x367F ∧ sub = 2 then some (.lane (i - 0x3600))
  else if 0x3500 ≤ i ∧ i ≤ 0x35FF ∧ sub = 2 then some (.bus (i - 0x3500))
  else if 0x3410 ≤ i ∧ i ≤ 0x341F ∧ 1 ≤ sub then some (.route ((i - 0x3410) * 128 + sub - 1))
  else if 0x3210 ≤ i ∧ i ≤ 0x321F ∧ sub = 2 then some (.pwm (i - 0x320F))
  else if 0x3301 ≤ i ∧ i ≤ 0x3310 ∧ sub = 3 then some (.sapTx (i - 0x3301))
  else if 0x3301 ≤ i ∧ i ≤ 0x3310 ∧ sub = 4 then some (.sapRx (i - 0x3301))
  else if 0x4010 ≤ i ∧ i ≤ 0x401F ∧ sub = 2 then some (.flowTx (i - 0x4010))
  else if 0x4020 ≤ i ∧ i ≤ 0x403F ∧ sub = 2 then some (.flowRx (i - 0x4020))
  else if 0x4040 ≤ i ∧ i ≤ 0x404F ∧ sub = 2 then some (.aes (i - 0x4040))
  else if (i = 0x3B41 ∨ i = 0x3B42) ∧ 1 ≤ sub then some (.cap ((i - 0x3B41) * 128 + sub - 1))
  else if (i = 0x3B51 ∨ i = 0x3B52) ∧ 1 ≤ sub then some (.play ((i - 0x3B51) * 128 + sub - 1))
  else if (i = 0x3B21 ∨ i = 0x3B22) ∧ 1 ≤ sub then some (.delayLine ((i - 0x3B21) * 128 + sub - 1))
  else if 0x3450 ≤ i ∧ i ≤ 0x345F ∧ sub = 2 then some (.link (i - 0x3450))
  else if 0x2120 ≤ i ∧ i ≤ 0x2123 ∧ sub = 2 then some (.cko (i - 0x2120))
  else if i = 0x2200 ∧ sub = 2 then some .scan
  else if 0x3A10 ≤ i ∧ i ≤ 0x3A17 ∧ sub = 2 then some (.reader (i - 0x3A10))
  else none

/-- The synthesizer of index 2104h + `k`. -/
def synOf (k : Nat) : Syn := if k = 0 then .a else if k = 1 then .b else .s

/-! ## The function of an object -/

/-- The function whose `STATE` a sub holds (R43). -/
def stateFunc (i sub : Nat) : Option Func :=
  if between 0x3420 0x342F i then (if 1 ≤ sub then some (.route ((i - 0x3420) * 128 + sub - 1)) else none)
  else if between 0x3B43 0x3B44 i then (if 1 ≤ sub then some (.cap ((i - 0x3B43) * 128 + sub - 1)) else none)
  else if between 0x3B53 0x3B54 i then (if 1 ≤ sub then some (.play ((i - 0x3B53) * 128 + sub - 1)) else none)
  else if between 0x3B25 0x3B26 i then (if 1 ≤ sub then some (.delayLine ((i - 0x3B25) * 128 + sub - 1)) else none)
  else if between 0x3301 0x3310 i ∧ sub = 2 then some (.sapRx (i - 0x3301))
  else if sub ≠ 1 then none
  else if between 0x2010 0x201B i then some (.pd (i - 0x2010))
  else if between 0x2104 0x2106 i then some (.syn (synOf (i - 0x2104)))
  else if between 0x2120 0x2123 i then some (.cko (i - 0x2120))
  else if i = 0x2200 then some .scan else if i = 0x2460 then some .selftest
  else if between 0x3001 0x3030 i then some (.input (i - 0x3000))
  else if between 0x3101 0x3130 i then some (.output (i - 0x3100))
  else if between 0x3201 0x3202 i then some (.hp (i - 0x3200))
  else if between 0x3210 0x321F i then some (.pwm (i - 0x320F))
  else if between 0x3301 0x3310 i then some (.sapTx (i - 0x3301))
  else if between 0x3450 0x345F i then some (.link (i - 0x3450))
  else if between 0x3500 0x35FF i then some (.bus (i - 0x3500))
  else if between 0x3600 0x367F i then some (.lane (i - 0x3600))
  else if i = 0x3A00 then some .listen
  else if between 0x3A10 0x3A17 i then some (.reader (i - 0x3A10))
  else if i = 0x3B00 then some .mem
  else if between 0x4010 0x401F i then some (.flowTx (i - 0x4010))
  else if between 0x4020 0x403F i then some (.flowRx (i - 0x4020))
  else if between 0x4040 0x404F i then some (.aes (i - 0x4040))
  else none

/-- The index of a write. -/
def WItem.index (x : WItem) : Nat := x.key / 256

/-- The sub of a write. -/
def WItem.sub (x : WItem) : Nat := x.key % 256

/-- The function to which an object of the data plane belongs; none for an object that is of no rate domain. -/
def itemFunc (i sub : Nat) : Option Func :=
  if between 0x3410 0x341F i then some (.route ((i - 0x3410) * 128 + sub - 1))
  else if between 0x3B21 0x3B24 i then some (.delayLine ((i - 0x3B21) % 2 * 128 + sub - 1))
  else if between 0x3B41 0x3B42 i then some (.cap ((i - 0x3B41) * 128 + sub - 1))
  else if between 0x3B51 0x3B52 i then some (.play ((i - 0x3B51) * 128 + sub - 1))
  else if between 0x5000 0x507F i then some (.lane (i - 0x5000))
  else if between 0x5080 0x50FF i then some (.lane (i - 0x5080))
  else if between 0x3301 0x3310 i then
    (if sub = 4 ∨ sub = 6 ∨ sub = 8 ∨ sub = 0x0A ∨ sub = 0x0C then some (.sapRx (i - 0x3301)) else some (.sapTx (i - 0x3301)))
  else if between 0x3001 0x3030 i ∨ between 0x3101 0x3130 i ∨ between 0x3201 0x321F i ∨ between 0x3450 0x345F i ∨
      between 0x3500 0x35FF i ∨ between 0x3600 0x367F i ∨ between 0x4010 0x404F i then stateFunc i 1
  else none

/-- The function whose enable an object is. -/
def WItem.enable (x : WItem) : Option Func :=
  if between 0x3001 0x3030 x.index ∧ x.sub = 2 then some (.input (x.index - 0x3000))
  else if between 0x3101 0x3130 x.index ∧ x.sub = 3 then some (.output (x.index - 0x3100))
  else if between 0x3201 0x3202 x.index ∧ x.sub = 2 then some (.hp (x.index - 0x3200))
  else if x.index = 0x3A00 ∧ x.sub = 2 then some .listen
  else if between 0x2120 0x2123 x.index then none
  else enableOf x.key

/-- Whether a write is a parameter of function `f`: of an object of `f` other than its enable (R36). -/
def WItem.param (x : WItem) (f : Func) : Bool := itemFunc x.index x.sub == some f && x.enable != some f

/-- The functions that are enabled by default. -/
def enabledByDefault : List Func :=
  (List.range 48).map (fun n => .input (n + 1)) ++ (List.range 48).map (fun n => .output (n + 1)) ++
    [.hp 1, .hp 2, .listen]

/-- Every function whose enable is in force. -/
def State.enabledList (s : State) : List Func :=
  (enabledByDefault ++ s.objs.filterMap fun x => enableOf x.1).filter s.wants

/-- The start and stop ramp of a function in ms (R37). -/
def State.frampMs (s : State) (f : Func) : Nat :=
  match f with
  | .lane n => s.rd (0x3600 + n) 3
  | .bus b => s.rd (0x3500 + b) 6
  | .route p => let x := bits (s.routeWord p) 27 16
                if x = 0 then look 10 s.router.xfades p else x
  | .input n => s.rd (0x3000 + n) 6
  | .output n => if s.rd (0x3101 + (n - 1) / 2 * 2) 2 = 0 then s.rd (0x3100 + n) 8 else 0
  | .hp h => s.rd (0x3200 + h) 7
  | .pwm n => s.rd (0x320F + n) 8
  | .sapTx p => s.rd (0x3301 + p) 0x0D
  | .sapRx p => s.rd (0x3301 + p) 0x0D
  | .flowTx n => s.rd (0x4010 + n) 6
  | .flowRx r => s.rd (0x4020 + r) 0x0A
  | .play _ => s.rd 0x3B50 2
  | .delayLine _ => s.rd 0x3B20 1
  | .link l => s.rd (0x3450 + l) 7
  | .listen => 10
  | .reader _ => 10
  | _ => 0

/-- Whether headphone `h` runs, or still ramps out, on the ticks of talkback, which count as a domain 3 (R91). [DEDUCED, log 43] -/
def State.talks (s : State) (h : Nat) : Bool :=
  (s.fn (.hp h)).dom == 3 && (match s.phase (.hp h) with
    | .starting => true | .running => true | .draining => true | .ramping => true
    | _ => false)

/-- The rate at which a function's ramp counts: its domain's, eight times the base rate for a direct link (R282), and
16 kHz for the listening path, the ring readers and talkback (R91). -/
def State.frate (s : State) (f : Func) : Nat :=
  match f with
  | .link l => 8 * baseRate (s.rate (s.sinkDom (s.rd (0x3450 + l) 4)))
  | .listen => 16000
  | .reader _ => 16000
  | .hp h => if s.ms.mode = .amber ∨ s.talks h then 16000 else s.rate s.hpwmDom
  | _ => match s.fdom f with
    | some d => s.rate d
    | none => 48000

/-- The start and stop ramp of a function in samples. -/
def State.framp (s : State) (f : Func) : Nat := rampLen (s.frampMs f) (s.frate f)

/-- The longest drain of a function in ns, as its owner chapter states it. -/
def State.fdrain (s : State) (f : Func) : Nat :=
  match f with
  | .scan => 21080000
  | .selftest => 10000000
  | .listen => 1000000
  | .reader _ => 62500
  | .flowTx _ => 250000
  | .sapTx p => (1 + s.rd (0x3301 + p) 0x0B) * s.period (s.sapDomain p .tx)
  | .output n => (if s.rd (0x3101 + (n - 1) / 2 * 2) 2 = 0 then 1 else 24) * s.period (s.outDom n)
  | .pwm n => s.period s.hpwmDom + s.rd (0x320F + n) 9 * 100000
  | .hp h => if s.ms.mode = .amber ∨ s.talks h then 62500 else s.period s.hpwmDom
  | .link _ => 1000000000 / s.frate f
  | .cko n => s.ckoPeriod (s.cko n).src (s.cko n).div
  | _ => match s.fdom f with
    | some d => s.period d
    | none => 0

/-- The time bound of R39 in ns: the longest drain plus the ramp. -/
def State.fbound (s : State) (f : Func) : Nat := s.fdrain f + s.frampMs f * 1000000

/-- Whether a self-test holds the functions (R299, R524). -/
def State.testing (s : State) : Bool := s.ms.mode == .pearl && !s.test.left.isEmpty

/-- Whether a self-test, a descent that has begun or a layout change holds the start of every sample function (R86, R213, R524). -/
def State.onHold (s : State) : Bool :=
  s.testing || s.router.relayout || (match s.ms.trans with
    | .descent _ _ begun => begun
    | _ => false)

/-! ## Phases -/

/-- A function that starts: it waits `wait` samples and then ramps in over `len` (R43). -/
def FuncState.begin (x : FuncState) (dom wait len : Nat) : FuncState :=
  { x with phase := .starting, startPending := false, wait := wait, dom := dom, gated := false,
           fade := { g0 := none, g1 := some 0, i := 0, len := len } }

/-- A function that is disabled (R35, R36, R40, R41). `len` is its ramp, `bound` the instant of its time bound and `wait`
the samples it still delivers. A function in FAULT has no work left and reads QUIESCED. -/
def FuncState.stop (x : FuncState) (len bound wait : Nat) : FuncState :=
  match x.phase with
  | .off => { x with startPending := false }
  | .quiesced => { x with startPending := false }
  | .draining => { x with startPending := false }
  | .ramping => { x with startPending := false }
  | .fault => { x with phase := .quiesced, startPending := false }
  | .starting => { x with phase := .ramping, startPending := false, fade := x.fade.to none len, bound := bound }
  | .running => { x with phase := .draining, startPending := false, wait := wait, bound := bound }

/-- A drained function enters its ramp, or is QUIESCED at once where it has none (R36 to R38). -/
def FuncState.drained (x : FuncState) (len : Nat) : FuncState :=
  if len = 0 then { x with phase := .quiesced, fade := .rest none } else { x with phase := .ramping, fade := x.fade.to none len }

/-- A function that has ended its ramp (R38). -/
def FuncState.quiesce (x : FuncState) (frame : Nat) : FuncState :=
  { x with phase := .quiesced, fade := .rest none, mark := frame }

/-- A function stopped by force (R39). -/
def FuncState.force (x : FuncState) (frame : Nat) : FuncState := { x.quiesce frame with forced := true }

/-- One frame of a function's phase: the wait of its start, its ramp-in to RUNNING, its drain and its ramp-out. -/
def FuncState.frame (x : FuncState) : FuncState :=
  match x.phase with
  | .starting =>
    if 0 < x.wait then { x with wait := x.wait - 1 }
    else
      let r := x.fade.step
      if r.live then { x with fade := r } else { x with phase := .running, forced := false, fade := .rest (some 0) }
  | .draining => { x with wait := x.wait - 1 }
  | .ramping => { x with fade := x.fade.step }
  | _ => x

/-- Whether a function computes: it is ramping in, running, draining or ramping out (R189). -/
def FuncState.active (x : FuncState) : Bool :=
  match x.phase with
  | .running => true
  | .draining => true
  | .ramping => true
  | .starting => decide (x.wait = 0)
  | _ => false

/-- Whether the sample carries Q because the function starts or stops (R37). -/
def FuncState.fading (x : FuncState) : Bool :=
  match x.phase with
  | .ramping => true
  | .starting => true
  | _ => false

/-- The state with the function erased to OFF (R43, R550). -/
def State.offFn (s : State) (f : Func) : State :=
  s.setFn f { FuncState.off with forced := (s.fn f).forced }

/-- A function whose clock or ticks stop while its power domain stays on reads OFF (R550). -/
def State.gateFn (s : State) (f : Func) : State :=
  let x := s.fn f
  s.setFn f { FuncState.off with forced := x.forced, dom := x.dom, gated := x.gated || x.phase != .off }

/-- Whether power domain `i` is on; PD_AO never is off (R96). -/
def State.pdOn (s : State) (i : Nat) : Bool := i == 0 || (s.phase (.pd i) == .running || s.phase (.pd i) == .draining)

/-- Whether the functions of a mode run in it (R82, R91, R94). -/
def Mode.runs (m : Mode) : Bool :=
  match m with
  | .teal => true | .ivory => true | .cobalt => true | .pearl => true | .crimson => true
  | _ => false

/-- The modes in which the output functions and the transmit flows are started (R299, R388). -/
def Mode.drives (m : Mode) : Bool :=
  match m with
  | .ivory => true | .cobalt => true | .pearl => true
  | _ => false

/-- What the device has in common for every function in a rate domain: its power domain is on, its rate domain issues
ticks, and the mode runs functions. -/
def State.domReady (s : State) (f : Func) : Bool :=
  Mode.runs s.ms.mode && s.pdOn f.pdom && (match s.fdom f with
    | some d => (s.dom d).running
    | none => true)

/-- The frame count of the domain a function last started in. -/
def State.fframe (s : State) (f : Func) : Nat := (s.dom (s.fn f).dom).frame

/-- The samples that a draining function still delivers (R36): the frame begun at the tick, whose result a lane
delivers one tick later (R22). -/
def drainWait (f : Func) : Nat :=
  match f with
  | .lane _ => 2
  | .listen => 16
  | _ => 1

/-- Whether a function still has to stop. -/
def State.busyFn (s : State) (f : Func) : Bool :=
  match s.phase f with
  | .starting => true | .running => true | .draining => true | .ramping => true
  | _ => false

/-- Whether a self-test disables the function before its first test (R524). -/
def testStops (f : Func) : Bool :=
  match f with
  | .pd _ => false | .syn _ => false | .mem => false | .selftest => false
  | _ => true

/-- Whether every function that a self-test disables has stopped. -/
def State.testQuiet (s : State) : Bool := s.funcList.all fun f => !(testStops f && s.busyFn f)

/-- The parameter changes of a function that wait for their tick are discarded when the function is disabled (R36, R37). [DEDUCED, log 42] -/
def State.discardStaged (s : State) (f : Func) : State :=
  { s with parts := s.parts.map fun p => { p with writes := p.writes.filter fun x => !x.param f } }

/-- The function disabled under R35 to R41; the bound of R39 counts from now. -/
def State.stopFn (s : State) (f : Func) : State :=
  s.setFn f ((s.fn f).stop (s.framp f) (s.now + s.fbound f) (drainWait f))

/-- The function put to FAULT (R43). -/
def State.faultFn (s : State) (f : Func) : State :=
  let s := s.setFn f { s.fn f with phase := .fault, startPending := false, fade := .rest none }
  s.latch 9

end Sys2Proof.Machine
end

