-- ==== Sys2Proof/Machine/Inputs.lean ====
section
/-!
DEFINITION. The microphone and line inputs and the phantom pins (06_analog_inputs.md, R153 to R185): gain, selection,
filter and mute changes, the sample of each tick with its tags, the reference groups, and the phantom frames.
-/

set_option autoImplicit false

namespace Sys2Proof.Machine

/-! ## Settings -/

/-- The highest gain of an input selection in 0.01 dB (R154). -/
def selCap (sel : Nat) : Nat := if sel = 1 then 3000 else if sel = 2 then 4200 else 6600

/-- The full scale of a selection at gain 0 in 0.01 dBu (R154). -/
def selFull (sel : Nat) : Int := if sel = 2 then 1800 else 2400

/-- The number of samples marked V=0 after a change to a filter (R161). -/
def filterCount (f : Nat) : Nat := if f = 0 then 64 else if f = 1 then 24 else 12

/-- The group delay of a filter in samples, for the minimum-phase filter at 1 kHz (R161, R163). -/
def filterDelay (f : Nat) : Nat := if f = 0 then 38 else if f = 1 then 6 else 2

/-- The total gain that the settings of input `n` ask for, in 0.01 dB (R155). -/
def State.inGain (s : State) (n : Nat) : Nat := min (s.rd (0x3000 + n) 4) (selCap (s.rd (0x3000 + n) 3))

/-- The analog range of a total gain, in 0.01 dB (R155). -/
def rangeOf (g : Nat) : Nat := g / 600 * 600

/-- The analog range at a gain on a ramp (R165). -/
def rangeAt (g : Rat) : Nat := (g / 600).floor.toNat * 600

/-- MUTE of input `n`. -/
def State.inMute (s : State) (n : Nat) : Bool := s.rd (0x3000 + n) 5 == 1

/-- The gain input `n` comes to rest at: its total gain, or mute (R165, R174). -/
def State.inGoal (s : State) (n : Nat) : Option Rat := if s.inMute n then none else some (s.inGain n : Rat)

/-- The phantom switch bit that the settings of input `n` ask for (R181 to R184). -/
def State.phWanted (s : State) (n : Nat) : Bool := s.rd (0x3000 + n) 0x10 == 2 && !(s.inp n).phTrip

/-- Whether any input's phantom is controlled (R181), or a frame has still to take a switch bit back (R183). -/
def State.phUsed (s : State) : Bool :=
  (List.range 48).any fun j =>
    let x := s.inp (j + 1)
    s.rd (0x3001 + j) 0x10 != 0 || x.phOn || x.phCyc == .out

/-- Whether the channel is silent (R166): muted with its ramp done, or held silent by a selection or phantom cycle. -/
def InputCh.silent (x : InputCh) : Bool := !x.gain.live && x.gain.g1 == none

/-- The channel on its way to silence over `len` samples; one that is there already needs no ramp. -/
def InputCh.hush (x : InputCh) (len : Nat) : InputCh :=
  if x.gain.cur = none then { x with gain := .rest none }
  else { x with base := if x.gain.g0.isSome && x.gain.g1.isSome then x.gain.cur.getD x.base else x.base, gain := x.gain.to none len }

/-- A run of `k` samples with V=0 from here on (R168). -/
def InputCh.mark (x : InputCh) (k : Nat) : InputCh := { x with bad := max x.bad k }

/-- Whether a selection or phantom cycle takes the channel to silence or holds it there; it then returns to the settings of that
time. -/
def InputCh.cycling (x : InputCh) : Bool := x.selCyc == .out || x.selCyc == .held || x.phCyc == .out || x.phCyc == .held

/-- The analog range from which a ramp to the total gain `g` begins (R165): where a ramp from or to mute has left the gain below
the range, the range moves at once, and marks eight samples. [DEDUCED, log 61] -/
def InputCh.aim (x : InputCh) (g : Nat) : InputCh :=
  let r := match x.gain.cur with
    | none => rangeOf g
    | some q => if q < (x.range : Rat) then min x.range (max (rangeOf g) (rangeAt q)) else x.range
  if r = x.range then x else { x with range := r }.mark 8

/-- The ramp to the gain that the settings ask for (R165, R167, R183). -/
def State.inReturn (s : State) (n : Nat) (x : InputCh) : InputCh :=
  if s.inMute n then x.hush (s.framp (.input n))
  else
    let x := { x.aim (s.inGain n) with base := s.inGain n }
    { x with gain := if x.gain.cur = s.inGoal n then .rest (s.inGoal n) else x.gain.to (s.inGoal n) (s.framp (.input n)) }

/-- The gain and range that the settings ask for, taken in one step on a silent channel (R166). -/
def State.inStep (s : State) (n : Nat) (x : InputCh) : InputCh :=
  let y := { x with base := s.inGain n }
  if x.range = rangeOf (s.inGain n) then y else { y with range := rangeOf (s.inGain n) }.mark 8

/-! ## Changes that a commit makes -/

/-- The selection, filter, gain and range of input `n` as the settings state them, in one step (R167 step 2). -/
def State.inTake (s : State) (n : Nat) (x : InputCh) : InputCh :=
  { x with sel := s.rd (0x3000 + n) 3, filter := s.rd (0x3000 + n) 7, range := rangeOf (s.inGain n), base := s.inGain n }

/-- The switch of a selection change (R167 steps 2 and 3): the next 96 samples carry V=0 and Q. -/
def State.inSwitch (s : State) (n : Nat) (x : InputCh) : InputCh := { s.inTake n x with badQ := 96 }

/-- A change of SELECT (R167). On a channel that is muted, and that the same commit unmutes, the ramp-in follows the 96 samples. [DESIGN CHOICE, log 92] -/
def State.inSelect (s : State) (n : Nat) (x : InputCh) : InputCh :=
  if x.silent then { s.inSwitch n x with selCyc := if s.inMute n then x.selCyc else .held }
  else if x.selCyc == .out then x
  else { x.hush (s.framp (.input n)) with selCyc := .out }

/-- A change of GAIN (R165, R166). On a channel that is on its way to silence the change is taken in one step once it is silent. [DESIGN CHOICE, log 92] -/
def State.inGainChange (s : State) (n : Nat) (x : InputCh) : InputCh :=
  if x.silent then s.inStep n x
  else if x.gain.g1.isNone || (!x.gain.live && x.gain.g1 == s.inGoal n) then x
  else s.inReturn n x

/-- A change of MUTE (R166, R179): a ramp to silence, or back to the total gain. -/
def State.inMuteChange (s : State) (n : Nat) (x : InputCh) : InputCh :=
  if x.cycling || x.gain.g1.isNone == s.inMute n then x else s.inReturn n x

/-- A change of FILTER (R162). -/
def State.inFilter (s : State) (n : Nat) (x : InputCh) : InputCh :=
  { x with filter := s.rd (0x3000 + n) 7 }.mark (filterCount (s.rd (0x3000 + n) 7))

/-- A change of PHANTOM (R183): on a running channel the ramp to silence, unless it is silent already or on its way; otherwise the
frame at once. -/
def State.inPhantom (s : State) (n : Nat) : State :=
  let x := s.inp n
  let x := if s.rd (0x3000 + n) 0x10 = 2 then { x with phTrip := false } else x
  if s.phase (.input n) = .running then
    s.setInp n { (if x.gain.g1.isNone then x else x.hush (s.framp (.input n))) with phCyc := .out }
  else
    let s := s.setInp n { x with phUntil := s.now + s.rd (0x3000 + n) 0x11 * 1000000 }
    { s with phantom := { s.phantom with due := true } }

/-- A written PHANTOM acts where it changes, or where 02h is written after a trip (R183, R184); `b` is the state before. [DEDUCED, log 61] -/
def State.rephantom (b s : State) (n : Nat) : State :=
  let v := s.rd (0x3000 + n) 0x10
  if b.rd (0x3000 + n) 0x10 ≠ v ∨ (v = 2 ∧ (s.inp n).phTrip) then s.inPhantom n else s

/-- What a commit that has written the subs `subs` of input `n` does to a channel that runs, or that presents the 96 samples of its
start; there a change of SELECT begins them anew. [DESIGN CHOICE, log 92] -/
def State.applyInput (s : State) (n : Nat) (subs : List Nat) : State :=
  let x := s.inp n
  let f := s.fn (.input n)
  let select := subs.contains 3 && x.sel != s.rd (0x3000 + n) 3
  let filter := subs.contains 7 && x.filter != s.rd (0x3000 + n) 7
  if f.active then
    if select then s.setInp n (s.inSelect n x)
    else
      let x := if subs.contains 4 then s.inGainChange n x else x
      let x := if subs.contains 5 then s.inMuteChange n x else x
      s.setInp n (if filter then s.inFilter n x else x)
  else if f.phase = .starting then
    if select then (s.setInp n (s.inTake n x)).setFn (.input n) { f with wait := max f.wait 96 }
    else
      let x := if subs.contains 4 then s.inStep n x else x
      s.setInp n (if filter then s.inFilter n x else x)
  else s

/-! ## Start and stop -/

/-- The conditions of R174 and R176 for a start, beside those of every function. -/
def State.inputReady (s : State) (n : Nat) : Bool :=
  s.domReady (.input n) && !s.onHold && !(s.refGroup ((n - 1) / 8)).fault

/-- The reference of group `g` is switched on, if it is off, and settles for 1 ms (R174). -/
def State.refOn (s : State) (g : Nat) : State :=
  let r := s.refGroup g
  if r.on then s else s.setRef g { r with on := true, settled := false, settleAt := s.now + 1000000 }

/-- The start of input `n` (R164, R174): its reference is on, and the settings take effect. The combiner keeps the path on which the
channel stopped; the rules state none. [DESIGN CHOICE, log 92] -/
def State.startInput (s : State) (n : Nat) : State :=
  let s := s.refOn ((n - 1) / 8)
  let s := s.setInp n
    { s.inTake n (s.inp n) with hpf := s.rd (0x3000 + n) 8 == 1, dc := 0, gain := .rest none, bad := 0, badQ := 0, selCyc := .idle,
                                phCyc := .idle, ovl := false, run := 0, last := .off }
  s.setFn (.input n) ((s.fn (.input n)).begin (s.inDom n) 96 (s.framp (.input n)))

/-- What a stop without drain or ramp leaves of the channel's work (R176, R177): nothing ramps on, and a phantom switching that waited
for silence has its frame at once (R183). -/
def State.haltInput (s : State) (n : Nat) : State :=
  let x := s.inp n
  let s := if x.phCyc = .out then { s with phantom := { s.phantom with due := true } } else s
  s.setInp n { x with gain := .rest none, bad := 0, badQ := 0, selCyc := .idle, phCyc := .idle, ovl := false, run := 0 }

/-- The stop ramp of input `n` (R175). -/
def State.rampInput (s : State) (n : Nat) : State :=
  let x := s.inp n
  let s := if x.phCyc = .out then { s with phantom := { s.phantom with due := true } } else s
  s.setInp n { x.hush (s.framp (.input n)) with selCyc := .idle, phCyc := .idle }

/-- The channels of group `g`. -/
def groupInputs (g : Nat) : List Nat := (List.range 8).map fun j => 8 * g + j + 1

/-- The reference of a group is switched off once every channel of the group is OFF (R175) and talkback does not use it (R91). [DEDUCED, log 62] -/
def State.refOff (s : State) (g : Nat) : State :=
  if (groupInputs g).all (fun n => s.phase (.input n) == .off) && !(g == 0 && s.outs.talkback) then s.setRef g .off else s

/-- The references of every group that has no channel left (R175). -/
def State.refsOff (s : State) : State := (List.range 6).foldl State.refOff s

/-! ## The sample of one tick -/

/-- The code after the high-pass at the rate `fs`, and the DC it has found (R164). -/
def InputCh.filtered (x : InputCh) (fs : Nat) (code : Int) : Int × Int :=
  if x.hpf then let dc := Config.highPass fs x.dc code; (code - dc, dc) else (code, x.dc)

/-- The gain of a running ramp at the sample to come, against the larger of its ends (R171). Which end a ramp from one gain to another
is measured against is open. [DESIGN CHOICE, log 92] -/
def Ramp.share (r : Ramp) : Option Rat :=
  if !r.live then (if r.g1.isNone then none else some 0)
  else r.gain.map fun q => q - max (r.g0.getD (r.g1.getD 0)) (r.g1.getD (r.g0.getD 0))

/-- The sample of an active channel (R164, R165, R169 to R172): the tags of every row that covers it, and the DC that the high-pass has
found. -/
def InputCh.sample (x : InputCh) (fading : Bool) (fs : Nat) (c : InConv) : Sample × Int :=
  let g := x.gain.gain
  let top : Int := 2 ^ 27 - 1
  let f := x.filtered fs c.code.toInt
  let mute := decide (0 < x.badQ) || x.silent
  let u := mulGain (g.map fun q => q - (x.range : Rat)) f.1
  let v : Int :=
    if mute then 0
    else if x.ovl then mulGain x.gain.share (if x.neg then -top else top)
    else if top < u then top else if u < -top then -top else u
  let clamped := !mute && !x.ovl && (decide (top < u) || decide (u < -top))
  ({ w := BitVec.ofInt 32 v, v := decide (x.bad = 0) && decide (x.badQ = 0) && !x.ovl, o := x.ovl || clamped || c.clip, s := false,
     n := decide (0 < x.neigh), q := fading || x.gain.live || g.isNone || decide (0 < x.badQ) }, f.2)

/-- The analog range of a gain ramp at the sample to come: a crossing steps it in the direction of the ramp and marks eight samples
(R165). A ramp from or to mute leaves it. -/
def InputCh.cross (x : InputCh) : InputCh :=
  match x.gain.live, x.gain.g0, x.gain.g1, x.gain.gain with
  | true, some a, some b, some q =>
    let r := if a ≤ b then max x.range (rangeAt q) else min x.range (rangeAt q)
    if r = x.range then x else { x with range := r }.mark 8
  | _, _, _, _ => x

/-- The channel one sample later: ramps and runs advance, a channel that has just become silent takes the gain set meanwhile (R166),
and a selection cycle moves on (R167). -/
def State.inputNext (s : State) (n : Nat) (x : InputCh) : InputCh :=
  let y := { x with gain := x.gain.step, bad := x.bad - 1, badQ := x.badQ - 1, neigh := x.neigh - 1 }
  let y := if y.silent && !x.silent && y.selCyc != .out then s.inStep n y else y
  match y.selCyc with
  | .out => if y.gain.live then y else { s.inSwitch n y with selCyc := .held }
  | .held =>
    if y.badQ = 0 then
      if s.inMute n || y.phCyc == .out || y.phCyc == .held then { y with selCyc := .idle }
      else { s.inReturn n y with selCyc := .back }
    else y
  | .back => if y.gain.live then y else { y with selCyc := .idle, phCyc := if y.phCyc == .back then .idle else y.phCyc }
  | .idle => if y.phCyc == .back && !y.gain.live then { y with phCyc := .idle } else y

/-- The sticky bits and the event of a run of clipped samples (R170, R171, R183). INPUT_CLIP is counted at the first sample after the
run: only there is it certain that the run held no overload. [DESIGN CHOICE, log 92] -/
def State.inputClip (s : State) (n : Nat) (clip ovl : Bool) : State :=
  let x := s.inp n
  let i := 0x3000 + n
  let s := if (clip || ovl) && x.phCyc == .idle then s.wrBit i 0x0A 0 true else s
  let x := if clip || ovl then { x with overAt := some s.now } else x
  if ovl then s.setInp n { x with run := 2 }
  else if clip then s.setInp n { x with run := if x.run = 0 then 1 else x.run }
  else
    let s := s.setInp n { x with run := 0 }
    if x.run = 1 then s.event 0x30 i else s

/-- Whether input `n` waits in its start: for the reference, or for the settle time of its phantom switch (R174,
R183). -/
def State.inputHeld (s : State) (n : Nat) : Bool :=
  s.phase (.input n) == .starting && (s.fn (.input n)).wait != 0 &&
    (!(s.refGroup ((n - 1) / 8)).settled || decide (s.now < (s.inp n).phUntil) || s.phWanted n != (s.inp n).phOn)

/-- The ramp-in of input `n` begins (R174 step 3), over the `RAMP_TIME` of that moment. -/
def State.inputRampIn (s : State) (n : Nat) : State :=
  let len := s.framp (.input n)
  let s := s.setInp n { s.inTake n (s.inp n) with
    gain := if s.inMute n then .rest none else { g0 := none, g1 := s.inGoal n, i := 0, len := len } }
  s.setFn (.input n) ((s.fn (.input n)).begin (s.fn (.input n)).dom 0 len)

/-- A channel that computes nothing at a tick: its runs of tags go on, and the wait of a start counts its samples (R172, R174). -/
def State.inputWaits (s : State) (conv : List InConv) (n : Nat) : State :=
  let x := s.inp n
  let f := s.fn (.input n)
  let y : Sample := { Sample.off with o := x.ovl || (convOf conv n).clip, n := decide (0 < x.neigh) }
  let s := s.setInp n { x with bad := x.bad - 1, neigh := x.neigh - 1, last := if f.phase = .starting then y else x.last }
  if f.phase = .starting then
    let s := (s.inputClip n (y.o && !x.ovl) x.ovl).setFn (.input n) f.frame
    if f.wait ≤ 1 then s.inputRampIn n else s
  else s

/-- One tick of input `n`: its sample at the source point, then its phase and its ramps (R169, R174, R175). [DESIGN CHOICE, log 16] -/
def State.tickInput (s : State) (conv : List InConv) (n : Nat) : State :=
  let f := s.fn (.input n)
  if s.inputHeld n then s
  else if !f.active then s.inputWaits conv n
  else
    let x := (s.inp n).cross
    let r := x.sample f.fading (s.rate f.dom) (convOf conv n)
    let y := s.inputNext n { x with last := r.1, dc := r.2, neg := if r.1.v then r.1.w.msb else x.neg }
    let s := (s.setInp n y).setSrc (n - 1) r.1
    let s := s.inputClip n (r.1.o && !x.ovl) x.ovl
    s.setFn (.input n) f.frame

/-- The runs of N of the channels of domain `d` that are no running function go on at its ticks (R172). -/
def State.tickIdleInputs (s : State) (d : Nat) : State :=
  s.inputs.foldl (fun s e =>
    if 0 < e.2.neigh ∧ s.inDom e.1 = d ∧ !s.busyFn (.input e.1) then s.setInp e.1 { s.inp e.1 with neigh := (s.inp e.1).neigh - 1 } else s) s

/-! ## Events of the inputs -/

/-- A sticky bit of OVER_LATCH (R173). -/
def State.overLatch (s : State) (n bit : Nat) : State := s.wrBit (0x3000 + n) 0x0A bit true

/-- The other seven channels of the group of input `n` carry N for 64 samples (R172). [DEDUCED, log 61] -/
def State.markNeighbours (s : State) (n : Nat) : State :=
  ((groupInputs ((n - 1) / 8)).filter fun m => m != n).foldl
    (fun s m => (s.setInp m { s.inp m with neigh := 64 }).overLatch m 2) s

/-- Whether `n` names an input. [DESIGN CHOICE, log 89] -/
def isInput (n : Nat) : Bool := decide (1 ≤ n) && decide (n ≤ 48)

/-- COMBINER_CROSSFADE (R158). -/
def execCombinerCrossfade (t n : Nat) (s : State) : Host.Outcome State Fault Refusal :=
  let s := s.clock t
  if isInput n && (s.fn (.input n)).active && !(s.inp n).lg then
    .next ((s.setInp n { s.inp n with lg := true, lgAt := s.now }).bump 0x3900 (0x0F + n))
  else .next s

/-- COMBINER_RETURN (R158): the signal has stayed low for 50 ms. -/
def execCombinerReturn (t n : Nat) (s : State) : Host.Outcome State Fault Refusal :=
  let s := s.clock t
  if isInput n && (s.fn (.input n)).active && (s.inp n).lg && decide ((s.inp n).lgAt + 50000000 ≤ s.now) then .next (s.setInp n { s.inp n with lg := false })
  else .next s

/-- INPUT_OVERLOAD (R171): a rise before V has returned continues the same overload. -/
def execInputOverload (t n : Nat) (s : State) : Host.Outcome State Fault Refusal :=
  let s := s.clock t
  if isInput n && s.busyFn (.input n) && !(s.inp n).ovl then
    let x := s.inp n
    let s := s.setInp n { x with ovl := true, run := 2 }
    let s := if x.phCyc == .idle then (s.overLatch n 0).overLatch n 1 else s
    .next ((s.bump (0x3000 + n) 0x0B).event 0x31 (0x3000 + n))
  else .next s

/-- INPUT_OVERLOAD_RECOVERY (R171). -/
def execInputOverloadRecovery (t n : Nat) (s : State) : Host.Outcome State Fault Refusal :=
  let s := s.clock t
  if isInput n && (s.inp n).ovl then .next (s.setInp n { s.inp n with ovl := false }) else .next s

/-- INPUT_CLAMP_ENGAGE (R172): the clamp draws on the group's reference, whatever the phase of the channel. -/
def execInputClampEngage (t n : Nat) (s : State) : Host.Outcome State Fault Refusal :=
  let s := s.clock t
  if isInput n && (s.refGroup ((n - 1) / 8)).on && !(s.inp n).clamp then
    .next (((s.setInp n { s.inp n with clamp := true }).markNeighbours n).event 0x32 (0x3000 + n))
  else .next s

/-- INPUT_CLAMP_RELEASE (R172). -/
def execInputClampRelease (t n : Nat) (s : State) : Host.Outcome State Fault Refusal :=
  let s := s.clock t
  if isInput n && (s.inp n).clamp then .next ((s.setInp n { s.inp n with clamp := false }).markNeighbours n)
  else .next s

/-- REFERENCE_SETTLED (R174). -/
def execReferenceSettled (t g : Nat) (s : State) : Host.Outcome State Fault Refusal :=
  let s := s.clock t
  let r := s.refGroup g
  if r.on && !r.settled && decide (r.settleAt ≤ s.now) then .next (s.setRef g { r with settled := true }) else .next s

/-- REF_FAULT (R176). [DEDUCED, log 62] -/
def execRefFault (t g : Nat) (s : State) : Host.Outcome State Fault Refusal :=
  let s := s.clock t
  let r := s.refGroup g
  if r.on && !r.fault then
    let s := s.setRef g { r with fault := true, faultAt := s.now }
    let hit := (groupInputs g).filter fun n => s.busyFn (.input n)
    .next ((hit.foldl (fun s n => (s.haltInput n).faultFn (.input n)) s).event 0x33 (0x3001 + 8 * g))
  else .next s

/-- REF_RECOVER (R176): 10 ms within tolerance. Enabled channels whose domain runs start, those whose domain does not start with it,
and those in FAULT that are no longer enabled read QUIESCED. [DEDUCED, log 62] -/
def execRefRecover (t g : Nat) (s : State) : Host.Outcome State Fault Refusal :=
  let s := s.clock t
  let r := s.refGroup g
  if r.fault ∧ r.faultAt + 10000000 ≤ s.now then
    let s := s.setRef g { r with fault := false }
    .next ((groupInputs g).foldl (fun s n =>
      let ph := s.phase (.input n)
      if s.wants (.input n) && s.inputReady n && (ph == .fault || ph == .off || ph == .quiesced) then s.startInput n
      else if ph == .fault && !s.wants (.input n) then s.setFn (.input n) { s.fn (.input n) with phase := .quiesced }
      else s) s)
  else .next s

/-! ## Phantom frames -/

/-- The silence of a phantom cycle ends and the channel ramps in (R183, R184). -/
def State.phBack (s : State) (n : Nat) : State :=
  let x := s.inp n
  s.setInp n { (if x.selCyc == .out || x.selCyc == .held then x else s.inReturn n x) with phCyc := .back }

/-- The switch bit that a frame sends for input `n`: none before BOOT_DONE (R185), and a running channel keeps its bit until it is
silent (R183). -/
def State.phSend (s : State) (n : Nat) : Bool :=
  let x := s.inp n
  if !s.ms.booted then false
  else if s.rd (0x3000 + n) 0x10 = 0 ∧ x.phCyc ≠ .out then false
  else if x.phCyc = .out && x.gain.live then x.phOn
  else s.phWanted n

/-- One channel of a phantom frame (R182 to R184): its switch bit, and its fault bit `b` against the one before it. -/
def State.phChannel (s : State) (n : Nat) (b : Bool) : State :=
  let x := s.inp n
  let on := s.phSend n
  let x := if x.phCyc = .out && !x.gain.live then
      { x with phCyc := .held, phUntil := s.now + s.rd (0x3000 + n) 0x11 * 1000000 } else x
  let x := if x.phCyc = .idle ∧ x.phOn ≠ on then { x with phUntil := s.now + s.rd (0x3000 + n) 0x11 * 1000000 } else x
  let x := { x with phOn := on }
  if s.rd (0x3000 + n) 0x10 = 0 then s.setInp n { x with phRun := 0, phFault := false }
  else
    let same := x.phBit == b && decide (0 < x.phRun)
    let run := if same then min (x.phRun + 1) 2 else 1
    let x := { x with phBit := b, phRun := run }
    if run = 2 ∧ b ∧ !x.phFault then
      let s := (s.setInp n { x with phFault := true }).overLatch n 3
      let s := s.event 0x34 (0x3000 + n)
      if s.rd (0x3000 + n) 0x12 = 1 then
        let x := s.inp n
        let x := { x with phTrip := true, phUntil := s.now + s.rd (0x3000 + n) 0x11 * 1000000 }
        let s := s.setInp n (if (s.fn (.input n)).active then { x with phCyc := .held, gain := .rest none } else x)
        { s with phantom := { s.phantom with due := true } }
      else s
    else if run = 2 ∧ !b then s.setInp n { x with phFault := false }
    else s.setInp n x

/-- A phantom frame with the fault bits it reads (R182); bit n − 1 is input n. [DEDUCED, log 61] -/
def State.phFrame (s : State) (faults : Nat) : State :=
  let s := { s with phantom := { lastAt := s.now, due := false } }
  (List.range 48).foldl (fun s j => s.phChannel (j + 1) (faults.testBit j)) s

/-- Whether phantom frames run: any channel is controlled, PD_CORE0 is on, RESET_N is high, and VDDIO_C is in tolerance (R107, R181,
R185). [DEDUCED, log 61] -/
def State.phRuns (s : State) : Bool := s.phUsed && s.pdOn 3 && s.ms.resetHigh && !s.ms.low.contains .vddioC

/-- PHANTOM_FRAME (R181, R182): a frame, 200 µs after the last one at the earliest. [DEDUCED, log 61] -/
def execPhantomFrame (t faults : Nat) (s : State) : Host.Outcome State Fault Refusal :=
  let s := s.clock t
  if s.phRuns && decide (s.phantom.lastAt + 200000 ≤ s.now) then .next (s.phFrame faults) else .next s

/-- PH_ALERT (R182): three frames, 200 µs apart. -/
def execPhAlert (t : Nat) (faults : List Nat) (s : State) : Host.Outcome State Fault Refusal :=
  let s := s.clock t
  if s.phRuns then
    .next ((faults.take 3).foldl (fun s b => (s.clock (max s.now (s.phantom.lastAt + 200000))).phFrame b) s)
  else .next s

/-- PH_SETTLE_END (R183). -/
def execPhSettleEnd (t n : Nat) (s : State) : Host.Outcome State Fault Refusal :=
  let s := s.clock t
  if isInput n && (s.inp n).phCyc == .held && decide ((s.inp n).phUntil ≤ s.now) then .next (s.phBack n) else .next s

/-- Every switch bit 0, the frame that precedes the switch-off of PD_CORE0 (R185). -/
def State.phClear (s : State) : State :=
  (List.range 48).foldl (fun s j => s.setInp (j + 1) { s.inp (j + 1) with phOn := false, phRun := 0 }) s

/-! ## Readings -/

/-- The analog limit of the front end at range 0 in 0.01 dBu for mic and line (R157): the table, and between its entries the sine whose
peak is the swing 2.113 × (AVDD_HV − 3.18 V); 0 dBu is the square root of 0.6 V. Below 9.0 V the rule specifies no figure. [DESIGN CHOICE, log 13] -/
def analogLimit (v : Rat) : Int :=
  if 57 / 5 ≤ v then 2400
  else if v = 54 / 5 then 2330 else if v = 51 / 5 then 2260 else if v = 48 / 5 then 2190 else if v = 9 then 2100
  else if v < 9 then Config.analogLimit v
  else
    let p : Rat := 2113 / 1000 * (v - 318 / 100)
    let q : Rat := 5 * p * p / 6
    min 2400 (roundOpen (tenLog q.num.natAbs q.den))

/-- CLIP_DBU of input `n` (R157). -/
def State.clipDbu (s : State) (n : Nat) : Nat :=
  match s.avddHv with
  | none => Config.unmeasured (key (0x3000 + n) 0x0E) % 2 ^ 16
  | some v =>
    let sel := s.rd (0x3000 + n) 3
    let g := s.inGain n
    let full := selFull sel
    let dig : Int := full - g
    let ana : Int := analogLimit v - 2400 + full - (rangeOf g : Nat)
    unsigned 2 (min dig ana)

/-- DELAY_NS of input `n` (R163), rounded to the nearest ns. -/
def State.inDelay (s : State) (n : Nat) : Nat :=
  let fs := s.rate (s.inDom n)
  (filterDelay (s.rd (0x3000 + n) 7) * 1000000000 * 2 + fs) / (2 * fs) + 2500

/-- The total gain of a channel apart from a ramp to or from silence (R155, R165). -/
def InputCh.total (x : InputCh) : Rat :=
  let q := if x.gain.g0.isSome && x.gain.g1.isSome then x.gain.cur.getD x.base else x.base
  if q < (x.range : Rat) then x.base else q

/-- FINE of input `n` (R155): the total gain as applied now less the range; that of the settings where the channel does not run. While
a ramp runs it is rounded to the nearest 0.01 dB, halves up: the rule states no rounding. [DESIGN CHOICE, log 92] -/
def State.inFine (s : State) (n : Nat) : Nat :=
  let x := s.inp n
  if (s.fn (.input n)).active then (min 600 (max 0 (roundRat (x.total - (x.range : Rat))))).toNat
  else s.inGain n - rangeOf (s.inGain n)

/-- Whether the sample that input `n` presented last carried V=0 (R180). -/
def State.inInvalid (s : State) (n : Nat) : Bool :=
  if (s.fn (.input n)).active || !(s.dom (s.inDom n)).running then !(s.inp n).last.v else s.phase (.input n) != .quiesced

/-- STATUS of input `n` (R180). -/
def State.inStatus (s : State) (n : Nat) : Nat :=
  let x := s.inp n
  let f := s.fn (.input n)
  bit x.phTrip 9 + bit (decide (selCap (s.rd (0x3000 + n) 3) < s.rd (0x3000 + n) 4)) 8 + bit x.phOn 7 + bit (x.phCyc != .idle) 6 +
    bit x.phFault 5 + bit (s.refGroup ((n - 1) / 8)).fault 4 + bit (s.inInvalid n) 3 +
    bit (f.active && (x.gain.live || f.fading)) 2 + bit x.lg 1 +
    bit (match x.overAt with
       | some a => decide (s.now < a + 10000000)
       | none => false) 0

/-- The computed subs of an input index. [DESIGN CHOICE, log 7] -/
def State.readInput (s : State) (n sub : Nat) : Nat :=
  match sub with
  | 9 => s.inStatus n
  | 0x0C => (if (s.fn (.input n)).active then (s.inp n).range else rangeOf (s.inGain n)) / 100
  | 0x0D => s.inFine n
  | 0x0E => s.clipDbu n
  | 0x0F => s.inDelay n
  | _ => s.rd (0x3000 + n) sub

end Sys2Proof.Machine
end

