-- ==== Sys2Proof/Machine/Mux.lean ====
section
/-!
DEFINITION. The clock sources and the glitch-free multiplexers (04_clocks.md, R109, R111, R115 to R121): which sources have edges, and
what asks a multiplexer to switch.
-/

set_option autoImplicit false

namespace Sys2Proof.Machine

/-! ## Sources -/

/-- The modes in which XO is enabled (R109). -/
def Mode.xoOn (m : Mode) : Bool :=
  match m with
  | .ash => false | .slate => false | .indigo => false
  | _ => true

/-- Whether synthesizer `x` gives its clock. -/
def State.synRuns (s : State) (x : Syn) : Bool := s.phase (.syn x) == .running

/-- SYN_LOCKED (R90, R137). -/
def State.synLocked (s : State) : Bool := s.synRuns .a && s.synRuns .b && s.synRuns .s

/-- Whether RCO runs (R111). -/
def State.rcoRuns (s : State) : Bool := s.ms.mode != .slate && s.ms.mode != .indigo

/-! ## Multiplexers -/

/-- The index that a multiplexer's events carry (R514). -/
def muxIndex (m : Mux) : Nat :=
  match m with
  | .control => 0x2110 | .ptp => 0x211A | .hk => 0x211B | .listen => 0x211C | .pwm => 0x2117 | .chaRx => 0x2118
  | .chbRx => 0x2119 | .sap p _ => 0x3301 + p

/-- Whether an input of a multiplexer has edges, as its missing-edge detector says (R118, R119): XO, RCO, LPO, a synthesizer, the local
reference, a recovered clock while its receiver holds lock, the listening oscillator, or the pin of a serial port. -/
def State.hasEdges (s : State) (m : Mux) (src : Nat) : Bool :=
  match m with
  | .sap p dir => if src = 0 then s.synRuns (s.domSyn (s.sapDomain p dir)) else !(s.sapDir p dir).clockLost
  | _ => match src with
    | 1 => s.clk.stable
    | 2 => s.rcoRuns
    | 4 => s.synRuns .a
    | 5 => s.synRuns .b
    | 6 => s.synRuns .s
    | 8 => (s.port (if m = .chbRx then .chb else .cha)).up
    | 9 => s.pdOn 1
    | _ => true

/-- Whether the input that a multiplexer passes may be without edges (R116, R119): a serial port's pin, which the outside drives, or an
input whose detector fires; a recovered clock free-runs. -/
def State.mayStop (s : State) (m : Mux) : Bool :=
  let a := s.muxActive m
  (match m with
    | .sap _ _ => a == 1
    | _ => false) || (a != 8 && !s.hasEdges m a)

/-- Whether the input that a multiplexer passes may have edges. -/
def State.mayRun (s : State) (m : Mux) : Bool :=
  let a := s.muxActive m
  (match m with
    | .sap _ _ => a == 1
    | _ => false) || a == 8 || s.hasEdges m a

/-- A multiplexer is asked for source `src`: it starts the switch, or reports that the new input has no edges (R118). -/
def State.askMux (s : State) (m : Mux) (src : Nat) : State :=
  let x := s.mux (muxKey m)
  if x.st = 2 ∨ s.muxActive m = src ∨ s.hasEdges m src then s.switchMux m src
  else if x.st = 4 ∧ x.want = src then s
  else (s.setMux (muxKey m) { x with want := src, st := 4 }).event 0x24 (muxIndex m)

/-- A multiplexer is force-switched by hardware to source `src` (R121); the event FORCE_SWITCH, which R120 gives to the written
force-switch, does not count it. [DESIGN CHOICE, log 91] -/
def State.forceMux (s : State) (m : Mux) (src : Nat) : State :=
  if s.muxActive m = src ∧ (s.mux (muxKey m)).st = 0 then s
  else s.setMux (muxKey m) { active := src, want := src, st := 3 }

/-- The multiplexer of a chain port's receiver (R116). -/
def rxMux (port : ChPort) : Mux :=
  match port with
  | .cha => .chaRx
  | .chb => .chbRx

/-- The multiplexers of device scope (R116). -/
def deviceScope : List Mux := [.control, .ptp, .pwm]

/-- Whether a multiplexer of device scope reads SOURCE_LOST (R128). [DEDUCED, log 54] -/
def State.deviceHang (s : State) : Bool := deviceScope.any fun m => (s.mux (muxKey m)).st == 2

/-- The multiplexers that follow the mode and the clocks: HK, and LISTEN while PD_LISTEN is on (R116). -/
def State.autoMux (s : State) : State :=
  let s := s.askMux .hk (if s.rcoRuns then 2 else 3)
  if s.pdOn 1 then s.askMux .listen (if s.pdOn 2 && s.synRuns .a then 4 else 9)
  else s.setMux (muxKey .listen) { active := 0, want := 0, st := 0 }

end Sys2Proof.Machine
end

