-- ==== Sys2Proof/Machine/Router.lean ====
section
/-!
DEFINITION. Sample words and tags, routes, the ASRC pool and the bridges, the generators and the running of the rate
domains (07_samples_router.md, R187 to R221).
-/

set_option autoImplicit false

namespace Sys2Proof.Machine

/-! ## Tags and packing -/

/-- The tags of an output computed from the samples `l` (R190); the word is left 0. -/
def tagsOf (l : List Sample) : Sample :=
  { w := 0, v := l.all (·.v), o := l.any (·.o), s := l.any (·.s), n := l.any (·.n), q := l.all (·.q) }

/-- A value divided by 2^k, rounded to nearest with ties away from zero (R194, R340). -/
def roundAway (k : Nat) (x : Int) : Int :=
  if 0 ≤ x then (x + 2 ^ (k - 1)) / 2 ^ k else -((-x + 2 ^ (k - 1)) / 2 ^ k)

/-- The code of `n` bits of a word, clamped to ±(2^(n−1) − 1), and whether it was clamped (R194, R340). -/
def packCode (n : Nat) (w : Word) : Int × Bool :=
  let x := roundAway (28 - n) w.toInt
  let top : Int := 2 ^ (n - 1) - 1
  if top < x then (top, true) else if x < -top then (-top, true) else (x, false)

/-- The tag byte of R195. -/
def tagByte (x : Sample) : Nat :=
  (if x.v then 0x80 else 0) + (if x.o then 0x40 else 0) + (if x.s then 0x20 else 0) + (if x.n then 0x10 else 0) +
    (if x.q then 0x08 else 0)

/-- A sample in a packing of R193 as a number of 24 or 32 bits, and whether it was clamped (R194). -/
def pack (packing : Nat) (x : Sample) : Nat × Bool :=
  if packing = 2 then (x.w.toNat, false)
  else
    let c := packCode 24 x.w
    let u := (c.1 % 2 ^ 24).toNat
    if packing = 1 then (u * 256 + tagByte { x with o := x.o || c.2 }, c.2) else (u, c.2)

/-- The word of a 24-bit code (R196), and whether the code is 800000h. -/
def unpackCode (n : Nat) (u : Nat) : Word × Bool :=
  let u := u % 2 ^ n
  let x : Int := if u < 2 ^ (n - 1) then (u : Int) else (u : Int) - 2 ^ n
  (BitVec.ofInt 32 (x * 2 ^ (28 - n)), u == 2 ^ (n - 1))

/-- A sample unpacked from a packing of R193 (R196). -/
def unpack (packing : Nat) (u : Nat) : Sample :=
  if packing = 2 then { w := BitVec.ofNat 32 u, v := true, o := false, s := false, n := false, q := false }
  else if packing = 1 then
    let r := unpackCode 24 (u / 256)
    { w := r.1, v := u.testBit 7, o := u.testBit 6 || r.2, s := u.testBit 5, n := u.testBit 4, q := u.testBit 3 }
  else
    let r := unpackCode 24 u
    { w := r.1, v := true, o := r.2, s := false, n := false, q := false }

/-! ## Source points -/

/-- The function that feeds a source point; none for a generator. -/
def srcFunc (p : Nat) : Option Func :=
  if p ≤ 0x2F then some (.input (p + 1))
  else if p ≤ 0x31 then some .listen
  else if p ≤ 0x2FF then some (.sapRx ((p - 0x100) / 32))
  else if p ≤ 0x4FF then some (.flowRx ((p - 0x300) / 16))
  else if p ≤ 0x5FF then some (.play (p - 0x500))
  else if p ≤ 0x6FF then some (.lane ((p - 0x600) / 2))
  else if p ≤ 0x7FF then some (.bus (p - 0x700))
  else if p ≤ 0x80F then none
  else some (.reader (p - 0x810))

/-- What a function that computes nothing presents (R189); a lane or bus whose first result is still to come is quiet. -/
def State.idle (s : State) (f : Func) : Sample :=
  let x := s.fn f
  match x.phase, f with
  | .quiesced, .input n => { Sample.quiet with s := x.forced, n := decide (0 < (s.inp n).neigh) }
  | .starting, .input n => (s.inp n).last
  | _, .input n => { Sample.off with n := decide (0 < (s.inp n).neigh) }
  | .quiesced, _ => { Sample.quiet with s := x.forced }
  | .starting, .lane _ => .quiet
  | .starting, .bus _ => .quiet
  | _, _ => .off

/-- The sample that source point `p` presents now (R21, R22, R189). -/
def State.present (s : State) (p : Nat) : Sample :=
  match srcFunc p with
  | some f => if (s.fn f).active then s.srcSample p else s.idle f
  | none => if (s.dom (s.srcDom p)).running then s.srcSample p else .off

/-- The domain whose ticks source point `p` is timed by now (R213): a function that still stops belongs to the domain it started in. -/
def State.srcDomNow (s : State) (p : Nat) : Nat :=
  match srcFunc p with
  | some f => if s.busyFn f then (s.fn f).dom else s.srcDom p
  | none => s.srcDom p

/-! ## The meters' numbers and restarts -/

/-- The number of the meter of source point `p`. -/
def srcMeter (p : Nat) : Nat := key (0x3910 + p / 128) (p % 128 + 1)
/-- The number of the meter of sink point `p`. -/
def sinkMeter (p : Nat) : Nat := key 0x3930 (p + 1)
/-- The number of the meter of tap `t` of lane `n`. -/
def tapMeter (n t : Nat) : Nat := key (0x3940 + n / 32) (4 * (n % 32) + t + 1)

/-- The rate domain of a meter's point. -/
def State.meterDom (s : State) (m : Nat) : Nat :=
  if m / 256 ≤ 0x3920 then s.srcDom ((m / 256 - 0x3910) * 128 + m % 256 - 1)
  else if m / 256 = 0x3930 then s.sinkDom (m % 256 - 1)
  else s.clusterDom (((m / 256 - 0x3940) * 32 + (m % 256 - 1) / 4) / 16)

/-- The meters of domain `d` restart (R281). -/
def State.restartMeters (s : State) (d : Nat) : State :=
  { s with meters := s.meters.filter fun x => s.meterDom x.1 != d }

/-- The tap meters of lane `n` restart (R281). -/
def State.restartTaps (s : State) (n : Nat) : State :=
  (List.range 4).foldl (fun s t => s.setMeter (tapMeter n t) .fresh) s

/-- Whether one function feeds both source points (R281): each generator is one of its own, and no source is none. -/
def sameFeeder (p q : Nat) : Bool :=
  p == q || (p != 0xFFF && q != 0xFFF && (srcFunc p).isSome && srcFunc p == srcFunc q)

/-- The meter of a converter's sink point `p` restarts where its route has changed to a source point of another function, or has
been removed (R281); `b` is the state before. -/
def State.rerouteMeter (b s : State) (p : Nat) : State :=
  if p ≤ 0x4F ∧ !sameFeeder (b.routeSource p) (s.routeSource p) then s.setMeter (sinkMeter p) .fresh else s

/-! ## Claims on the ASRC pool and the bridges -/

/-- A claim of one pool channel: the point converted, whether it is a sink, and the domains of its two sides (3 for the
foreign clock). -/
structure Claim where
  point : Nat
  sink : Bool
  inDom : Nat
  outDom : Nat
deriving DecidableEq, Repr

/-- Whether a claim is one of a bridge. -/
def Claim.bridge (c : Claim) : Bool := decide (c.inDom < 3) && decide (c.outDom < 3)

/-- The claims of a path from source `q` to sink point `p` (`none` for a bus) in domain `d` (R200, R214, R218, R264). -/
def State.pathClaims (s : State) (q : Nat) (p : Option Nat) (d : Nat) : List Claim :=
  let fs := match p with
    | some p => s.foreignSink p
    | none => false
  let src : List Claim :=
    if s.foreignSrc q then [{ point := q, sink := false, inDom := 3, outDom := d }]
    else if s.srcDom q = d || fs then [] else [{ point := q, sink := false, inDom := s.srcDom q, outDom := d }]
  match p with
  | some p => if fs then { point := p, sink := true, inDom := if s.foreignSrc q then d else s.srcDom q, outDom := 3 } :: src
              else src
  | none => src

/-- The routes that the settings hold: sink and source. -/
def State.routed (s : State) : List (Nat × Nat) :=
  s.objs.filterMap fun x =>
    let i := x.1 / 256
    let sub := x.1 % 256
    if 0x3410 ≤ i ∧ i ≤ 0x341F ∧ 1 ≤ sub ∧ x.2 % 0x1000 ≠ 0xFFF then some ((i - 0x3410) * 128 + sub - 1, x.2 % 0x1000)
    else none

/-- The active contributions that the settings hold: bus and source (R263). -/
def State.contributed (s : State) : List (Nat × Nat) :=
  s.objs.filterMap fun x =>
    let i := x.1 / 256
    let sub := x.1 % 256
    if 0x3500 ≤ i ∧ i ≤ 0x35FF ∧ 0x10 ≤ sub ∧ x.2 % 0x1000 ≠ 0xFFF then some (i - 0x3500, x.2 % 0x1000) else none

/-- The claims of the settings: every route, and every active contribution of an enabled bus. -/
def State.claims (s : State) : List Claim :=
  ((s.routed.flatMap fun x => s.pathClaims x.2 (some x.1) (s.sinkDom x.1)) ++
    (s.contributed.flatMap fun x =>
      if s.wants (.bus x.1) then s.pathClaims x.2 none (s.rd (0x3500 + x.1) 3) else [])).dedup

/-- Whether an enabled function waits for a resource that another gives up (R32, R40). -/
def State.waitsToStart (s : State) (f : Func) : Bool :=
  (s.fn f).startPending && (s.phase f == .off || s.phase f == .quiesced)

/-- The claims of the settings that are due: those of functions that wait for a resource are not (R32). -/
def State.dueClaims (s : State) : List Claim :=
  ((s.routed.flatMap fun x =>
      if s.waitsToStart (.route x.1) then [] else s.pathClaims x.2 (some x.1) (s.sinkDom x.1)) ++
    (s.contributed.flatMap fun x =>
      if s.wants (.bus x.1) && !s.waitsToStart (.bus x.1) then s.pathClaims x.2 none (s.rd (0x3500 + x.1) 3) else [])).dedup

/-- The claims of what still runs: the sources in use, crossfades and ramps-out included (R218, R267). -/
def State.liveClaims (s : State) : List Claim :=
  (s.router.routes.flatMap fun x =>
    let f := s.fn (.route x.1)
    if f.active then
      (if x.2.src = 0xFFF then [] else s.pathClaims x.2.src (some x.1) f.dom) ++
        (match x.2.xf with
         | some y => s.pathClaims y.old (some x.1) f.dom
         | none => [])
    else []) ++
  (s.buses.flatMap fun x =>
    let f := s.fn (.bus x.1)
    if f.active then
      x.2.contribs.flatMap fun c =>
        (if c.2.src = 0xFFF then [] else s.pathClaims c.2.src none f.dom) ++
          (match c.2.old with
           | some q => s.pathClaims q none f.dom
           | none => [])
    else [])

/-- The claim that a granted channel serves. -/
def AsrcCh.claim (c : AsrcCh) : Claim := { point := c.point, sink := c.sink, inDom := c.inDom, outDom := c.outDom }

/-- The channels granted, with their numbers. -/
def State.granted (s : State) : List (Nat × AsrcCh) :=
  s.router.asrc.filterMap fun x => x.2.map fun c => (x.1, c)

/-- The channel that serves a claim. -/
def State.channelOf (s : State) (c : Claim) : Option (Nat × AsrcCh) := s.granted.find? fun x => x.2.claim == c

/-- The sub of 3800h that sizes the bridge from domain `a` to `b`; its USED_ sub is 6 higher (R212). -/
def bridgeSub (a b : Nat) : Nat :=
  match a, b with
  | 0, 1 => 0x0B | 1, 0 => 0x0C | 0, 2 => 0x0D | 2, 0 => 0x0E | 1, 2 => 0x0F | _, _ => 0x10

/-- The six directions. -/
def directions : List (Nat × Nat) := [(0, 1), (1, 0), (0, 2), (2, 0), (1, 2), (2, 1)]

/-- The channels that the settings reserve for bridges (R219). -/
def State.bridgeReserved (s : State) : Nat := (directions.map fun x => s.rd 0x3800 (bridgeSub x.1 x.2)).sum

/-- The bridge channels of one direction in use. -/
def bridgeCount (l : List Claim) (a b : Nat) : Nat := (l.filter fun c => c.bridge && c.inDom == a && c.outDom == b).length

/-- FOREIGN_USED (R219). -/
def State.foreignUsed (s : State) : Nat := (s.granted.filter fun x => !x.2.claim.bridge).length

/-- POOL_USED (R219). -/
def State.poolUsed (s : State) : Nat := s.bridgeReserved + s.foreignUsed

/-- The claims of the paths that `s` changes to another source in becoming `s'`: each crossfades, so that it still holds its old
source's channel (R203, R267). A change with CUT holds nothing (R204). -/
def State.crossClaims (s s' : State) : List Claim :=
  (s.routed.flatMap fun x =>
    let q := s'.routeSource x.1
    if q = x.2 ∨ q = 0xFFF ∨ (s'.routeWord x.1).testBit 31 then [] else s.pathClaims x.2 (some x.1) (s.sinkDom x.1)) ++
  (s.objs.flatMap fun x =>
    let i := x.1 / 256
    let b := i - 0x3500
    let q := s'.rd i (x.1 % 256) % 0x1000
    if 0x3500 ≤ i ∧ i ≤ 0x35FF ∧ 0x10 ≤ x.1 % 256 ∧ x.2 % 0x1000 ≠ 0xFFF ∧ q ≠ x.2 % 0x1000 ∧ q ≠ 0xFFF ∧ s.wants (.bus b) ∧
        s'.wants (.bus b) then s.pathClaims (x.2 % 0x1000) none (s.rd i 3)
    else [])

/-- The claims that stay while `s` changes into `s'`: those of `s'`, those of the sources that it crosses over from, and those an
earlier commit has removed but whose ramp still runs (R32, R264). -/
def State.claimsAfter (s s' : State) : List Claim :=
  let old := s.claims
  (s'.claims ++ s.crossClaims s' ++ (s.granted.map fun x => x.2.claim).filter fun c => !old.contains c).dedup

/-- Whether a claimed amount can be met: it lies within the capacity, or the commit does not raise it, since an earlier grant is never
taken back (R31, R34). -/
def claimFits (after before cap : Nat) : Bool := decide (after ≤ cap) || decide (after ≤ before)

/-- The pool channels that claims `l` and the bridges of `s` take (R219). -/
def State.poolNeed (s : State) (l : List Claim) : Nat := s.bridgeReserved + (l.filter fun c => !c.bridge).length

/-- Whether a size of a bridge is set below the channels of it that are in use (R218). -/
def State.bridgeCut (s s' : State) : Bool :=
  directions.any fun x =>
    let v := s'.rd 0x3800 (bridgeSub x.1 x.2)
    decide (v < s.rd 0x3800 (bridgeSub x.1 x.2)) && decide (v < bridgeCount (s.granted.map fun c => c.2.claim) x.1 x.2)

/-- Whether the pool and the bridges meet the claims of `s'`, proposed over `s` (R31, R200, R218). -/
def State.poolFits (s s' : State) : Bool :=
  let l := s.claimsAfter s'
  let b := s.claimsAfter s
  claimFits (s'.poolNeed l) (s.poolNeed b) 256 && !s.bridgeCut s' &&
    directions.all (fun x =>
      let v := s'.rd 0x3800 (bridgeSub x.1 x.2)
      claimFits (bridgeCount l x.1 x.2) (if s.rd 0x3800 (bridgeSub x.1 x.2) ≤ v then bridgeCount b x.1 x.2 else 0) v) &&
    l.all (fun c => b.contains c ||
      ((decide (c.inDom < s'.domCount) || c.inDom == 3) && (decide (c.outDom < s'.domCount) || c.outDom == 3)))

/-- Whether every routed sink and source lies in a domain the layout has (R200). [DEDUCED, log 38] -/
def State.domainsExist (s : State) : Bool :=
  s.routed.all fun x => decide (s.sinkDom x.1 < s.domCount) && (s.foreignSrc x.2 || decide (s.srcDom x.2 < s.domCount))

/-- Whether new claims do not fit beside those of what still runs (R32, R200, R218). -/
def State.channelsShort (s : State) (need : List Claim) : Bool :=
  let live := s.liveClaims
  let l := (need ++ live).dedup
  need.any (fun c => !live.contains c) &&
    (decide (256 < s.bridgeReserved + (l.filter fun c => !c.bridge).length) ||
      directions.any fun x => decide (s.rd 0x3800 (bridgeSub x.1 x.2) < bridgeCount l x.1 x.2))

/-- A channel granted to a claim: a free number of the pool, which one is open (R214, R216). -/
def State.grant (s : State) (c : Claim) : State :=
  if (s.channelOf c).isSome then s
  else
    let used := s.granted.map (·.1)
    let free := (List.range 256).filter fun n => !used.contains n
    let r := s.draw 16
    match free[r.1 % free.length]? with
    | some n => r.2.setAsrc n (some { point := c.point, sink := c.sink, inDom := c.inDom, outDom := c.outDom,
                                      phase := .acquiring, pos := 0, buf := [], at_ := s.now, per := 0, outp := .off })
    | none => s

/-- The grants of the settings in force, made in commit order (R214, R218), with MAX_USED of R219. -/
def State.grantAll (s : State) : State :=
  let s := s.dueClaims.foldl State.grant s
  if s.rd 0x3401 6 < s.poolUsed then s.wr 0x3401 6 s.poolUsed else s

/-- Channels that no setting claims and nothing running uses are released (R217, R218). -/
def State.sweep (s : State) : State :=
  let keep := s.claims ++ s.liveClaims
  s.granted.foldl (fun s x => if keep.contains x.2.claim then s else s.setAsrc x.1 none) s

/-! ## What an ASRC channel does -/

/-- A sample enters a channel at an instant; a channel that had lost its input acquires again (R216, R217). -/
def AsrcCh.push (c : AsrcCh) (now : Nat) (x : Sample) : AsrcCh :=
  if c.phase = .lost then { c with buf := [(now, x)], phase := .acquiring, pos := 0, at_ := now, per := 0 }
  else { c with buf := ((now, x) :: c.buf).take 320 }

/-- Half the span of a channel's filter in ns, which is its group delay (R215): 32 samples at the input rate plus 16 at the output rate. -/
def asrcDelay (tin tout : Nat) : Nat := 32 * tin + 16 * tout

/-- The two input samples nearest an instant (R215): the last one up to it and the first one after it. -/
def AsrcCh.nearest (c : AsrcCh) (centre : Nat) : Option (Sample × Sample) :=
  let after := c.buf.takeWhile fun e => decide (centre < e.1)
  match c.buf.drop after.length, after.getLast? with
  | a :: _, some b => some (a.2, b.2)
  | a :: _, none => some (a.2, a.2)
  | [], _ => none

/-- The sample that a channel with the input period `tin` makes at the instant `now` of an output with the period `tout` (R215), with
the draw `n` for its value: of silence it makes silence, and nothing before it has an input sample at its centre. -/
def AsrcCh.convert (c : AsrcCh) (n now tin tout : Nat) : Sample :=
  let d := asrcDelay tin tout
  match c.nearest (now - d) with
  | none => .off
  | some (a, b) =>
    let l := (c.buf.takeWhile fun e => decide (now - 2 * d ≤ e.1)).map fun e => e.2.w
    { tagsOf [a, b] with w := if l.all (· == 0) then 0 else Config.resample n l }

/-- The mean input period in ns over what a channel holds of the last `k` samples (R216). -/
def AsrcCh.period (c : AsrcCh) (k : Nat) : Nat :=
  let l := c.buf.take (k + 1)
  match l.head?, l.getLast? with
  | some a, some b => (a.1 - b.1) / (l.length - 1)
  | _, _ => 0

/-- A channel has measured its input rate and ramps in (R216). -/
def AsrcCh.acquire (c : AsrcCh) : AsrcCh := { c with phase := .rampIn, pos := 0, per := c.period 320 }

/-- The next output sample of a channel whose output runs at `fs` (R215 to R217), `x` being what it converts. -/
def AsrcCh.next (c : AsrcCh) (x : Sample) (fs : Nat) : AsrcCh :=
  match c.phase with
  | .acquiring => { c with outp := .off }
  | .lost => { c with outp := .off }
  | .pass => { c with outp := x }
  | .rampIn =>
    let r : Ramp := { g0 := none, g1 := some 0, i := c.pos, len := rampLen 10 fs }
    { c with outp := { x.times r.gain with q := true }, pos := c.pos + 1,
             phase := if r.len ≤ c.pos + 1 then .pass else .rampIn }
  | .falling =>
    { c with outp := { x with w := BitVec.ofInt 32 (fade c.pos 64 x.w.toInt 0), s := true }, pos := c.pos + 1,
             phase := if 64 ≤ c.pos + 1 then .lost else .falling }

/-- Whether a channel joins two domains that take their ticks from one synthesizer (R216). -/
def State.rationalBridge (s : State) (c : AsrcCh) : Bool :=
  c.claim.bridge && (s.domSyn c.inDom == s.domSyn c.outDom) && (s.dom c.inDom).running && (s.dom c.outDom).running

/-- The nominal input period of a channel in ns: its domain's, 16 kHz for the listening points, and for another foreign-clocked
point that of the domain it is assigned to. -/
def State.asrcNominal (s : State) (c : AsrcCh) : Nat :=
  if c.inDom < 3 then 1000000000 / s.rate c.inDom
  else if c.point = 0x30 ∨ c.point = 0x31 ∨ 0x810 ≤ c.point then 62500
  else 1000000000 / s.rate (s.srcDom c.point)

/-- A channel as the time has moved it on (R216): a bridge between domains of one synthesizer measures for 1 ms, and no channel whose
input is there measures for more than 50 ms. -/
def State.asrcDue (s : State) (c : AsrcCh) : AsrcCh :=
  if c.phase = .acquiring ∧ !c.buf.isEmpty ∧ c.at_ + (if s.rationalBridge c then 1000000 else 50000000) ≤ s.now then c.acquire else c

/-- A channel gives its next output sample, for an output at rate `fs` (R215, R216). -/
def State.asrcOut (s : State) (c : AsrcCh) (fs : Nat) : AsrcCh × State :=
  let c := s.asrcDue c
  let r := s.draw 32
  (c.next (c.convert r.1 s.now (if c.per = 0 then s.asrcNominal c else c.per) (1000000000 / fs)) fs, r.2)

/-- A sample arrives at a foreign-clocked source point: it enters every channel of the point (R214). -/
def State.foreignIn (s : State) (p : Nat) (x : Sample) : State :=
  s.granted.foldl (fun s c => if c.2.point = p ∧ !c.2.sink then s.setAsrc c.1 (some (c.2.push s.now x)) else s) s

/-- The channels at a tick of domain `d`: those fed by the domain take what their point presents, and those that feed it
give an output sample. -/
def State.tickAsrc (s : State) (d : Nat) : State :=
  s.granted.foldl (fun s c =>
    let x := c.2
    let x := if x.inDom = d ∧ !x.sink ∧ s.srcDomNow x.point = d then x.push s.now (s.present x.point) else x
    if x.outDom = d then
      let r := s.asrcOut x (s.rate d)
      r.2.setAsrc c.1 (some r.1)
    else s.setAsrc c.1 (some x)) s

/-- The sample of source `q` as domain `d` sees it at its tick: through a pool channel where one is in the path. -/
def State.inDomain (s : State) (q d : Nat) : Sample :=
  if s.foreignSrc q then
    match s.channelOf { point := q, sink := false, inDom := 3, outDom := d } with
    | some c => c.2.outp
    | none => .off
  else if s.srcDomNow q = d then s.present q
  else match s.channelOf { point := q, sink := false, inDom := s.srcDom q, outDom := d } with
    | some c => c.2.outp
    | none => .off

/-- A sample delivered to a foreign-clocked sink point enters its channel (R214). -/
def State.sinkIn (s : State) (p : Nat) (x : Sample) : State :=
  s.granted.foldl (fun s c => if c.2.point = p ∧ c.2.sink then s.setAsrc c.1 (some (c.2.push s.now x)) else s) s

/-- The sample that a foreign-clocked sink point takes from its channel at its own rate `fs` (R214). -/
def State.takeSink (s : State) (p fs : Nat) : Sample × State :=
  match s.granted.find? fun c => c.2.point == p && c.2.sink with
  | some c =>
    let r := s.asrcOut c.2 fs
    (r.1.outp, r.2.setAsrc c.1 (some r.1))
  | none => (if (s.fn (.route p)).active then .off else .quiet, s)

/-! ## Routes -/

/-- The domain in which the route of sink `p` runs: that of the sink, or that of the source of a foreign-clocked sink. -/
def State.routeDom (s : State) (p : Nat) : Nat :=
  if s.foreignSink p && !s.foreignSrc (s.routeSource p) then s.srcDom (s.routeSource p) else s.sinkDom p

/-- What the route of sink `p` takes from source `q` at a tick of domain `d`. -/
def State.routeTakes (s : State) (p q d : Nat) : Sample :=
  if s.foreignSink p && !s.foreignSrc q then s.present q else s.inDomain q d

/-- The length of a route's crossfade or ramp in samples, at the rate of the sink's domain (R203, R207). -/
def State.xfadeLen (s : State) (p : Nat) : Nat := rampLen (s.frampMs (.route p)) (s.rate (s.sinkDom p))

/-- A route that is cut in or out in one sample counts in CUTS (R204). Samples replaced before it still count for `HOLD_MAX` (R206). -/
def State.cutRoute (s : State) (p : Nat) (src : Nat) : State :=
  let s := (s.setRoute p { RouteState.none with src := src, hold := (s.route p).hold }).bump 0x3400 5
  let f := s.fn (.route p)
  if src = 0xFFF then s.setFn (.route p) (f.quiesce (s.dom f.dom).frame)
  else s.setFn (.route p) { f.begin (s.routeDom p) 0 0 with phase := .running, forced := false, fade := .rest (some 0) }

/-- A route started (R204, R207): STARTING with a ramp-in, or RUNNING at once for a change with CUT. -/
def State.startRoute (s : State) (p : Nat) : State :=
  if (s.route p).cut then s.cutRoute p (s.routeSource p)
  else
    let len := s.xfadeLen p
    let s := s.setRoute p { RouteState.none with src := s.routeSource p, len := len, hold := (s.route p).hold }
    s.setFn (.route p) ((s.fn (.route p)).begin (s.routeDom p) 0 len)

/-- What a commit that has written the route word of sink `p` does to a route that is running (R203 to R207); a start or
an ordinary stop is the function's own. -/
def State.applyRoute (s : State) (p : Nat) : State :=
  let x := s.route p
  let new := s.routeSource p
  let cut := (s.routeWord p).testBit 31
  let f := s.fn (.route p)
  let whole := f.phase == .running || f.phase == .starting
  if x.src = new then s
  else if cut && f.active && (whole || new == 0xFFF) then s.cutRoute p new
  else if cut && new != 0xFFF && (f.phase == .off || f.phase == .quiesced) then s.setRoute p { x with cut := true }
  else if whole && x.src != 0xFFF && new != 0xFFF then
    (s.setRoute p { x with src := new, xf := some { old := x.src, pos := 0, len := s.xfadeLen p }, last := none }).bump 0x3400 4
  else if !f.active then s.setRoute p { x with cut := false }
  else s

/-- The crossfade of two samples (R203): the sample `i` of `l` from `a` to `b`. The rule clamps nothing; a value that the word of R187
cannot hold becomes the nearest one that it can. [DESIGN CHOICE, log 12] -/
def mixSamples (i l : Nat) (a b : Sample) : Sample :=
  let va : Int := if a.v then a.w.toInt else 0
  let vb : Int := if b.v then b.w.toInt else 0
  { w := (sat32 (fade i l va vb)).1, v := a.v || b.v, o := a.o || b.o, s := true, n := a.n || b.n, q := a.q && b.q }

/-- The start or stop ramp of a route on a sample (R207). A stop that follows an abandoned start falls from the level
reached (R41). -/
def RouteState.fadeSample (x : RouteState) (f : FuncState) (a : Sample) : Sample :=
  match f.phase with
  | .starting => { a with w := (sat32 (fade f.fade.i f.fade.len 0 a.w.toInt)).1, q := true }
  | .ramping =>
    let v := if x.pos < x.len ∧ 0 < x.pos then fade (x.pos - 1) x.len 0 a.w.toInt else a.w.toInt
    { a with w := (sat32 (fade f.fade.i f.fade.len v 0)).1, q := true }
  | _ => a

/-- The concealment of a sample that reaches the sink (R206): the sample taken, the route, and whether it was
replaced. Where no valid sample has reached the sink since its route changed, O, N and Q are 0. [DESIGN CHOICE, log 93] -/
def RouteState.conceal (x : RouteState) (on : Bool) (holdMax : Nat) (a : Sample) : Sample × RouteState × Bool :=
  if a.v then (a, { x with hold := 0, holding := false, last := some a }, false)
  else if on ∧ x.hold < holdMax then
    let h := x.last.getD { w := 0, v := true, o := false, s := false, n := false, q := false }
    ({ h with v := true, s := true }, { x with hold := x.hold + 1, holding := true }, true)
  else (a, { x with holding := false }, false)

/-- One tick of the route of sink `p` (R201 to R207): the sample that the router delivers to it. -/
def State.tickRoute (s : State) (p : Nat) : State :=
  let f := s.fn (.route p)
  if !f.active then s
  else
    let x := s.route p
    let new := s.routeTakes p x.src f.dom
    let a := match x.xf with
      | some y => if y.pos < y.len then mixSamples y.pos y.len (s.routeTakes p y.old f.dom) new else new
      | none => new
    let a := x.fadeSample f a
    let x := match x.xf with
      | some y => { x with xf := some { y with pos := y.pos + 1 } }
      | none => x
    let x := if f.phase = .starting then { x with pos := f.fade.i + 1, len := f.fade.len } else x
    let r := x.conceal ((s.routeWord p).testBit 30) (s.rd 0x3400 7) a
    let s := (s.setRoute p { r.2.1 with outp := r.1 }).setSink p r.1
    let s := if r.2.2 then s.bump 0x3400 6 else s
    s.setFn (.route p) f.frame

/-- Whether a delay line gives sink point `p` its samples (R290, R293, R294): from its start to the end of the ramp-in of the
undelayed signal after its stop. -/
def State.lineFeeds (s : State) (p : Nat) : Bool :=
  s.lines.any fun x => (x.2.sink == p && s.phase (.delayLine x.1) != .off && s.phase (.delayLine x.1) != .quiesced) ||
    (x.2.left == p && x.2.after.live)

/-- What the router gives sink `p` before any delay line: the sample of its route, or else the silence of R202, with S where the route
was stopped by force (R39). -/
def State.routerOut (s : State) (p : Nat) : Sample :=
  let f := s.fn (.route p)
  if f.active then (s.route p).outp else { Sample.quiet with s := f.forced && f.phase == .quiesced }

/-- The sample that sink point `p` takes: that of its delay line, or of the router. -/
def State.delivered (s : State) (p : Nat) : Sample := if s.lineFeeds p then s.sinkSample p else s.routerOut p

/-- At a tick of domain `d` the channels of the foreign-clocked sinks take what reaches those sinks, behind any delay line (R214, R290). -/
def State.tickForeign (s : State) (d : Nat) : State :=
  ((s.granted.filter fun c => c.2.sink).map fun c => c.2.point).foldl (fun s p =>
    if (if s.lineFeeds p then s.sinkDom p else (s.fn (.route p)).dom) = d then s.sinkIn p (s.delivered p) else s) s

/-- CROSSFADE_END (R203): the sink takes the new source alone. -/
def execCrossfadeEnd (t p : Nat) (s : State) : Host.Outcome State Fault Refusal :=
  let s := s.clock t
  match (s.route p).xf with
  | some y => if y.len ≤ y.pos then .next (s.setRoute p { s.route p with xf := none }).sweep else .next s
  | none => .next s

/-! ## Generators -/

/-- A change of LEVEL ramps over 10 ms (R221). -/
def State.applyGen (s : State) (g : Nat) (subs : List Nat) : State :=
  if subs.contains 3 then
    let d := s.rd (0x3440 + g) 1
    let x := s.gen g
    let goal := gainOf (s.rd (0x3440 + g) 3)
    if x.level.g1 = goal then s
    else s.setGen g { x with level := if (s.dom d).running then x.level.to goal (rampLen 10 (s.rate d)) else .rest goal }
  else s

/-- A sine of peak level `l` (0.01 dBFS) at phase `ph` of `m` (R220). -/
def sineValue (l : Rat) (ph m : Nat) : Int :=
  roundOpen ((fsWord : Rat) * (if l = 0 then 1 else linearGain l) * circleSine ph m)

/-- The sample of generator `g` (R220). -/
def State.genSample (s : State) (g : Nat) : Sample :=
  let x := s.gen g
  let fs := s.rate (s.rd (0x3440 + g) 1)
  let v : Int := match x.level.gain with
    | none => 0
    | some l => 
      if g = 0 then 0 else if g ≤ 8 then sineValue l x.ph (100 * fs) else Config.noise g x.k l
  { w := (sat32 v).1, v := true, o := false, s := false, n := false, q := x.level.live }

/-- One tick of generator `g`. -/
def State.tickGen (s : State) (g : Nat) : State :=
  let x := s.gen g
  let fs := s.rate (s.rd (0x3440 + g) 1)
  (s.setSrc (0x800 + g) (s.genSample g)).setGen g
    { x with level := x.level.step, ph := if 1 ≤ g ∧ g ≤ 8 then (x.ph + s.rd (0x3440 + g) 2) % (100 * fs) else 0,
             k := if 9 ≤ g then x.k + 1 else 0 }

/-- The generators of domain `d` at a tick; only those that a route or a contribution takes need a value. -/
def State.tickGens (s : State) (d : Nat) : State :=
  ((List.range 16).filter fun g => s.rd (0x3440 + g) 1 == d).foldl State.tickGen s

/-! ## Running the domains -/

/-- A domain starts: its frame count will be 0 at its first tick (R24), its generators begin at phase 0, and its meters
restart (R281). [DEDUCED, log 44] -/
def State.startDom (s : State) (d : Nat) : State :=
  let s := (s.restartMeters d).setDom d { running := true, rate := s.confRate d, frame := 0, fresh := true, tickAt := s.now, meterAt := 0 }
  ((List.range 16).filter fun g => s.rd (0x3440 + g) 1 == d).foldl
    (fun s g => s.setGen g { GenState.reset with level := .rest (gainOf (s.rd (0x3440 + g) 3)) }) s

/-- Whether function `f` stops with the ticks of domain `d`: it runs in it, or it is the route of a sink of it (R208). -/
def State.runsIn (s : State) (f : Func) (d : Nat) : Bool :=
  match s.fdom f, f with
  | some _, .route p => s.sinkDom p == d || (s.busyFn f && (s.fn f).dom == d)
  | some e, _ => (if s.busyFn f then (s.fn f).dom else e) == d
  | none, _ => false

/-- A domain stops issuing ticks: every function of it reads OFF (R550), or keeps FAULT where its owner says so. -/
def State.stopDom (s : State) (d : Nat) : State :=
  let s := s.setDom d .off
  s.funcList.foldl (fun s f =>
    if s.runsIn f d && (s.phase f != .fault) then s.gateFn f else s) s

/-- One tick of a domain's frame count (R24). -/
def DomState.tick (x : DomState) (now : Nat) : DomState :=
  { x with frame := if x.fresh then 0 else (x.frame + 1) % 2 ^ 32, fresh := false, tickAt := now }

/-! ## Events of the pool -/

/-- ASRC_ACQUIRED (R216). -/
def execAsrcAcquired (t ch : Nat) (s : State) : Host.Outcome State Fault Refusal :=
  let s := s.clock t
  match s.asrc ch with
  | some c =>
    if c.phase = .acquiring ∧ !c.buf.isEmpty ∧ (!s.rationalBridge c ∨ c.at_ + 1000000 ≤ s.now) then
      .next (s.setAsrc ch (some c.acquire))
    else .next s
  | none => .next s

/-- Whether a channel has lost its input (R217): no sample for four nominal periods, or a rate more than 2 % from that at the
acquisition. -/
def State.asrcLost (s : State) (c : AsrcCh) : Bool :=
  (match c.buf with
   | [] => true
   | e :: _ => decide (e.1 + 4 * s.asrcNominal c ≤ s.now)) ||
    (decide (31 < c.buf.length) && decide (c.per < 50 * (max c.per (c.period 31) - min c.per (c.period 31))))

/-- ASRC_UNLOCK (R217). -/
def execAsrcUnlock (t ch : Nat) (s : State) : Host.Outcome State Fault Refusal :=
  let s := s.clock t
  match s.asrc ch with
  | some c =>
    if (c.phase = .pass ∨ c.phase = .rampIn) ∧ !s.rationalBridge c ∧ s.asrcLost c then
      .next (((s.setAsrc ch (some { c with phase := .falling, pos := 0 })).bump 0x3401 5).event 0x44 0x3401)
    else .next s
  | none => .next s

/-! ## Readings -/

/-- PATH of sink `p` (R209). -/
def State.readPath (s : State) (p : Nat) : Nat :=
  let x := s.route p
  let src := s.routeSource p
  let d := s.sinkDom p
  let b (c : Bool) (k : Nat) : Nat := if c then 2 ^ k else 0
  let l := if src = 0xFFF then [] else (s.pathClaims src (some p) d)
  let ch := match l.filterMap s.channelOf with
    | c :: _ => c.1
    | [] => 0x1FF
  b x.xf.isSome 31 + b x.holding 30 + b (l.any (·.bridge)) 29 + b (l.any fun c => !c.bridge) 28 + d % 4 * 2 ^ 26 +
    (if src = 0xFFF then 0 else (if s.foreignSrc src then d else s.srcDom src) % 4 * 2 ^ 24) + ch

/-- The computed subs of 3400h (R210). -/
def State.read3400 (s : State) (sub : Nat) : Nat :=
  match sub with
  | 2 => s.routed.length
  | 3 => (s.router.routes.filter fun x => x.2.xf.isSome).length
  | _ => s.rd 0x3400 sub

/-- The computed subs of 3401h (R219). -/
def State.read3401 (s : State) (sub : Nat) : Nat :=
  match sub with
  | 2 => s.poolUsed
  | 3 => s.bridgeReserved
  | 4 => s.foreignUsed
  | _ => s.rd 0x3401 sub

/-- The computed subs of 3800h (R212). -/
def State.read3800 (s : State) (sub : Nat) : Nat :=
  if sub = 0x0A then ((List.range 3).map fun d => if (s.dom d).running then 2 ^ d else 0).sum
  else if 0x11 ≤ sub ∧ sub ≤ 0x16 then
    match directions.find? fun x => bridgeSub x.1 x.2 + 6 == sub with
    | some x => bridgeCount (s.granted.map fun c => c.2.claim) x.1 x.2
    | none => 0
  else s.rd 0x3800 sub

end Sys2Proof.Machine
end

