-- ==== Sys2Proof/Machine/Operands.lean ====
section
/-!
DEFINITION. The forms in which numbers and blocks of bytes appear in transactions and frames: little-endian numbers,
slices of a block, and the CRC-32 (R48, R57).
-/

set_option autoImplicit false

namespace Sys2Proof.Machine

/-- A little-endian number (R48). -/
def leNat (l : List Byte) : Nat :=
  match l with
  | [] => 0
  | b :: r => b.toNat + 256 * leNat r

/-- The `n` little-endian bytes of a number (R48). -/
def leBytes (n v : Nat) : List Byte :=
  match n with
  | 0 => []
  | m + 1 => BitVec.ofNat 8 v :: leBytes m (v / 256)

/-- `n` bytes of a block from the offset `off`. -/
def slice (l : List Byte) (off n : Nat) : List Byte := (l.drop off).take n

/-- The 16-bit number at an offset of a block. -/
def u16At (l : List Byte) (off : Nat) : Nat := leNat (slice l off 2)

/-- The 32-bit number at an offset of a block. -/
def u32At (l : List Byte) (off : Nat) : Nat := leNat (slice l off 4)

/-- The byte at an offset of a block; 0 beyond its end. -/
def u8At (l : List Byte) (off : Nat) : Nat := (l.getD off 0).toNat

/-- One byte of the reflected CRC-32 of IEEE 802.3: the low `n` bits of `c` are worked off. -/
def crcByte (n c : Nat) : Nat :=
  match n with
  | 0 => c
  | m + 1 => crcByte m (if c % 2 = 1 then (c / 2) ^^^ 0xEDB88320 else c / 2)

/-- The CRC-32 of a block (R57, R480). -/
def crc32 (l : List Byte) : Nat := (l.foldl (fun c b => crcByte 8 (c ^^^ b.toNat)) 0xFFFFFFFF) ^^^ 0xFFFFFFFF

/-- One byte of the CRC-8 of SMBus: the highest `n` bits of what is left are worked off. -/
def crc8Bits (n c : Nat) : Nat :=
  match n with
  | 0 => c
  | m + 1 => crc8Bits m (if c.testBit 7 then (2 * c % 256) ^^^ 0x07 else 2 * c % 256)

/-- The PEC over the bytes of a transfer (R464, R470, R477). -/
def crc8 (l : List Byte) : Nat := l.foldl (fun c b => crc8Bits 8 (c ^^^ b.toNat)) 0

/-- A block with the bytes `seg` written from the offset `off`, its length kept. -/
def patchBytes (l : List Byte) (off : Nat) (seg : List Byte) : List Byte :=
  (l.take off ++ seg ++ l.drop (off + seg.length)).take l.length

/-- The block in force at index `i`. -/
def State.block (s : State) (i : Nat) : List Byte := look [] s.blocks i

/-- The state with the block of index `i` in force. -/
def State.setBlock (s : State) (i : Nat) (l : List Byte) : State := { s with blocks := put [] s.blocks i l }

end Sys2Proof.Machine
end

