-- ==== Sys2Proof/Machine/Fabric.lean ====
section
/-!
DEFINITION. The processing fabric (08_fabric.md, R222 to R259, R549): recipes and their check, what each block computes,
the frame of a lane, late frames, slack, live values, patches, and the lowest core voltage that the recipes need.
-/

set_option autoImplicit false

namespace Sys2Proof.Machine

/-! ## Recipes -/

/-- The highest rate the layout allows (R211). -/
def State.topRate (s : State) : Nat := if s.rd 0x3800 1 = 1 then 96000 else 192000

/-- Whether the size of a block is in its range at rate `fs` (R226). -/
def sizeOk (ty size fs : Nat) : Bool :=
  match ty with
  | 0x01 => size == 0
  | 0x02 => decide (1 ≤ size) && decide (size ≤ 4096)
  | 0x03 => decide (size * 100 ≤ fs)
  | 0x04 => size == 0
  | 0x05 => decide (size * 500 ≤ fs)
  | 0x06 => size == 2 || size == 4
  | 0x07 => size == 0
  | 0x08 => decide (size ≤ 3)
  | 0x09 => size == 0
  | 0x0A => decide (size ≤ 16)
  | 0x0B => decide (1 ≤ size) && decide (size ≤ 4096)
  | _ => false

/-- The parameter bytes of a block (R226). -/
def paramLen (ty size : Nat) : Nat :=
  match ty with
  | 0x01 => 20 | 0x02 => 4 * size | 0x04 => 4 | 0x05 => 32 | 0x06 => 40 * size | 0x09 => 4 | 0x0A => 4 | 0x0B => 4
  | _ => 0

/-- The steps of a block (R226). -/
def blockSteps (ty size : Nat) : Nat :=
  match ty with
  | 0x01 => 6 | 0x02 => size + 4 | 0x03 => 3 | 0x04 => 2 | 0x05 => 24 | 0x06 => 12 * size + 2 | 0x07 => 1 | 0x08 => 2
  | 0x09 => 2 | 0x0A => (if size = 0 then 2 else 12) | 0x0B => 1
  | _ => 0

/-- The state RAM of a block in bytes (R226). -/
def blockState (ty size : Nat) : Nat :=
  match ty with
  | 0x01 => 16 | 0x02 => 4 * size | 0x03 => 5 * size | 0x04 => 8 | 0x05 => 32 + 5 * size | 0x06 => 32 * size | 0x08 => 16
  | 0x0A => (if size = 0 then 8 else 5 * (size + 4)) | 0x0B => 4
  | _ => 0

/-- The latency that a block adds, in samples, at the live value `v` (R226). -/
def blockLatency (ty size v : Nat) : Nat :=
  match ty with
  | 0x03 => v | 0x05 => size | 0x0A => size
  | _ => 0

/-- Whether a live value is in the range of its block (R226, R251). -/
def liveOk (ty size v : Nat) : Bool :=
  match ty with
  | 0x03 => decide (v ≤ size) | 0x04 => true | 0x05 => true | 0x07 => decide (v ≤ 1) | 0x09 => true
  | _ => v == 0

/-- Whether the reserved parameter bytes of a block are 0 (R228). -/
def reservedOk (ty : Nat) (p : List Byte) : Bool :=
  match ty with
  | 0x04 => u8At p 3 == 0
  | 0x05 => (p.drop 17).all (· == 0)
  | 0x0A => (p.drop 1).all (· == 0)
  | 0x0B => (p.drop 1).all (· == 0) && u8At p 0 % 8 == 0
  | _ => true

/-- The block entries of a recipe: `n` of them, ending exactly at the end of the bytes (R237, R238); `fs` is the rate at
which delays and lookaheads are judged. -/
def parseBlocks (fs n : Nat) (l : List Byte) : Option (List RBlock) :=
  match n with
  | 0 => if l.isEmpty then some [] else none
  | m + 1 =>
    if l.length < 8 then none
    else
      let ty := u8At l 0
      let sl := u8At l 1
      let size := u16At l 2
      let len := u16At l 4
      let live := u16At l 6
      let p := slice l 8 len
      if sizeOk ty size fs && len == paramLen ty size && p.length == len && liveOk ty size live then
        (parseBlocks fs m (l.drop (8 + len))).map fun r =>
          { ty := ty, size := size, a := sl / 64, b := sl / 16 % 4, y := sl / 4 % 4, z := sl % 4, params := p,
            live := live } :: r
      else none

/-- The steps of a recipe, with the 8 of R225. -/
def stepsOf (l : List RBlock) : Nat := 8 + (l.map fun b => blockSteps b.ty b.size).sum
/-- The parameter bytes of a recipe. -/
def coefOf (l : List RBlock) : Nat := (l.map fun b => paramLen b.ty b.size).sum
/-- The state RAM of a recipe in bytes. -/
def stateOf (l : List RBlock) : Nat := (l.map fun b => blockState b.ty b.size).sum
/-- Pages of 256 bytes (R241). -/
def pages (n : Nat) : Nat := (n + 255) / 256

/-- Whether no two meter taps of a recipe share a number (R235). -/
def tapsOk (l : List RBlock) : Bool := decide ((l.filter fun b => b.ty == 8).map (·.size)).Nodup

/-- The recipe of a block of bytes: the header check of R238 with delays judged at the rate `fs`. No bytes are the empty
recipe (R236). -/
def parseRecipe (fs : Nat) (l : List Byte) : Option (List RBlock) :=
  if l.isEmpty then some []
  else if l.length < 16 || u16At l 0 != 0x0100 || decide (64 < u8At l 2) || u8At l 3 != 0 || u16At l 6 != 0 then none
  else
    match parseBlocks fs (u8At l 2) (l.drop 16) with
    | some r =>
      if u16At l 4 == stepsOf r && u32At l 8 == coefOf r && u32At l 12 == stateOf r && tapsOk r then some r else none
    | none => none

/-- Whether a block of bytes is a recipe that a close accepts (R228, R238): its reserved parameter bytes are 0. -/
def recipeGood (fs : Nat) (l : List Byte) : Bool := (parseRecipe fs l).any fun r => r.all fun b => reservedOk b.ty b.params

/-- The blocks of an installed recipe. A patch may have written its reserved parameter bytes, which mean nothing (R252). [DEDUCED, log 56] -/
def recipeOf (l : List Byte) : List RBlock := (parseRecipe 192000 l).getD []

/-- The recipe that `RECIPE_CRC` names for lane `n`: one whose commit is accepted and waits, or the one in force (R252,
R257). -/
def State.laneRecipe (s : State) (n : Nat) : List Byte :=
  let w := s.parts.flatMap fun p => p.writes.filter fun x => x.key == key (0x5000 + n) 3
  match w.getLast? with
  | some x => x.block
  | none => s.block (0x5000 + n)

/-- `RECIPE_CRC` of lane `n` (R257). -/
def State.recipeCrc (s : State) (n : Nat) : Nat :=
  let l := s.laneRecipe n
  if l.isEmpty then 0 else crc32 l

/-- The entries of a coefficient patch: block, offset and bytes (R252). -/
def patchEntries (n : Nat) (l : List Byte) : Option (List (Nat × Nat × List Byte)) :=
  match n with
  | 0 => if l.isEmpty then some [] else none
  | m + 1 =>
    let len := u16At l 4
    if l.length < 6 + len || u8At l 1 != 0 then none
    else (patchEntries m (l.drop (6 + len))).map fun r => (u8At l 0, u16At l 2, slice l 6 len) :: r

/-- The entries of a patch block whose header is right. -/
def patchOf (l : List Byte) : Option (List (Nat × Nat × List Byte)) :=
  if l.length < 8 || u8At l 4 == 0 || decide (64 < u8At l 4) || leNat (slice l 5 3) != 0 then none
  else patchEntries (u8At l 4) (l.drop 8)

/-- Whether a patch for lane `n` passes the check of R252. -/
def State.patchOk (s : State) (n : Nat) (l : List Byte) : Bool :=
  let r := recipeOf (s.laneRecipe n)
  u32At l 0 == s.recipeCrc n &&
    (match patchOf l with
     | some es => es.all fun e => match r[e.1]? with
        | some b => b.params.length != 0 && decide (e.2.1 + e.2.2.length ≤ b.params.length)
        | none => false
     | none => false)

/-- The offset of the parameter bytes of block `b` in the bytes of a recipe. -/
def paramOffset (r : List RBlock) (b : Nat) : Nat := 16 + ((r.take b).map fun x => 8 + x.params.length).sum + 8

/-- A recipe's bytes with a patch applied (R252). -/
def patchRecipe (l : List Byte) (es : List (Nat × Nat × List Byte)) : List Byte :=
  es.foldl (fun l e => patchBytes l (paramOffset (recipeOf l) e.1 + e.2.1) e.2.2) l

/-! ## Step rate, budgets and pages -/

/-- The step rate of R239 in steps per second at 25 °C, for a voltage in mV held to 550 to 850. -/
def stepRate (v : Nat) : Nat :=
  let v := max 550 (min 850 v)
  if v ≤ 650 then 110000000 + 1300000 * (v - 550)
  else if v ≤ 750 then 240000000 + 1400000 * (v - 650)
  else 380000000 + 1200000 * (v - 750)

/-- The guaranteed budget of R240. -/
def budget (fs v : Nat) : Nat := 100 * (768 * stepRate v / (100000 * fs))

/-- The voltage of the commit check (R241). -/
def State.budgetMv (s : State) : Nat := if s.rd 0x2004 1 = 0 then min (s.rd 0x2004 2) (s.rd 0x2004 6) else s.rd 0x2004 2

/-- The rate of lane `n`'s domain by the settings. -/
def State.laneRate (s : State) (n : Nat) : Nat := s.confRate (s.clusterDom (n / 16))

/-- The sum over the lanes of a cluster. -/
def clusterSum (c : Nat) (g : Nat → Nat) : Nat := ((List.range 16).map fun j => g (16 * c + j)).sum

/-- The pages that lane `n` needs for a recipe: coefficient and state (R241). -/
def needOf (l : List Byte) : Nat × Nat := (pages (coefOf (recipeOf l)), pages (stateOf (recipeOf l)))

/-- Whether any delay or lookahead of a recipe is too long at rate `fs` (R238). -/
def tooLong (fs : Nat) (r : List RBlock) : Bool :=
  r.any fun b => (b.ty == 3 || b.ty == 5) && !sizeOk b.ty b.size fs

/-- What a lane occupies now: its claim, or the running recipe's pages where those are more (R32, R253). -/
def State.occupied (s : State) (n : Nat) : Nat × Nat :=
  let x := s.lane n
  if (s.fn (.lane n)).active then
    (max x.coefPages (pages (coefOf x.prog)), max x.statePages (pages (stateOf x.prog)))
  else (x.coefPages, x.statePages)

/-- Whether pages that lane `n` is to take over are still held by another lane (R32). -/
def State.pagesShort (s : State) (n : Nat) : Bool :=
  let c := n / 16
  decide (2048 < clusterSum c fun m => (s.occupied m).1) || decide (4096 < clusterSum c fun m => (s.occupied m).2)

/-- Whether the settings enable lane `n` and it has to claim pages (R241, R242): it holds none, or gets a recipe, now or with
one that waits for its stop. `was` says whether it was enabled before. [DEDUCED, log 56] -/
def LaneState.claims (x : LaneState) (was isNew : Bool) : Bool :=
  isNew || (x.coefPages == 0 && x.statePages == 0) || (!was && x.next.isSome)

/-- The check of R241 and R238 on a proposed state `s'` over `s`: `new` are the lanes that get a recipe, with it, and `ceil` says
that `CEILING` is written. The answer is whether a budget or the RAM falls short, and whether a delay is out of range. The RAM of a
cluster in which the commit claims none is not judged; in one where it does, the claims must fit beside what the commit leaves held,
and again once the lanes that an earlier commit has disabled have given up theirs (R32). [DEDUCED, log 56] -/
def State.fabricCheck (s s' : State) (new : List (Nat × List Byte)) (ceil : Bool) : Bool × Bool :=
  let rec_ (n : Nat) : List Byte := match new.find? fun x => x.1 == n with
    | some x => x.2
    | none => s.laneRecipe n
  let isNew (n : Nat) : Bool := new.any fun x => x.1 == n
  let on (st : State) (n : Nat) : Bool := st.wants (.lane n)
  let v := s'.budgetMv
  let all := List.range 128
  let moved (n : Nat) : Bool := s.laneRate n != s'.laneRate n
  let runs := ceil || all.any fun n => isNew n || (on s' n && !on s n) || moved n
  let judged := if runs then all.filter fun n => isNew n || on s' n != on s n || moved n || ceil else []
  let steps := judged.any fun n => decide (budget (s'.laneRate n) v < stepsOf (recipeOf (rec_ n)))
  let long := judged.any fun n => tooLong (s'.laneRate n) (recipeOf (rec_ n))
  let takes (n : Nat) : Bool := on s' n && (s.lane n).claims (on s n) (isNew n)
  let short (cap : Nat) (part : Nat × Nat → Nat) : Bool :=
    (List.range 8).any fun c =>
      let take := clusterSum c fun n => if takes n then part (needOf (rec_ n)) else 0
      let now := clusterSum c fun n =>
        if isNew n || takes n || (on s n && !on s' n) || (!(s.fn (.lane n)).active && s.pagesShort n) then 0 else part (s.occupied n)
      let later := clusterSum c fun n => if !takes n && on s' n then part ((s.lane n).coefPages, (s.lane n).statePages) else 0
      decide (0 < take) && (decide (cap < now + take) || decide (cap < later + take))
  (steps || short 2048 (·.1) || short 4096 (·.2), long)

/-- The pages that an accepted commit claims and gives up at once (R242); `s` already holds the enables, and `was` are those
before. -/
def State.grantPages (s : State) (was : Nat → Bool) (new : List (Nat × List Byte)) : State :=
  (List.range 128).foldl (fun s n =>
    let x := s.lane n
    let isNew := new.any fun y => y.1 == n
    let l := match new.find? fun y => y.1 == n with
      | some y => y.2
      | none => s.laneRecipe n
    if s.wants (.lane n) then
      if x.claims (was n) isNew then
        let need := needOf l
        if need == (x.coefPages, x.statePages) then s
        else s.setLane n { x with coefPages := need.1, statePages := need.2 }
      else s
    else if (s.fn (.lane n)).active || (x.coefPages == 0 && x.statePages == 0) then s
    else s.setLane n { x with coefPages := 0, statePages := 0 }) s

/-- The lowest voltage whose budgets cover every enabled lane (R245). [DEDUCED, log 57] -/
def State.vcoreNeeded (s : State) : Nat :=
  let need := ((List.range 128).filter fun n => s.wants (.lane n)).map fun n =>
    (s.laneRate n, stepsOf (recipeOf (s.laneRecipe n)))
  let ok (v : Nat) : Bool := need.all fun x => decide (x.2 ≤ budget x.1 v)
  (((List.range 31).map fun k => 550 + 10 * k).find? ok).getD 850

/-! ## Arithmetic of the cells -/

/-- The 32-bit coefficients of a block. -/
def coefs (p : List Byte) : List Int := (List.range (p.length / 4)).map fun i => signed 4 (u32At p (4 * i))

/-- The result of accumulated products of words and Q4.27 coefficients (R223). [DESIGN CHOICE, log 12] -/
def macOf (l : List Int) : Int := if l.all (fun x => x % 2 ^ 27 == 0) then l.sum / 2 ^ 27 else Config.macWord l

/-- A result written to a slot with the tags of `x`: it saturates and then carries O (R223). -/
def satSample (x : Sample) (v : Int) : Sample :=
  let r := sat32 v
  { x with w := r.1, o := x.o || r.2 }

/-- A crossfade between two samples of a lane (R203): a result beyond the word's range saturates and then carries O (R223). -/
def mixCells (i : Nat) (a b : Sample) : Sample :=
  satSample (mixSamples i 64 a b) (fade i 64 (if a.v then a.w.toInt else 0) (if b.v then b.w.toInt else 0))

/-- What a filter remembers of a result. [DESIGN CHOICE, log 12] -/
def memoryOf (y : Int) : Int := if y < -(2 ^ 31) ∨ 2 ^ 31 - 1 < y then Config.filterMemory y else y

/-- One biquad section (R228) over its memory x1, x2, y1, y2. -/
def biquad (co st : List Int) (x : Int) : Int × List Int :=
  let c (i : Nat) : Int := co.getD i 0
  let m (i : Nat) : Int := st.getD i 0
  let y := macOf [c 0 * x, c 1 * m 0, c 2 * m 1, -(c 3 * m 2), -(c 4 * m 3)]
  (y, [x, m 0, memoryOf y, m 2])

/-- `n` sections in a row, over their memories. -/
def cascade (n : Nat) (co st : List Int) (x : Int) : Int × List Int :=
  match n with
  | 0 => (x, [])
  | m + 1 =>
    let r := biquad (co.take 5) (st.take 4) x
    let q := cascade m (co.drop 5) (st.drop 4) r.1
    (q.1, r.2 ++ q.2)

/-- The sum of coefficients times the words of a line, newest first (R228). -/
def firOf (co : List Int) (line : List Sample) : Int := macOf (List.zipWith (fun h x => h * x.w.toInt) co line)

/-- The polynomial through the points `l` at `x` (R233). -/
def lagrange (l : List (Rat × Rat)) (x : Rat) : Rat :=
  (l.map fun p => p.2 * ((l.filter fun q => q.1 != p.1).map fun q => (x - q.1) / (p.1 - q.1)).prod).sum

/-! ## Blocks -/

/-- A block's memory at the first tick of its lane (R254), with the live value and bypass of `v`. -/
def BlockSt.fresh (v : Nat) : BlockSt :=
  { live := v % 0x10000, byp := v.testBit 31, ramp := .rest (gainOf (v % 0x10000)), xf := 64, old := 0, xfByp := 64,
    line := [], regs := [], hold := [], valid := none }

/-- Whether a concealing block takes a sample for invalid (R232). -/
def RBlock.bad (b : RBlock) (x : Sample) : Bool := !x.v || ((u8At b.params 0).testBit 0 && x.n)

/-- Conceal in hold mode (R232). [DEDUCED, log 82] -/
def RBlock.holdMode (b : RBlock) (st : BlockSt) (x : Sample) : Sample × BlockSt :=
  let k := st.hold.getD 0 0
  if !b.bad x then (x, { st with valid := some x, hold := [0] })
  else if k < 255 then
    let h := st.valid.getD { w := 0, v := true, o := false, s := false, n := false, q := false }
    ({ h with v := true, s := true }, { st with hold := [k + 1] })
  else (x, st)

/-- Conceal in interpolate mode on a line whose newest sample has just been added (R233). -/
def RBlock.interpolate (b : RBlock) (st : BlockSt) : Sample × BlockSt :=
  let at_ (i : Nat) : Sample := st.line.getD i .quiet
  let l := b.size
  let x := at_ l
  let o := ((st.line.drop (l + 1)).takeWhile b.bad).length
  let m := (((st.line.take l).reverse).takeWhile b.bad).length
  let r := o + m + 1
  if b.bad x && st.hold.getD 0 0 == 0 && decide (r ≤ l) && decide (m < l) then
    let pts : List (Rat × Sample) :=
      [(-2, at_ (l + o + 2)), (-1, at_ (l + o + 1)), ((r : Rat), at_ (l - m - 1))] ++
        (if r < l ∧ m + 2 ≤ l then [((r : Rat) + 1, at_ (l - m - 2))] else [])
    let pts := pts.filter fun p => !b.bad p.2
    let q := lagrange (pts.map fun p => (p.1, (p.2.w.toInt : Rat))) o
    (satSample { w := 0, v := true, o := pts.any (·.2.o), s := true, n := pts.any (·.2.n), q := pts.any (·.2.q) }
      (roundOpen q), st)
  else b.holdMode st x

/-- One tag of a tag-hold block: whether the output carries it, and the samples it is still held (R234). [DEDUCED, log 82] -/
def holdTag (sel carried : Bool) (h left : Nat) : Bool × Nat :=
  if !sel then (carried, 0) else if carried then (true, h) else if 0 < left then (true, left - 1) else (false, 0)

/-- Tag hold (R234). -/
def RBlock.tagHold (b : RBlock) (st : BlockSt) (x : Sample) : Sample × BlockSt :=
  let m := u8At b.params 0
  let k (i : Nat) : Nat := st.hold.getD i 0
  let v := holdTag (m.testBit 7) (!x.v) b.size (k 0)
  let o := holdTag (m.testBit 6) x.o b.size (k 1)
  let s := holdTag (m.testBit 5) x.s b.size (k 2)
  let n := holdTag (m.testBit 4) x.n b.size (k 3)
  let q := holdTag (m.testBit 3) x.q b.size (k 4)
  ({ w := x.w, v := !v.1, o := o.1, s := s.1, n := n.1, q := q.1 }, { st with hold := [v.2, o.2, s.2, n.2, q.2] })

/-- What a gain or trim multiplies with, and whether its sample carries Q (R230, R549). -/
def BlockSt.gainNow (st : BlockSt) : Option Rat × Bool := (st.ramp.gain, st.ramp.live || st.ramp.gain.isNone)

/-- The clamp of a gain block (R228). -/
def clampSample (x : Sample) : Sample :=
  let top : Int := 2 ^ 27 - 1
  if top < x.w.toInt then { x with w := BitVec.ofInt 32 top, o := true }
  else if x.w.toInt < -top then { x with w := BitVec.ofInt 32 (-top), o := true }
  else x

/-- What block `b` computes from slots A, B and Y (R226 to R235): its result, its second result, and its memory. -/
def RBlock.compute (b : RBlock) (fs : Nat) (st : BlockSt) (a key y : Sample) : Sample × Sample × BlockSt :=
  let co := coefs b.params
  match b.ty with
  | 0x01 =>
    let r := biquad co st.regs a.w.toInt
    (satSample a r.1, a, { st with regs := r.2 })
  | 0x02 =>
    let line := (a :: st.line).take b.size
    (satSample a (firOf co line), a, { st with line := line })
  | 0x03 =>
    let line := (a :: st.line).take (b.size + 1)
    let new := line.getD st.live .quiet
    let r := if st.xf < 64 then mixCells st.xf (line.getD st.old .quiet) new else new
    (r, a, { st with line := line, xf := min 64 (st.xf + 1) })
  | 0x04 =>
    let g := st.gainNow
    let r := satSample { a with q := a.q || g.2 } (mulGain g.1 a.w.toInt)
    (if (u8At b.params 2).testBit 0 then clampSample r else r, a, { st with ramp := st.ramp.step })
  | 0x05 =>
    let k := if u8At b.params 1 % 2 = 1 then key else a
    let d := Config.dynNext b.params st.live fs (st.regs.getD 0 0) k.w.toInt
    let line := (a :: st.line).take (b.size + 1)
    let x := line.getD b.size .quiet
    (satSample x (Config.dynOut b.params d x.w.toInt), a, { st with line := line, regs := [d] })
  | 0x06 =>
    let lo := cascade b.size co st.regs a.w.toInt
    let hi := cascade b.size (co.drop (5 * b.size)) (st.regs.drop (4 * b.size)) a.w.toInt
    (satSample a lo.1, satSample a hi.1, { st with regs := lo.2 ++ hi.2 })
  | 0x07 => (if st.live % 2 = 1 then satSample a (-a.w.toInt) else a, a, st)
  | 0x09 =>
    let g := st.gainNow
    let w := co.getD 0 0
    let st' := { st with ramp := st.ramp.step }
    if w = 0 ∨ g.1 = none then ({ y with q := y.q || g.2 }, a, st')
    else
      let t := { tagsOf [y, a] with q := (y.q && a.q) || g.2 }
      (satSample t (if g.1 = some 0 then macOf [2 ^ 27 * y.w.toInt, w * a.w.toInt]
                    else y.w.toInt + mulGain g.1 (macOf [w * a.w.toInt])), a, st')
  | 0x0A =>
    if b.size = 0 then
      let r := b.holdMode st a
      (r.1, a, r.2)
    else
      let r := b.interpolate { st with line := (a :: st.line).take (2 * b.size + 4) }
      (r.1, a, r.2)
  | 0x0B =>
    let r := b.tagHold st a
    (r.1, a, r.2)
  | _ => (a, a, st)

/-- A result with the bypass of its block (R224, R251): `i` is the block's input. -/
def BlockSt.bypass (st : BlockSt) (i x : Sample) : Sample :=
  if st.xfByp < 64 then (if st.byp then mixCells st.xfByp x i else mixCells st.xfByp i x)
  else if st.byp then i else x

/-- The slots, the taps and the memories while a recipe runs. -/
structure Cells where
  slots : List Sample
  taps : List Sample
  st : List BlockSt
deriving DecidableEq, Repr

/-- One block of a frame (R222, R227, R235). -/
def Cells.run (fs : Nat) (c : Cells) (x : RBlock × BlockSt) : Cells :=
  let b := x.1
  let slot (i : Nat) : Sample := c.slots.getD i .quiet
  let a := slot b.a
  let r := b.compute fs x.2 a (slot b.b) (slot b.y)
  let i := if b.ty = 9 then slot b.y else a
  let sl := c.slots.set b.y (x.2.bypass i r.1)
  let sl := if b.ty = 6 then sl.set b.z (x.2.bypass i r.2.1) else sl
  { slots := sl, taps := if b.ty = 8 then c.taps.set b.size a else c.taps,
    st := c.st ++ [{ r.2.2 with xfByp := min 64 (x.2.xfByp + 1) }] }

/-- A frame of a lane (R222). -/
def LaneState.frame (x : LaneState) (fs : Nat) : Cells :=
  (x.prog.zip x.st).foldl (Cells.run fs)
    { slots := [x.in0, x.in1, .quiet, .quiet], taps := [.quiet, .quiet, .quiet, .quiet], st := [] }

/-- A block's memory after a late frame (R247, R250): lines advance with a copy, ramps and crossfades count the frame. -/
def BlockSt.late (b : RBlock) (st : BlockSt) : BlockSt :=
  let c : Sample := { st.line.headD .quiet with s := true }
  let st := { st with ramp := st.ramp.step, xf := min 64 (st.xf + 1), xfByp := min 64 (st.xfByp + 1) }
  match b.ty with
  | 0x02 => { st with line := (c :: st.line).take b.size }
  | 0x03 => { st with line := (c :: st.line).take (b.size + 1) }
  | 0x05 => { st with line := (c :: st.line).take (b.size + 1) }
  | _ => st

/-! ## Slack -/

/-- The slack windows brought up to now (R246): a window without a measured frame reads 1000. -/
def State.rollSlack (s : State) : State :=
  let low (g : LaneState → Nat) (c : Nat) : Nat := ((List.range 16).map fun j => g (s.lane (16 * c + j))).foldl min 1000
  let s := if s.slack.msEnd ≤ s.now then
      let late := decide (s.slack.msEnd + 1000000 ≤ s.now)
      let ms : Sparse Nat := (List.range 8).foldl
        (fun m c => put 1000 m c (if late then 1000 else low (·.slackMs) c)) []
      { s with slack := { s.slack with ms := ms, msEnd := (s.now / 1000000 + 1) * 1000000 },
               lanes := s.lanes.map fun x => (x.1, { x.2 with slackMs := 1000 }) }
    else s
  if s.slack.secEnd ≤ s.now then
    let late := decide (s.slack.secEnd + 1000000000 ≤ s.now)
    let sec : Sparse Nat := (List.range 8).foldl
      (fun m c => put 1000 m c (if late then 1000 else low (·.slackSec) c)) []
    let worst : Sparse Nat := (List.range 8).foldl (fun m c =>
      let v := look 1000 sec c
      put 0xFF m c (if v = 1000 then 0xFF
        else match (List.range 16).find? fun j => (s.lane (16 * c + j)).slackSec == v with
          | some j => 16 * c + j
          | none => 0xFF)) []
    let s1 := (List.range 128).foldl (fun t n => t.wr (0x3600 + n) 0x0C (if late then 1000 else (s.lane n).slackSec)) s
    { s1 with slack := { s1.slack with sec := sec, worst := worst, secEnd := (s.now / 1000000000 + 1) * 1000000000 },
              lanes := s1.lanes.map fun x => (x.1, { x.2 with slackSec := 1000 }) }
  else s

/-- A frame's slack enters the windows (R246). -/
def State.noteSlack (s : State) (n v : Nat) : State :=
  let s := s.rollSlack
  let x := s.lane n
  s.setLane n { x with slackMs := min x.slackMs v, slackSec := min x.slackSec v }

/-- The counts of a period at rate `fs` (R246). -/
def slackCounts (fs : Nat) : Nat := 2048 * baseRate fs / fs

/-- The slack of a frame that finishes now, in 0.1 % rounded down (R246). -/
def State.slackNow (s : State) (d : Nat) : Nat :=
  let fs := s.rate d
  let n := slackCounts fs
  (n - (s.now - (s.dom d).tickAt) * fs * n / 1000000000) * 1000 / n

/-! ## The frame of a lane -/

/-- LANE_FRAME_FINISH (R25, R246): the results are complete before the next tick. -/
def execLaneFrameFinish (t n : Nat) (s : State) : Host.Outcome State Fault Refusal :=
  let s := s.clock t
  let x := s.lane n
  let f := s.fn (.lane n)
  if f.active && x.busy && !x.done then
    let c := x.frame (s.rate f.dom)
    let s := s.noteSlack n (s.slackNow f.dom)
    .next (s.setLane n { s.lane n with done := true, out0 := c.slots.getD 0 .quiet, out1 := c.slots.getD 1 .quiet,
                                       new := c.st, newTaps := c.taps })
  else .next s

/-- What a lane presents for a late frame (R248). [DEDUCED, log 82] -/
def lateSample (inHold : Bool) (x : Sample) : Sample :=
  if inHold then { x with s := true } else { w := 0, v := true, o := false, s := true, n := false, q := true }

/-- A late frame of lane `n` (R247 to R249). Once the run is silent it stays so to its end, whatever `LATE_HOLD` becomes. [DEDUCED, log 82] -/
def State.lateLane (s : State) (n : Nat) : State :=
  let s := s.noteSlack n 0
  let x := s.lane n
  let i := 0x3600 + n
  let hold := s.rd i 4
  let run := x.lateRun + 1
  let mute := x.lateMute || decide (hold < run)
  let s := s.setLane n
    { x with busy := false, lateRun := run, lateMute := mute, st := (x.prog.zip x.st).map fun y => BlockSt.late y.1 y.2,
             out0 := lateSample (!mute) (s.srcSample (0x600 + 2 * n)),
             out1 := lateSample (!mute) (s.srcSample (0x601 + 2 * n)) }
  let s := ((s.bump i 0x0D).bump (0x3821 + n / 16) 7).bump 0x3820 4
  let s := if s.rd i 0x0E < run ∧ run < 65536 then s.wr i 0x0E run else s
  let s := s.event 0x40 i
  if mute && !x.lateMute then s.event 0x41 i else s

/-- A frame that finished in time is taken over (R248). -/
def State.keepLane (s : State) (n : Nat) : State :=
  let x := s.lane n
  s.setLane n { x with busy := false, done := false, st := x.new, taps := x.newTaps, lateRun := 0, lateMute := false,
                       lateRamp := if x.lateMute then 64 else x.lateRamp }

/-- The end of the frame in progress, at the tick (R247). -/
def State.settleLane (s : State) (n : Nat) : State :=
  let x := s.lane n
  if !((s.fn (.lane n)).active && x.busy) then s else if x.done then s.keepLane n else s.lateLane n

/-- The ramp after a run of late frames (R248): `left` samples of 64 are still to come. [DEDUCED, log 82] -/
def lateGain (left : Nat) : Option Rat :=
  if left = 0 then some 0 else Ramp.gainAt { g0 := none, g1 := some 0, i := 0, len := 64 } (64 - left)

/-- What lane `n` presents at a tick (R22, R254, R255): its last results under its ramps. -/
def State.presentLane (s : State) (n : Nat) : State :=
  let f := s.fn (.lane n)
  let s :=
    if f.active then
      let x := s.lane n
      let q := f.fading || decide (0 < x.lateRamp)
      let shape (y : Sample) : Sample :=
        let z := (y.times (if f.fading then f.fade.gain else some 0)).times (lateGain x.lateRamp)
        { z with q := z.q || q }
      let s := (s.setSrc (0x600 + 2 * n) (shape x.out0)).setSrc (0x601 + 2 * n) (shape x.out1)
      s.setLane n { x with lateRamp := x.lateRamp - 1 }
    else s
  s.setFn (.lane n) f.frame

/-- Lane `n` takes its inputs at a tick (R222, R254). -/
def State.feedLane (s : State) (n : Nat) : State :=
  if (s.fn (.lane n)).active then
    s.setLane n { s.lane n with busy := true, done := false, in0 := s.delivered (0x600 + 2 * n),
                                in1 := s.delivered (0x601 + 2 * n) }
  else s

/-! ## Start, stop, recipes -/

/-- The conditions of R254 and R32 for a lane's start. -/
def State.laneReady (s : State) (n : Nat) : Bool := s.domReady (.lane n) && !s.pagesShort n

/-- The block values of lane `n` as its objects hold them. -/
def State.blockValues (s : State) (n : Nat) (k : Nat) : List Nat := (List.range k).map fun b => s.rd (0x3600 + n) (0x10 + b)

/-- Lane `n` starts with the installed recipe, its memories cleared (R253, R254). [DEDUCED, log 56] -/
def State.startLane (s : State) (n : Nat) : State :=
  let x := s.lane n
  let prog := match x.next with
    | some l => recipeOf l
    | none => x.prog
  let s := s.setLane n
    { LaneState.empty with prog := prog, st := (s.blockValues n prog.length).map BlockSt.fresh,
                           taps := [.quiet, .quiet, .quiet, .quiet], coefPages := x.coefPages,
                           statePages := x.statePages, slackMs := x.slackMs, slackSec := x.slackSec }
  let s := if x.next.isSome then s.restartTaps n else s
  let s := (s.setSrc (0x600 + 2 * n) .quiet).setSrc (0x601 + 2 * n) .quiet
  s.setFn (.lane n) ((s.fn (.lane n)).begin (s.clusterDom (n / 16)) 1 (s.framp (.lane n)))

/-- What lane `n` gives up when it stops (R253, R255): the waiting recipe is installed, and a disabled lane holds no
pages. [DEDUCED, log 56] -/
def State.restLane (s : State) (n : Nat) : State :=
  let x := s.lane n
  let prog := match x.next with
    | some l => recipeOf l
    | none => x.prog
  let on := s.wants (.lane n)
  (if x.next.isSome then s.restartTaps n else s).setLane n
    { LaneState.empty with prog := prog, coefPages := if on then x.coefPages else 0,
                           statePages := if on then x.statePages else 0, slackMs := x.slackMs, slackSec := x.slackSec }

/-- A change of a block's word (R229 to R231, R251, R549); `len` is the ramp of its type in samples. -/
def BlockSt.change (b : RBlock) (len v : Nat) (st : BlockSt) : BlockSt :=
  let st := if st.byp == v.testBit 31 then st else { st with byp := v.testBit 31, xfByp := 0 }
  let x := v % 0x10000
  if st.live = x then st
  else if b.ty = 3 then { st with live := x, old := st.live, xf := 0 }
  else if b.ty = 4 ∨ b.ty = 9 then { st with live := x, ramp := st.ramp.to (gainOf x) len }
  else { st with live := x }

/-- The ramp of a live value in samples: a gain block's own, or the lane's `RAMP_TIME` for a trim (R230, R549). -/
def State.liveRamp (s : State) (n : Nat) (b : RBlock) : Nat :=
  rampLen (if b.ty = 4 then u16At b.params 0 else s.rd (0x3600 + n) 3) (s.laneRate n)

/-- The written block words of a running lane take effect (R251). A lane that waits for its first tick starts with them: no ramp and
no crossfade runs. -/
def State.applyLive (s : State) (n : Nat) (subs : List Nat) : State :=
  let x := s.lane n
  let f := s.fn (.lane n)
  if (f.active || f.phase == .starting) && x.next.isNone then
    subs.foldl (fun s sub =>
      if 0x10 ≤ sub ∧ sub < 0x50 then
        let x := s.lane n
        match x.prog[sub - 0x10]?, x.st[sub - 0x10]? with
        | some b, some y =>
          let v := s.rd (0x3600 + n) sub
          s.setLane n
            { x with st := x.st.set (sub - 0x10) (if f.active then y.change b (s.liveRamp n b) v else BlockSt.fresh v) }
        | _, _ => s
      else s) s
  else s

/-- Lane `n` holds the recipe `l` in the dictionary; block words that the same commit does not write take their `LIVE` default
(R251). [DEDUCED, log 56] -/
def State.placeRecipe (s : State) (n : Nat) (subs : List Nat) (l : List Byte) : State :=
  let r := recipeOf l
  (List.range 64).foldl (fun s b =>
    if subs.contains (0x10 + b) then s
    else s.wr (0x3600 + n) (0x10 + b) (match r[b]? with
      | some x => x.live
      | none => 0)) (s.setBlock (0x5000 + n) l)

/-- A new recipe of lane `n` (R253): its block words come from the recipe unless the commit wrote them (`subs`). [DEDUCED, log 56] -/
def State.installRecipe (s : State) (n : Nat) (subs : List Nat) (l : List Byte) : State :=
  let s := s.placeRecipe n subs l
  let x := s.lane n
  match s.phase (.lane n) with
  | .running => (s.setLane n { x with next := some l, replacing := true }).stopFn (.lane n)
  | .starting => s.setLane n { x with next := some l }
  | .draining => s.setLane n { x with next := some l }
  | .ramping => s.setLane n { x with next := some l }
  | _ => (s.restartTaps n).setLane n { x with prog := recipeOf l, next := none }

/-- A coefficient patch of lane `n` (R252): the memories are kept. -/
def State.applyPatch (s : State) (n : Nat) (p : List Byte) : State :=
  match patchOf p with
  | some es =>
    let l := patchRecipe (s.block (0x5000 + n)) es
    let x := s.lane n
    let r := recipeOf l
    let x := match x.next with
      | some _ => { x with next := some l }
      | none => { x with prog := r }
    (((s.setBlock (0x5000 + n) l).setBlock (0x5080 + n) p).setLane n x).bump (0x3600 + n) 0x0F
  | none => s

/-- What the writes of a commit do to lane `n`: a patch, then a recipe, then live values. -/
def State.applyLane (s : State) (n : Nat) (subs : List Nat) (recipe patch : Option (List Byte)) : State :=
  let s := match patch with
    | some p => s.applyPatch n p
    | none => s
  match recipe with
  | some l => s.installRecipe n subs l
  | none => s.applyLive n subs

/-- The lanes of clusters `lo` to `hi` hold the empty recipe (R236). -/
def State.clearLanes (s : State) (lo hi : Nat) : State :=
  ((List.range 128).filter fun n => decide (lo ≤ n / 16) && decide (n / 16 ≤ hi)).foldl (fun s n =>
    let s := (((s.restartTaps n).setLane n .empty).setBlock (0x5000 + n) []).setBlock (0x5080 + n) []
    (List.range 64).foldl (fun s b => s.wr (0x3600 + n) (0x10 + b) 0) s) s

/-! ## Readings -/

/-- The recipe whose figures lane `n` reports: the installed one. -/
def State.shownRecipe (s : State) (n : Nat) : List RBlock :=
  let x := s.lane n
  match x.next with
  | some l => if x.replacing then x.prog else recipeOf l
  | none => x.prog

/-- The computed subs of a lane's index (R257). -/
def State.readLane (s : State) (n sub : Nat) : Nat :=
  let r := s.shownRecipe n
  match sub with
  | 5 => s.recipeCrc n
  | 6 => r.length
  | 7 => stepsOf r
  | 8 => budget (s.laneRate n) s.budgetMv
  | 9 => pages (coefOf r) * 256
  | 0x0A => pages (stateOf r) * 256
  | 0x0B =>
    let x := s.lane n
    let v := if x.replacing then x.st.map BlockSt.live else (s.blockValues n r.length).map (· % 0x10000)
    ((r.zip v).map fun x => blockLatency x.1.ty x.1.size x.2).sum
  | 0x0C => s.rollSlack.rd (0x3600 + n) 0x0C
  | _ => s.rd (0x3600 + n) sub

/-- The lanes of `l` in STARTING, RUNNING, DRAINING or RAMPING (R258). -/
def State.lanesRunning (s : State) (l : List Nat) : Nat :=
  (l.filter fun n => match s.phase (.lane n) with
    | .starting => true | .running => true | .draining => true | .ramping => true | _ => false).length

/-- The computed subs of 3820h (R258). -/
def State.read3820 (s : State) (sub : Nat) : Nat :=
  match sub with
  | 1 => Config.sensor (key 0x3820 1) s.now % 65536
  | 5 => s.lanesRunning (List.range 128)
  | _ => s.rd 0x3820 sub

/-- The computed subs of cluster `c` (R259). -/
def State.readCluster (s : State) (c sub : Nat) : Nat :=
  match sub with
  | 1 => s.clusterDom c
  | 2 => 256 * clusterSum c fun n => (s.lane n).coefPages
  | 3 => 256 * clusterSum c fun n => (s.lane n).statePages
  | 4 => look 1000 s.rollSlack.slack.sec c
  | 5 => look 1000 s.rollSlack.slack.ms c
  | 6 => look 0xFF s.rollSlack.slack.worst c
  | 8 => s.lanesRunning ((List.range 16).map fun j => 16 * c + j)
  | _ => s.rd (0x3821 + c) sub

end Sys2Proof.Machine
end

