-- ==== Sys2Proof/Machine/Mixing.lean ====
section
/-!
DEFINITION. Mix buses, meters, the direct path and the external delay lines (09_mixing_meters.md, R260 to R295).
-/

set_option autoImplicit false

namespace Sys2Proof.Machine

/-! ## Contributions -/

/-- SOURCE of a contribution word (R272). -/
def contribSource (w : Nat) : Nat := w % 0x1000

/-- The weight that a contribution word asks for; MUTE and a weight of 8000h are mute (R272). -/
def contribGoal (w : Nat) : Option Rat := if w.testBit 15 then none else gainOf (w / 0x10000)

/-- The word of contribution `c` of bus `b`. -/
def State.contribWord (s : State) (b c : Nat) : Nat := s.rd (0x3500 + b) (0x10 + c)

/-- Whether a contribution word is in range: its weight, and a source that is present (R264, R272). -/
def contribOk (w : Nat) : Bool :=
  let x := signed 2 (w / 0x10000)
  (w / 0x10000 == 0x8000 || (decide (-12000 ≤ x) && decide (x ≤ 2400))) &&
    (contribSource w == 0xFFF || sourcePresent (contribSource w))

/-- Whether a new word of a contribution must wait for a source crossfade or an overlap (R267, R268). -/
def Contrib.busy (x : Contrib) (w : Nat) : Bool :=
  contribSource w != x.src && x.old.isSome && x.src != 0xFFF

/-- A contribution after its word has changed to `w`, with ramps of `len` samples (R267). -/
def Contrib.change (x : Contrib) (w len : Nat) : Contrib :=
  let new := contribSource w
  let goal := contribGoal w
  if new = x.src then (if x.ramp.g1 = goal ∨ new = 0xFFF then x else { x with ramp := x.ramp.to goal len })
  else if x.src = 0xFFF then { x with src := new, ramp := (Ramp.rest none).to goal len }
  else if new = 0xFFF then { x with src := 0xFFF, old := some x.src, oldRamp := x.ramp.to none len, xf := 0, xfLen := 0 }
  else
    { x with src := new, old := some x.src, xf := 0, xfLen := len,
             ramp := if x.ramp.g1 = goal then x.ramp else x.ramp.to goal len }

/-- What one contribution adds to its bus at a tick: samples with their weights, and whether a weight ramps (R265, R266);
`a` is its source and `o` the source it comes from or ramps out. -/
def Contrib.parts (x : Contrib) (a o : Sample) : List (Sample × Option Rat) :=
  let shape (y : Sample) (r : Ramp) : Sample := { y with q := y.q || r.live }
  let main := match x.old with
    | some _ => if 0 < x.xfLen then { mixSamples x.xf x.xfLen o a with q := (o.q && a.q) || x.ramp.live } else shape a x.ramp
    | none => shape a x.ramp
  (if x.src = 0xFFF then [] else [(main, x.ramp.gain)]) ++
    (if x.old.isSome && x.xfLen == 0 then [(shape o x.oldRamp, x.oldRamp.gain)] else [])

/-- A contribution one sample later; a finished crossfade or ramp-out ends (R267). -/
def Contrib.step (x : Contrib) : Contrib :=
  let x := { x with ramp := x.ramp.step, oldRamp := x.oldRamp.step, xf := if 0 < x.xfLen then x.xf + 1 else 0 }
  if x.old.isSome && (if 0 < x.xfLen then decide (x.xfLen ≤ x.xf) else !x.oldRamp.live) then
    { x with old := none, oldRamp := .rest none, xf := 0, xfLen := 0 }
  else x

/-! ## Mix buses -/

/-- The gain that bus `b` comes to rest at (R267). -/
def State.busGoal (s : State) (b : Nat) : Option Rat :=
  if s.rd (0x3500 + b) 5 = 1 then none else gainOf (s.rd (0x3500 + b) 4)

/-- Bus `b` starts: its contributions at their weights, silent, and ramping in (R269). -/
def State.startBus (s : State) (b : Nat) : State :=
  let cs : Sparse Contrib := (List.range 128).foldl (fun m c =>
    let w := s.contribWord b c
    if contribSource w = 0xFFF then m
    else put .unused m c { Contrib.unused with src := contribSource w, ramp := .rest (contribGoal w) }) []
  let len := s.framp (.bus b)
  let s := s.setBus b { BusState.none with contribs := cs, gain := (Ramp.rest none).to (s.busGoal b) len }
  (s.setSrc (0x700 + b) .quiet).setFn (.bus b) ((s.fn (.bus b)).begin (s.rd (0x3500 + b) 3) 0 len)

/-- The stop ramp of bus `b` (R269). -/
def State.rampBus (s : State) (b : Nat) : State :=
  s.setBus b { s.bus b with gain := (s.bus b).gain.to none (s.framp (.bus b)) }

/-- What a commit that has written the subs `subs` does to a running bus (R267). -/
def State.applyBus (s : State) (b : Nat) (subs : List Nat) : State :=
  if (s.fn (.bus b)).active then
    let len := s.framp (.bus b)
    let s := if subs.contains 4 || subs.contains 5 then
        (if (s.bus b).gain.g1 = s.busGoal b then s
         else s.setBus b { s.bus b with gain := (s.bus b).gain.to (s.busGoal b) len })
      else s
    subs.foldl (fun s sub =>
      if 0x10 ≤ sub then
        let x := s.bus b
        let c := look .unused x.contribs (sub - 0x10)
        s.setBus b { x with contribs := put .unused x.contribs (sub - 0x10) (c.change (s.contribWord b (sub - 0x10)) len) }
      else s) s
  else s

/-- The sum of a bus before its gain: each product rounded, unweighted samples left out (R265). -/
def busSum (l : List (Sample × Option Rat)) : Int := (l.map fun p => mulGain p.2 p.1.w.toInt).sum

/-- The result of bus `b` for the frame of this tick, and whether it saturated (R265, R266). -/
def State.busFrame (s : State) (b : Nat) : Sample × Bool :=
  let x := s.bus b
  let d := (s.fn (.bus b)).dom
  let ps := (x.contribs.flatMap fun c =>
    c.2.parts (s.inDomain c.2.src d) (match c.2.old with
      | some q => s.inDomain q d
      | none => .off)).filter fun p => p.2 != none
  let g := x.gain.gain
  let r := sat32 (mulGain g (busSum ps))
  let tags := tagsOf (ps.map (·.1))
  ({ tags with w := r.1, o := tags.o || r.2, q := tags.q || x.gain.live || g.isNone }, r.2)

/-- Bus `b` computes its frame at a tick (R265, R269). [DESIGN CHOICE, log 83] -/
def State.computeBus (s : State) (b : Nat) : State :=
  let f := s.fn (.bus b)
  if f.active then
    let r := s.busFrame b
    let x := s.bus b
    let s := s.setBus b { x with next := r.1, satRun := r.2, satAt := if r.2 then some s.now else x.satAt,
                                 gain := x.gain.step, contribs := x.contribs.map fun c => (c.1, c.2.step) }
    let s := if r.2 then s.bump (0x3500 + b) 8 else s
    let s := if r.2 && !x.satRun then s.event 0x42 (0x3500 + b) else s
    s.setFn (.bus b) f.frame
  else s.setFn (.bus b) f.frame

/-- What bus `b` presents at a tick: the result of the period before, or its previous sample with S where it came late
(R22, R270). -/
def State.presentBus (s : State) (late : List Nat) (b : Nat) : State :=
  if (s.fn (.bus b)).active then
    if late.contains b then
      let s := s.setSrc (0x700 + b) { s.srcSample (0x700 + b) with s := true }
      ((s.setBus b { s.bus b with lateAt := some s.now }).bump 0x3829 4).event 0x43 (0x3500 + b)
    else s.setSrc (0x700 + b) (s.bus b).next
  else s

/-- The weight of one contribution at rate `fs` (R33). -/
def rateWeight (fs : Nat) : Nat := if fs ≤ 48000 then 1 else if fs ≤ 96000 then 2 else 4

/-- The active contributions that the settings give bus `b` (R263). -/
def State.activeContribs (s : State) (b : Nat) : Nat :=
  ((List.range 128).filter fun c => contribSource (s.contribWord b c) != 0xFFF).length

/-- The buses that the settings or the running machine know. -/
def State.busList (s : State) : List Nat :=
  ((s.objs.filterMap fun (x : Nat × Nat) => if 0x350000 ≤ x.1 ∧ x.1 < 0x360000 then some ((x.1 - 0x350000) / 256) else none) ++
    s.buses.map (·.1)).dedup

/-- The settings of the buses with the writes of every accepted commit that waits for its tick. -/
def State.busSettings (s : State) : State :=
  (s.parts.flatMap Part.writes).foldl (fun t x => if between 0x3500 0x35FF x.index then t.wr x.index x.sub x.val else t) s

/-- The weighted contributions that bus `b` claims (R264): those of the settings `s'` while it is enabled, with those that a commit
before the settings `s` removed and that still sum or ramp out (R267); and all it still sums while it stops. -/
def State.busClaim (s s' : State) (b : Nat) : Nat :=
  let x := s.bus b
  let out := (x.contribs.filter fun c => (c.2.src != 0xFFF || c.2.old.isSome) && contribSource (s.contribWord b c.1) == 0xFFF &&
    contribSource (s'.contribWord b c.1) == 0xFFF).length
  let live := (s.fn (.bus b)).active
  if s'.wants (.bus b) then (s'.activeContribs b + (if live then out else 0)) * rateWeight (s'.confRate (s'.rd (0x3500 + b) 3))
  else if live && !s.wants (.bus b) then
    (x.contribs.filter fun c => c.2.src != 0xFFF || c.2.old.isSome).length * rateWeight (s.rate (s.fn (.bus b)).dom)
  else 0

/-- `WEIGHTED_USED` of the settings `s'` over the running machine `s` (R273). -/
def State.weightedUsed (s s' : State) : Nat := ((s'.busList ++ s.busList).dedup.map (s.busClaim s')).sum

/-- `BUS_STATUS` (R271). -/
def State.busStatus (s : State) (b : Nat) : Nat :=
  let x := s.bus b
  let recent (a : Option Nat) : Bool := match a with
    | some t => decide (s.now < t + 10000000)
    | none => false
  let ramping := x.gain.live || x.contribs.any fun c => c.2.ramp.live || c.2.old.isSome
  (if recent x.lateAt then 4 else 0) + (if recent x.satAt then 2 else 0) + (if ramping then 1 else 0)

/-- The computed subs of a bus. -/
def State.readBus (s : State) (b sub : Nat) : Nat :=
  match sub with
  | 7 => s.activeContribs b
  | 9 => s.busStatus b
  | _ => s.rd (0x3500 + b) sub

/-- The computed subs of 3829h (R273): the slack of the engine is measured by the second. [DESIGN CHOICE, log 11] -/
def State.read3829 (s : State) (sub : Nat) : Nat :=
  match sub with
  | 2 => s.busSettings.weightedUsed s.busSettings
  | 3 => (s.funcList.filter fun f => match f with
      | .bus _ => (match s.phase f with
        | .starting => true | .running => true | .draining => true | .ramping => true | _ => false)
      | _ => false).length
  | 5 => if s.now < 1000000000 then 1000 else Config.sensor (key 0x3829 5) (s.now / 1000000000) % 1001
  | _ => s.rd 0x3829 sub

/-! ## Meters -/

/-- The magnitude of a word. -/
def magnitude (w : Word) : Nat := w.toInt.natAbs

/-- The tag bits of a meter word that a sample sets (R278). -/
def seenBits (x : Sample) : Nat :=
  (if x.v then 0 else 0x80) + (if x.o then 0x40 else 0) + (if x.s then 0x20 else 0) + (if x.n then 0x10 else 0) +
    (if x.q then 8 else 0)

/-- A sample enters a meter (R275 to R277); `peak` is its magnitude or true peak. -/
def Meter.feed (m : Meter) (x : Sample) (peak : Nat) : Meter :=
  let m := { m with tags := m.tags ||| seenBits x }
  if x.v then { m with peak := max m.peak peak, sum := m.sum + magnitude x.w ^ 2, cnt := m.cnt + 1 } else m

/-- The coefficients of the two phases of the interpolator of ITU-R BS.1770-4, Annex 2, × 8192 (R276); the other two are these from the
last to the first. [PRESUMED, log 90] -/
def peakPhases : List (List Int) :=
  let a : List Int := [14, 90, -161, 272, -487, 1125, 7964, -838, 390, -218, 122, -68]
  let b : List Int := [-239, 240, -424, 730, -1364, 3810, 6388, -1641, 832, -477, 271, -155]
  [a, b, b.reverse, a.reverse]

/-- The true peak at the newest of the words `h`, newest first (R276): the largest of the four interpolated magnitudes. [DESIGN CHOICE, log 12] -/
def truePeak (h : List Word) : Nat :=
  (peakPhases.map fun l => (roundOpen ((((List.zipWith (fun (c : Int) (w : Word) => c * w.toInt) l h).sum : Int) : Rat) / 8192)).natAbs).foldl max 0

/-- A sample of a converter-facing sink enters its meter: the peak is the true peak over the last 12 words (R276); a sample with V=0
counts as 0 there (R277). -/
def Meter.feedTrue (m : Meter) (x : Sample) : Meter :=
  let h := ((if x.v then x.w else 0) :: m.hist).take 12
  { m.feed x (truePeak h) with hist := h }

/-- The end of a meter period (R275): `hold` is `HOLD_TIME` in ms, and `manual` says `HOLD_MODE` 01h. -/
def Meter.publish (m : Meter) (hold : Nat) (manual : Bool) : Meter :=
  let o := m.tags.testBit 6
  let age := m.age + 1
  let held := if m.held < m.peak then m.peak
    else if manual then m.held
    else if hold ≤ 10 * age then m.peak else m.held
  let fell := decide (held < m.held) || m.wasRead
  { m with peak := 0, sum := 0, cnt := 0, tags := 0, rms := ((m.sum, m.cnt) :: m.rms).take 30, now := m.peak,
           held := held, age := if m.held < m.peak || decide (held < m.held) then 0 else age,
           oHeld := if fell then o else m.oHeld || o, seen := m.tags, wasRead := false }

/-- A level of the mean square `num / den` of words as a CDB value; silence and levels below −160 dB read 8000h (R275). How a level
between two codes is rounded is open. [DESIGN CHOICE, log 12] -/
def levelOf (num den : Nat) : Nat :=
  if num * 10 ^ 16 < den * 2 ^ 54 ∨ num = 0 then 0x8000 else unsigned 2 (roundOpen (tenLog num (den * 2 ^ 54)))

/-- The meter word (R278). -/
def Meter.word (m : Meter) : Nat :=
  let sum := (m.rms.map (·.1)).sum
  let cnt := (m.rms.map (·.2)).sum
  levelOf (m.held ^ 2) 1 * 2 ^ 48 + (if cnt = 0 then 0x8000 else levelOf sum cnt) * 2 ^ 32 + levelOf (m.now ^ 2) 1 * 2 ^ 16 +
    (if m.oHeld then 0x100 else 0) + m.seen

/-- The point of a source meter, if it is one. -/
def meterSource (m : Nat) : Option Nat :=
  if 0x3910 ≤ m / 256 ∧ m / 256 ≤ 0x3920 ∧ 1 ≤ m % 256 then some ((m / 256 - 0x3910) * 128 + m % 256 - 1) else none

/-- The source points of a function (R197). -/
def funcPoints (f : Func) : List Nat :=
  match f with
  | .lane n => [0x600 + 2 * n, 0x601 + 2 * n]
  | .bus b => [0x700 + b]
  | .input n => [n - 1]
  | .sapRx p => (List.range 32).map (0x100 + 32 * p + ·)
  | .flowRx r => (List.range 16).map (0x300 + 16 * r + ·)
  | .play c => [0x500 + c]
  | .listen => [0x30, 0x31]
  | .reader r => [0x810 + r]
  | _ => []

/-- The meters of source points and taps take their samples at a tick of domain `d`: those of every function that is not
simply OFF (R274). -/
def State.tickMeters (s : State) (d : Nat) : State :=
  let pts := (s.funcList.flatMap fun f => (funcPoints f).filter fun p => s.srcDom p == d) ++
    (((List.range 16).filter fun g => s.rd (0x3440 + g) 1 == d && (s.gen g != .reset || g == 0)).map (0x800 + ·))
  let s := pts.foldl (fun s p =>
    let x := if s.foreignSrc p then s.inDomain p d else s.present p
    s.setMeter (srcMeter p) ((s.meter (srcMeter p)).feed x (magnitude x.w))) s
  s.funcList.foldl (fun s f =>
    match f with
    | .lane n =>
      if s.clusterDom (n / 16) = d then
        ((s.lane n).prog.filter fun b => b.ty == 8).foldl (fun s b =>
          let x := if (s.fn f).active then (s.lane n).taps.getD b.size .quiet else s.idle f
          s.setMeter (tapMeter n b.size) ((s.meter (tapMeter n b.size)).feed x (magnitude x.w))) s
      else s
    | _ => s) s

/-- The meters of domain `d` publish, and its next meter period begins. -/
def State.publishMeters (s : State) (d : Nat) : State :=
  let x := s.dom d
  let meters := s.meters.map fun x =>
    if s.meterDom x.1 = d then
      let m := if x.2.cnt = 0 ∧ x.2.tags = 0 then
          match meterSource x.1 with
          | some p => x.2.feed (s.present p) 0
          | none => x.2
        else x.2
      (x.1, m.publish (s.rd 0x3900 1) (s.rd 0x3900 2 == 1))
    else x
  { s.setDom d { x with meterAt := x.frame + 1 } with meters }

/-- Whether 10 ms of the ticks of domain `d` have passed since its last meter period ended (R275). -/
def State.meterDue (s : State) (d : Nat) : Bool :=
  let x := s.dom d
  x.running && !x.fresh && decide (x.rate / 100 ≤ (x.frame + 1 + 2 ^ 32 - x.meterAt) % 2 ^ 32)

/-- METER_PERIOD (R275): the meters of domain `d` publish at the end of 10 ms of its ticks. -/
def execMeterPeriod (t d : Nat) (s : State) : Host.Outcome State Fault Refusal :=
  let s := s.clock t
  .next (if s.meterDue d then s.publishMeters d else s)

/-- Whether lane `n`'s installed recipe contains tap `t` (R279). -/
def State.hasTap (s : State) (n t : Nat) : Bool := (s.lane n).prog.any fun b => b.ty == 8 && b.size == t

/-- A meter word as it reads (R279): a point whose function is OFF, and that no sample has reached, shows the tags of
silence. -/
def State.readMeter (s : State) (i sub : Nat) : Nat :=
  let m := key i sub
  if 0x3940 ≤ i then
    let k := sub - 1
    if s.hasTap ((i - 0x3940) * 32 + k / 4) (k % 4) then (s.meter m).word else Meter.fresh.word
  else match s.meters.find? fun x => x.1 == m with
    | some x => x.2.word
    | none => match meterSource m with
      | some p => if (s.dom (s.meterDom m)).running then ({ Meter.fresh with seen := seenBits (s.present p) }).word
                  else Meter.fresh.word
      | none => Meter.fresh.word

/-- What a read of a meter word leaves behind with `HOLD_MODE` 01h (R275). -/
def State.afterMeterRead (s : State) (i sub : Nat) : State :=
  if s.rd 0x3900 2 = 1 then
    let m := s.meter (key i sub)
    s.setMeter (key i sub) { m with held := m.now, wasRead := m.wasRead || decide (m.now < m.held) }
  else s

/-! ## The direct path -/

/-- The output function of a sink point that a link may join (R282). -/
def linkOutput (p : Nat) : Option Func :=
  if p ≤ 0x2F then some (.output (p + 1))
  else if p ≤ 0x33 then some (.hp ((p - 0x30) / 2 + 1))
  else if 0x40 ≤ p ∧ p ≤ 0x4F then some (.pwm (p - 0x40 + 1))
  else none

/-- The gain that link `l` comes to rest at (R283). -/
def State.linkGoal (s : State) (l : Nat) : Option Rat :=
  if s.rd (0x3450 + l) 6 = 1 then none else gainOf (s.rd (0x3450 + l) 5)

/-- Whether the settings of an enabled link are allowed (R286). -/
def State.linkOk (s : State) (l : Nat) : Bool :=
  let n := s.rd (0x3450 + l) 3
  let p := s.rd (0x3450 + l) 4
  if !s.wants (.link l) then true
  else
    n != 0 && (linkOutput p).isSome && !(decide (p ≤ 0x2F) && s.rd (0x3101 + p / 2 * 2) 2 == 1) &&
      (s.domSyn (s.inDom n) == s.domSyn (s.sinkDom p)) &&
      (List.range 16).all fun m => m == l || !s.wants (.link m) || s.rd (0x3450 + m) 4 != p

/-- Whether the input of link `l` is RUNNING and in no cycle (R284). -/
def State.linkInput (s : State) (l : Nat) : Bool :=
  let n := (s.dlink l).input
  s.phase (.input n) == .running && (s.inp n).selCyc == .idle && (s.inp n).phCyc == .idle

/-- The conditions of R287 for a link's start. -/
def State.linkReady (s : State) (l : Nat) : Bool :=
  Mode.runs s.ms.mode && s.phase (.input (s.rd (0x3450 + l) 3)) == .running &&
    (match linkOutput (s.rd (0x3450 + l) 4) with
     | some f => s.phase f == .running
     | none => false)

/-- Link `l` starts and ramps in from mute (R287); with MODE 01h the routed signal ramps out (R285). -/
def State.startLink (s : State) (l : Nat) : State :=
  let len := s.framp (.link l)
  let n := s.rd (0x3450 + l) 3
  let p := s.rd (0x3450 + l) 4
  let replace := s.rd (0x3450 + l) 8 == 1
  let s := s.setLink l
    { LinkState.none with gain := (Ramp.rest none).to (s.linkGoal l) len, silent := false, range := (s.inp n).range, input := n,
                          sink := p, replace := replace,
                          routed := if replace then (Ramp.rest (some 0)).to none len else .rest (some 0) }
  s.setFn (.link l) ((s.fn (.link l)).begin (s.sinkDom p) 0 len)

/-- Link `l` ramps out, and the routed signal back in (R285, R287). -/
def State.rampLink (s : State) (l : Nat) : State :=
  let len := s.framp (.link l)
  let x := s.dlink l
  s.setLink l { x with gain := x.gain.to none len, routed := x.routed.to (some 0) len }

/-- A change of a running link's gain or mute (R283). -/
def State.applyLink (s : State) (l : Nat) (subs : List Nat) : State :=
  let x := s.dlink l
  if (s.fn (.link l)).active && !x.silent && (subs.contains 5 || subs.contains 6) && x.gain.g1 != s.linkGoal l then
    s.setLink l { x with gain := x.gain.to (s.linkGoal l) (s.framp (.link l)) }
  else s

/-- The silence of a link, or its return, by what its input does (R284). An input in FAULT or OFF silences it at once, whatever the link
does. -/
def State.linkEvents (s : State) (l : Nat) : State :=
  let x := s.dlink l
  let f := s.fn (.link l)
  let len := s.framp (.link l)
  let runs := f.phase == .running || f.phase == .starting
  if s.phase (.input x.input) = .fault ∨ s.phase (.input x.input) = .off then
    s.setLink l { x with silent := true, gain := .rest none,
                         routed := if x.replace && !x.silent && runs then x.routed.to (some 0) len else x.routed }
  else if !runs then s
  else if !s.linkInput l && !x.silent then
    s.setLink l { x with silent := true, gain := x.gain.to none len,
                         routed := if x.replace then x.routed.to (some 0) len else x.routed }
  else if s.linkInput l && x.silent then
    s.setLink l { x with silent := false, gain := x.gain.to (s.linkGoal l) len,
                         routed := if x.replace then x.routed.to none len else x.routed }
  else s

/-- One sample of a link (R283, R284): the combiner's word `w` at the gain and the compensation, held to full scale; through a range
crossing the sample before it. -/
def LinkState.sample (x : LinkState) (w : Word) : LinkState :=
  let u := mulGain (x.gain.gain.map fun q => q - (x.range : Rat)) w.toInt
  let v := if fsWord < u then fsWord else if u < -fsWord then -fsWord else u
  let r : Int × Bool := if 0 < x.holdLeft then (x.val, false) else (v, u != v)
  { x with gain := x.gain.step, routed := x.routed.step, holdLeft := x.holdLeft - 1, val := r.1,
           outs := x.outs ++ [(r.1, x.routed.gain, r.2)] }

/-- One tick of link `l`: the link samples of the period (R282 to R285). In an overload of the input they are the combiner's clamped
value; a step of the range holds the output for 8 samples of the input. A link moves on whole ticks. [DESIGN CHOICE, log 16] -/
def State.tickLink (s : State) (conv : List InConv) (l : Nat) : State :=
  let f := s.fn (.link l)
  if !f.active then s
  else
    let s := s.linkEvents l
    let x := s.dlink l
    let y := s.inp x.input
    let fs := s.rate f.dom
    let k := 8 * baseRate fs / fs
    let x := { x with outs := [], range := y.range,
                      holdLeft := if y.range = x.range then x.holdLeft
                        else 64 * baseRate (s.rate (s.inDom x.input)) / s.rate (s.inDom x.input) }
    let comb := (convOf conv x.input).comb
    let top : Int := 2 ^ 27 - 1
    let word (j : Nat) : Word := if y.ovl then BitVec.ofInt 32 (if y.neg then -top else top) else comb.getD j 0
    let s := s.setLink l ((List.range k).foldl (fun x j => x.sample (word j)) x)
    s.setFn (.link l) ((List.range k).foldl (fun (y : FuncState) _ => y.frame) f)

/-- The links that join sink `p`. -/
def State.linksAt (s : State) (p : Nat) : List LinkState := (s.links.map (·.2)).filter fun x => x.sink == p

/-- The routed signal `v` of sink `p` with its links, at link sample `j` of the period, and whether a link was clamped there (R283,
R285). -/
def State.joinLinks (s : State) (p j : Nat) (v : Int) : Int × Bool :=
  (s.linksAt p).foldl (fun v x =>
    let y := x.outs.getD j (0, x.routed.cur, false)
    (mulGain y.2.1 v.1 + y.1, v.2 || y.2.2)) (v, false)

/-! ## External delay lines -/

/-- MAX_MS of a line's configuration (R295). -/
def lineMax (c : Nat) : Nat := bits c 22 12
/-- PACKING of a line's configuration (R295). -/
def linePacking (c : Nat) : Nat := bits c 29 28
/-- The bytes that a sample takes in a packing (R193). -/
def packBytes (p : Nat) : Nat := if p = 0 then 3 else 4

/-- `DL_DELAY` of line `d` (R295). -/
def State.lineDelay (s : State) (d : Nat) : Nat := s.rd (0x3B23 + d / 128) (d % 128 + 1)

/-- The pages that a line with configuration `c` needs at rate `fs` (R291). -/
def linePages (c fs : Nat) : Nat := ((lineMax c * fs * packBytes (linePacking c) + 999) / 1000 + 1048575) / 1048576

/-- Whether the settings of an enabled line are allowed (R291). -/
def State.lineOk (s : State) (d : Nat) : Bool :=
  let c := s.lineCfg d
  let p := c % 0x1000
  let fs := s.confRate (s.sinkDom p)
  if !s.wants (.delayLine d) then true
  else
    sinkPresent p && decide (32 ≤ s.lineDelay d) && decide (s.lineDelay d * 1000 ≤ lineMax c * fs) &&
      (List.range 256).all fun e => e == d || !s.wants (.delayLine e) || s.lineCfg e % 0x1000 != p

/-- Line `d` starts: it waits for its first written sample to emerge (R293). A sink that it has left still ramps in. -/
def State.startLine (s : State) (d : Nat) : State :=
  let c := s.lineCfg d
  let p := c % 0x1000
  let o := s.line d
  let x : DelayLine :=
    { DelayLine.none with d := s.lineDelay d, old := s.lineDelay d, sink := p, pages := linePages c (s.confRate (s.sinkDom p)),
                          left := if o.left = p then 0xFFF else o.left, after := if o.left = p then .rest (some 0) else o.after }
  (s.setLine d x).setFn (.delayLine d) ((s.fn (.delayLine d)).begin (s.sinkDom p) (s.lineDelay d) (s.framp (.delayLine d)))

/-- A change of `DL_DELAY` on a running line (R292). A line whose first written sample has not emerged waits for it anew. -/
def State.applyLine (s : State) (d : Nat) : State :=
  let x := s.line d
  let f := s.fn (.delayLine d)
  if x.d = s.lineDelay d then s
  else if f.phase = .starting ∧ 0 < f.wait then
    (s.setLine d { x with d := s.lineDelay d, old := s.lineDelay d }).setFn (.delayLine d) { f with wait := s.lineDelay d - x.written }
  else if f.phase = .running ∨ f.phase = .starting then s.setLine d { x with d := s.lineDelay d, old := x.d, xf := 0 }
  else s

/-- Line `d` has stopped: its pages are released, and its sink ramps in undelayed (R293). -/
def State.restLine (s : State) (d : Nat) : State :=
  s.setLine d { DelayLine.none with left := (s.line d).sink, after := (Ramp.rest none).to (some 0) (s.framp (.delayLine d)) }

/-- Line `d` is cut off without a ramp: it holds nothing but its pages. -/
def State.cutLine (s : State) (d : Nat) : State :=
  let x := s.line d
  s.setLine d { DelayLine.none with sink := x.sink, pages := x.pages }

/-- One tick of line `d` (R290 to R293); `late` says that its read missed the on-chip buffer (R500). -/
def State.tickLine (s : State) (late : List Nat) (d : Nat) : State :=
  let f := s.fn (.delayLine d)
  let x := s.line d
  match f.phase with
  | .off => s
  | .quiesced => s
  | .fault => s.setSink x.sink .off
  | _ =>
    let c := s.lineCfg d
    let y := unpack (linePacking c) (pack (linePacking c) (s.routerOut x.sink)).1
    let buf := (y :: x.buf).take (max x.d x.old + lineMax c * s.rate f.dom / 1000 + 1)
    let tap (k : Nat) : Sample := buf.getD k .quiet
    let out := if x.xf < 64 then mixSamples x.xf 64 (tap x.old) (tap x.d) else tap x.d
    let out := if f.active && f.fading then { out.times f.fade.gain with q := true } else out
    let out := if late.contains d then { Sample.off with s := true, q := false } else out
    let s := (s.setSink x.sink out).setLine d { x with buf := buf, xf := min 64 (x.xf + 1), written := x.written + 1 }
    let s := if late.contains d then (s.bump 0x3B00 9).event 0xC1 0x3B00 else s
    s.setFn (.delayLine d) f.frame

/-- The undelayed signal of the sinks of domain `d` that a line has left ramps in (R293). -/
def State.tickLeft (s : State) (d : Nat) : State :=
  s.lines.foldl (fun s e =>
    let x := e.2
    if x.after.live && s.sinkDom x.left == d then
      let s := s.setSink x.left { (s.routerOut x.left).times x.after.gain with q := true }
      let after := x.after.step
      s.setLine e.1 (if after.live then { s.line e.1 with after := after } else { s.line e.1 with after := .rest (some 0), left := 0xFFF })
    else s) s

/-- Line `d` enters FAULT (R294). -/
def State.faultLine (s : State) (d : Nat) : State :=
  (((s.cutLine d).faultFn (.delayLine d)).bump 0x3B20 4).event 0xC3 0x3B20

/-- The pages that line `d` claims: those of its settings while it is enabled, and those it still has while it stops
(R293, R499). -/
def State.lineClaim (s : State) (d : Nat) : Nat :=
  if s.wants (.delayLine d) then linePages (s.lineCfg d) (s.confRate (s.sinkDom (s.lineCfg d % 0x1000)))
  else (s.line d).pages

/-- The pages that the lines hold. -/
def State.linesHeld (s : State) : Nat := ((List.range 256).map s.lineClaim).sum

/-- The lines of 3B20h's counts (R295). -/
def State.read3B20 (s : State) (sub : Nat) : Nat :=
  match sub with
  | 2 => (s.funcList.filter fun f => match f with
      | .delayLine _ => (match s.phase f with
        | .starting => true | .running => true | .draining => true | .ramping => true | _ => false)
      | _ => false).length
  | 3 => s.linesHeld
  | _ => s.rd 0x3B20 sub

end Sys2Proof.Machine
end

