-- ==== Sys2Proof/Machine/Outputs.lean ====
section
/-!
DEFINITION. Line, control-voltage, headphone and PWM outputs (10_outputs.md, R296 to R334): the sample each of them
converts at a tick, their starts and stops, the control-voltage codes, the biases, the jacks, the current limits and the
safe states.
-/

set_option autoImplicit false

namespace Sys2Proof.Machine

/-! ## Settings -/

/-- The first index of the pair of output `n`, where its pair settings are kept (R297). -/
def pairIndex (n : Nat) : Nat := 0x3101 + (n - 1) / 2 * 2

/-- The key under which a pair setting of a line output is kept (R297); every other key is its own. -/
def pairKey (k : Nat) : Nat :=
  let i := k / 256
  let sub := k % 256
  if 0x3101 ≤ i ∧ i ≤ 0x3130 ∧ (sub = 2 ∨ sub = 0x12 ∨ sub = 0x13) then key (pairIndex (i - 0x3100)) sub else k

/-- `OUT_MODE` of output `n` by the settings. -/
def State.outMode (s : State) (n : Nat) : Nat := s.rd (pairIndex n) 2

/-- The gain that a trim and mute ask for. -/
def trimGoal (mute trim : Nat) : Option Rat := if mute = 1 then none else gainOf trim

/-- The gain that output `n` comes to rest at (R305). -/
def State.outGoal (s : State) (n : Nat) : Option Rat := trimGoal (s.rd (0x3100 + n) 7) (s.rd (0x3100 + n) 6)

/-- Full scale of a code of R300 in 0.01 dBu. -/
def fullScale (c : Nat) : Int := match c with
  | 0 => 2000 | 1 => 1400 | 2 => 800 | _ => 200

/-- The analog limit of a line output in 0.01 dBu (R301): the table, and between its entries the sine whose peak is the swing
AVDD_HV − 1.0 V; 0 dBu is the square root of 0.6 V. Below 9.0 V the rule specifies no figure. [DESIGN CHOICE, log 13] -/
def lineLimit (v : Rat) : Int :=
  if 12 ≤ v then 2000
  else if v = 57 / 5 then 1950 else if v = 54 / 5 then 1900 else if v = 51 / 5 then 1850 else if v = 48 / 5 then 1790
  else if v = 9 then 1730
  else if v < 9 then Config.outputLimit v
  else
    let q : Rat := 5 * (v - 1) * (v - 1) / 6
    min 2000 (roundOpen (tenLog q.num.natAbs q.den))

/-- The clip level in 0.01 dBu of a full scale (R301); before AVDD_HV has been measured, the full scale. -/
def State.clipLevel (s : State) (scale : Nat) : Int :=
  match s.avddHv with
  | some v => min (fullScale scale) (lineLimit v)
  | none => fullScale scale

/-- A value held to ± a level, and whether it was. -/
def clampTo (top v : Int) : Int × Bool := if top < v then (top, true) else if v < -top then (-top, true) else (v, false)

/-- The group delay of an interpolation filter in samples (R303). -/
def outDelay (f : Nat) : Nat := if f = 0 then 32 else 3

/-- What an interpolation filter gives for its last words at instant `j` of the `k` of a period; silence stays silence. -/
def interpolated (f k j : Nat) (h : List Word) : Int := if h.all (· == 0) then 0 else Config.interpolate f k j h

/-- The values that a converter takes in one sample period at rate `fs`: 8 in a base-rate period, the rate of the direct path (R282). -/
def convCount (fs : Nat) : Nat := 8 * baseRate fs / fs

/-- The words that an interpolation filter holds, with a new one. -/
def history (f : Nat) (w : Word) (h : List Word) : List Word := (w :: h).take (2 * outDelay f + 1)

/-! ## Supervision of the driver -/

/-- Whether the outputs' functions run in the present mode (R299), and nothing holds their start (R85). -/
def State.outputsRun (s : State) : Bool :=
  Mode.drives s.ms.mode && !s.onHold && (match s.ms.trans with
    | .leave _ => false
    | _ => true)

/-- The common mode of output `n` (R313). -/
def State.commonMode (s : State) (n : Nat) : BiasSt := if n ≤ 24 then s.outs.cmA else s.outs.cmB

/-- The conditions of R305 and R310 for a start of output `n`. -/
def State.outputReady (s : State) (n : Nat) : Bool :=
  s.outputsRun && s.pdOn (Func.output n).pdom && (s.dom (s.outDom n)).running && (s.out n).switchAt.isNone &&
    !(s.out n).switching && !(s.out n).limit.tripped && (s.outMode n != 0 || (s.commonMode n).st == 2)

/-- The code that a control-voltage channel holds while it does not run (R309). [DEDUCED, log 58] -/
def State.heldCode (s : State) (n : Nat) : Option Nat :=
  if s.rd (pairIndex n) 0x13 = 1 then some (s.rd (pairIndex n) 0x12) else (s.out n).code

/-- The updates of a fade (R308): `CV_FADE` ms at one update in six base-rate samples. -/
def State.cvSteps (s : State) (n : Nat) : Nat := rampLen (s.rd (0x3100 + n) 0x11) (baseRate (s.rate (s.outDom n)) / 6)

/-- The frame in which a fade of output `n` begins; its first update comes at a later tick (R308). [DEDUCED, log 58] -/
def State.cvFrame (s : State) (n : Nat) : Option Nat :=
  let d := s.dom (s.outDom n)
  if d.fresh then none else some d.frame

/-- Output `n` starts (R305, R310). -/
def State.startOutput (s : State) (n : Nat) : State :=
  let i := 0x3100 + n
  let x := { s.out n with mode := s.outMode n, scale := s.rd i 4, filter := s.rd i 5, hist := [], conv := [] }
  if s.outMode n = 0 then
    let len := s.framp (.output n)
    let s := s.setOut n { x with gain := (Ramp.rest none).to (s.outGoal n) len }
    s.setFn (.output n) ((s.fn (.output n)).begin (s.outDom n) 0 len)
  else
    let j := s.cvSteps n
    let s := s.setOut n { x with cvFrom := (s.heldCode n).getD 0, cvTo := s.rd i 0x10, cvJ := 0, cvLen := j,
                                 cvSrc := s.rd i 0x0F, fading := decide (0 < j), cvHold := s.cvFrame n }
    s.setFn (.output n) ((s.fn (.output n)).begin (s.outDom n) 0 j)

/-- The stop ramp of output `n`. -/
def State.rampOutput (s : State) (n : Nat) : State :=
  if (s.out n).mode = 0 then s.setOut n { s.out n with gain := (s.out n).gain.to none (s.framp (.output n)) } else s

/-- The two channels of the pair of output `n`. -/
def pairOuts (n : Nat) : List Nat := [2 * ((n - 1) / 2) + 1, 2 * ((n - 1) / 2) + 2]

/-- The architecture of a pair switches once both its channels have stopped (R298): high-impedance for 1 ms, and the codes held are
discarded. -/
def State.openSwitch (s : State) (n : Nat) : State :=
  if (s.out n).switching && (pairOuts n).all (fun m => !s.busyFn (.output m)) then
    (pairOuts n).foldl (fun s m =>
      s.setOut m { s.out m with switching := false, switchAt := some (s.now + 1000000), mode := s.outMode m, code := none }) s
  else s

/-- Output `n` has stopped: it converts nothing. -/
def State.restOutput (s : State) (n : Nat) : State :=
  (s.setOut n { s.out n with gain := .rest none, hist := [], conv := [], fading := false }).openSwitch n

/-- Output `n` is disabled under R35 to R41. -/
def State.stopOutput (s : State) (n : Nat) : State :=
  if s.phase (.output n) = .starting then (s.stopFn (.output n)).rampOutput n
  else if s.phase (.output n) = .running then s.stopFn (.output n) else s

/-- A pair's mode changes (R298): its channels are disabled, and the architecture switches once they have stopped. -/
def State.beginModeSwitch (s : State) (n : Nat) : State :=
  ((pairOuts n).foldl (fun s m => (s.setOut m { s.out m with switching := true }).stopOutput m) s).openSwitch n

/-- Output `n` starts if it is stopped, enabled and ready. -/
def State.outputOn (s : State) (n : Nat) : State :=
  if (s.phase (.output n) == .off || s.phase (.output n) == .quiesced) && s.wants (.output n) && s.outputReady n then s.startOutput n
  else s

/-- OUT_MODE_SWITCH (R298): the high-impedance time ends, and the channels that may start do. -/
def execOutModeSwitch (t pair : Nat) (s : State) : Host.Outcome State Fault Refusal :=
  let s := s.clock t
  .next ([2 * pair + 1, 2 * pair + 2].foldl (fun s m =>
    let x := s.out m
    match x.switchAt with
    | some a => if a ≤ s.now then (s.setOut m { x with switchAt := none }).outputOn m else s
    | none => s) s)

/-- What a commit that has written the subs `subs` of output `n` does (R298, R305, R308). -/
def State.applyOutput (s : State) (n : Nat) (subs : List Nat) : State :=
  let i := 0x3100 + n
  let x := s.out n
  let s := if subs.contains 2 && x.mode != s.outMode n && !x.switching then s.beginModeSwitch n else s
  if !(s.fn (.output n)).active then s
  else if x.mode = 0 then
    if (subs.contains 6 || subs.contains 7) && x.gain.g1 != s.outGoal n then
      s.setOut n { x with gain := x.gain.to (s.outGoal n) (s.framp (.output n)) }
    else s
  else if x.cvSrc != s.rd i 0x0F || (s.rd i 0x0F == 1 && x.cvTo != s.rd i 0x10) then
    let j := s.cvSteps n
    s.setOut n { x with cvFrom := x.code.getD 0, cvTo := s.rd i 0x10, cvJ := 0, cvLen := j, cvSrc := s.rd i 0x0F,
                        fading := decide (0 < j), cvHold := s.cvFrame n }
  else s

/-! ## The samples of an output -/

/-- A clamped value sets CLIPPED, and its event is counted once for each run less than 1 ms apart (R302). -/
def State.clipEvent (s : State) (last : Option Nat) (code idx : Nat) : State :=
  match last with
  | some a => if s.now < a + 1000000 then s else s.event code idx
  | none => s.event code idx

/-- The clamp level of a line output as a value (R301, R302). -/
def State.clampLevel (s : State) (x : OutCh) : Int :=
  let d := s.clipLevel x.scale - fullScale x.scale
  if d = 0 then fsWord else mulGain (some d) fsWord

/-- The ramp that a takeover or a release puts on every output of a pair's member in IVORY (R414, R415). -/
def State.pairRamp (s : State) : Ramp :=
  if s.rd 0x4100 1 = 1 ∧ s.ms.mode = .ivory then s.pair.ramp else .rest (some 0)

/-- Two gains in a row. -/
def addGain (a b : Option Rat) : Option Rat :=
  match a, b with
  | some x, some y => some (x + y)
  | _, _ => none

/-- The gain of an output's sample with the ramp of its pair. -/
def State.outGain (s : State) (r : Ramp) : Option Rat := addGain r.gain s.pairRamp.gain

/-- Whether a meter's sample carries Q for a ramp or a mute of its output (R305, R414). -/
def State.outQ (s : State) (r : Ramp) : Bool :=
  r.live || r.g1.isNone || s.pairRamp.live || s.pairRamp.g1.isNone

/-- The `k` values that the converter of sink point `p` takes in a period (R282, R285, R302): the words `h` through filter `f`, joined by
the direct links, at the gain `g`, each clamped at `top`; and whether one was clamped, here or in a link (R283). The gain acts on the
sum. [DESIGN CHOICE, log 16] -/
def State.converted (s : State) (p f k : Nat) (top : Int) (g : Option Rat) (h : List Word) : List Int × Bool :=
  let l := (List.range k).map fun j =>
    let u := s.joinLinks p j (interpolated f k j h)
    let r := clampTo top (mulGain g u.1)
    (r.1, r.2 || u.2)
  (l.map (·.1), l.any (·.2))

/-- One tick of an audio output (R302, R305, R285). -/
def State.tickAudio (s : State) (n : Nat) : State :=
  let f := s.fn (.output n)
  let x := s.out n
  let y := s.delivered (n - 1)
  let h := history x.filter y.w x.hist
  let r := s.converted (n - 1) x.filter (convCount (s.rate f.dom)) (s.clampLevel x) (s.outGain x.gain) h
  let s := if r.2 then s.clipEvent x.clipAt 0x50 (0x3100 + n) else s
  let s := s.setOut n { x with hist := h, conv := r.1, gain := x.gain.step,
                               clipAt := if r.2 then some s.now else x.clipAt }
  let s := s.setMeter (sinkMeter (n - 1)) ((s.meter (sinkMeter (n - 1))).feedTrue
    { y with w := BitVec.ofInt 32 (r.1.getLastD 0), q := y.q || s.outQ x.gain })
  s.setFn (.output n) f.frame

/-- Ticks between two updates of the grid at rate `fs` (R307). -/
def gridStep (fs : Nat) : Nat := 6 * (fs / baseRate fs)

/-- The code of a value (R307). -/
def cvCode (w : Word) : Nat :=
  let x := max 0 (min fsWord w.toInt)
  ((x * 65535 * 2 + fsWord) / (2 * fsWord)).toNat

/-- Update `j` of `J` of a fade (R308), rounded to nearest with ties away from zero. -/
def fadeCode (c0 c1 j k : Nat) : Nat :=
  if k ≤ j then c1
  else if c0 ≤ c1 then c0 + ((c1 - c0) * j * 2 + k) / (2 * k) else c0 - ((c0 - c1) * j * 2 + k) / (2 * k)

/-- One update of a control-voltage channel (R307, R308). -/
def State.updateCv (s : State) (n : Nat) : State :=
  let f := s.fn (.output n)
  let x := s.out n
  let y := s.delivered (n - 1)
  let j := x.cvJ + 1
  let held := x.cvSrc = 0 ∧ !y.v
  let goal := if x.cvSrc = 1 then x.cvTo else cvCode y.w
  let code := if held then x.code else some (if x.fading then fadeCode x.cvFrom goal j x.cvLen else goal)
  let s := s.setOut n { x with code := code, cvJ := if x.fading then j else x.cvJ,
                               fading := x.fading && decide (j < x.cvLen) }
  s.setFn (.output n) f.frame

/-- One tick of output `n` in its domain. Its meter takes what the channel converts (R274): with `CV_SOURCE` 01h the code in force. -/
def State.tickOutput (s : State) (n : Nat) : State :=
  let f := s.fn (.output n)
  if !f.active then s.setFn (.output n) f.frame
  else if (s.out n).mode = 0 then s.tickAudio n
  else
    let d := s.dom f.dom
    let s := if d.frame % gridStep d.rate = 0 ∧ (s.out n).cvHold ≠ some d.frame then s.updateCv n else s
    let s := s.setOut n { s.out n with cvHold := none }
    let x := s.out n
    let y := if x.cvSrc = 1 then { Sample.quiet with w := BitVec.ofInt 32 (roundOpen ((x.code.getD 0 : Nat) * (fsWord : Rat) / 65535)), q := false }
      else s.delivered (n - 1)
    s.setMeter (sinkMeter (n - 1)) ((s.meter (sinkMeter (n - 1))).feedTrue y)

/-! ## Common mode and bias -/

/-- The state with the common mode of a bank. -/
def State.setCm (s : State) (bank : Nat) (x : BiasSt) : State :=
  if bank = 0 then { s with outs := { s.outs with cmA := x } } else { s with outs := { s.outs with cmB := x } }

/-- The common mode of a bank. -/
def State.cm (s : State) (bank : Nat) : BiasSt := if bank = 0 then s.outs.cmA else s.outs.cmB

/-- The clamp switches to AGND of a bank's line balls open or close (R312). -/
def State.setAgnd (s : State) (bank : Nat) (closed : Bool) : State :=
  if bank = 0 then { s with outs := { s.outs with agndA := closed } } else { s with outs := { s.outs with agndB := closed } }

/-- PD_AOUT_A or PD_AOUT_B has reached power-good: its common mode rises, and the clamps to AGND open (R312, R313). -/
def State.cmRise (s : State) (bank : Nat) : State :=
  if (s.cm bank).st = 2 then s else (s.setCm bank { st := 1, at_ := s.now }).setAgnd bank false

/-- PD_AOUT_A or PD_AOUT_B is switched off: outside CRIMSON its common mode falls (R313, R314). -/
def State.cmFall (s : State) (bank : Nat) : State :=
  if s.ms.mode = .crimson ∨ (s.cm bank).st = 0 then s else s.setCm bank { st := 3, at_ := s.now }

/-- The bias of the headphones rises (R315). -/
def State.biasRise (s : State) : State :=
  if s.outs.hpBias.st = 2 then s else { s with outs := { s.outs with hpBias := { st := 1, at_ := s.now }, agndHp := false } }

/-- The bias of the headphones falls (R315). -/
def State.biasFall (s : State) : State :=
  if s.ms.mode = .crimson ∨ s.outs.hpBias.st = 0 then s
  else { s with outs := { s.outs with hpBias := { st := 3, at_ := s.now } } }

/-- AVDD_HV has collapsed (R94, R312, R316): the clamps to AGND close as the rail falls and take the line and headphone balls, and
no control-voltage channel can hold a code. -/
def State.loseAvddHv (s : State) : State :=
  let off (x : BiasSt) : BiasSt := if x.st = 0 then x else { st := 0, at_ := s.now }
  let s := { s with outs := { s.outs with cmA := off s.outs.cmA, cmB := off s.outs.cmB, hpBias := off s.outs.hpBias,
                                          agndA := true, agndB := true, agndHp := true } }
  (List.range 48).foldl (fun s j => s.setOut (j + 1) { s.out (j + 1) with code := none }) s

/-- CM_FALL_END (R313). -/
def execCmFallEnd (t bank : Nat) (s : State) : Host.Outcome State Fault Refusal :=
  let s := s.clock t
  if bank < 2 ∧ (s.cm bank).st = 3 ∧ (s.cm bank).at_ + 100000000 ≤ s.now then
    .next ((s.setCm bank { st := 0, at_ := s.now }).setAgnd bank true)
  else .next s

/-- HP_BIAS_FALL_END (R315). -/
def execHpBiasFallEnd (t : Nat) (s : State) : Host.Outcome State Fault Refusal :=
  let s := s.clock t
  if s.outs.hpBias.st = 3 ∧ s.outs.hpBias.at_ + 250000000 ≤ s.now then
    .next { s with outs := { s.outs with hpBias := { st := 0, at_ := s.now }, agndHp := true } }
  else .next s

/-! ## Headphones -/

/-- The gain that headphone `h` comes to rest at. -/
def State.hpGoal (s : State) (h : Nat) : Option Rat := trimGoal (s.rd (0x3200 + h) 6) (s.rd (0x3200 + h) 5)

/-- Whether the jack lets headphone `h` run (R326). -/
def State.jackOk (s : State) (h : Nat) : Bool :=
  s.rd (0x3200 + h) 8 == 0 || (decide (3 ≤ (s.hp h).jack) && decide ((s.hp h).jack ≤ 5))

/-- Whether talkback runs (R91). -/
def State.talking (s : State) : Bool := s.ms.mode == .amber && s.outs.talkback

/-- The conditions for a start of headphone `h`: those of an output, its bias, its jack and its limits; in AMBER HP1 runs
for talkback (R91). -/
def State.hpReady (s : State) (h : Nat) : Bool :=
  s.pdOn 9 && s.outs.hpBias.st == 2 && s.jackOk h && !(s.hp h).limitL.tripped && !(s.hp h).limitR.tripped &&
    ((s.outputsRun && (s.dom s.hpwmDom).running) || (h == 1 && s.talking))

/-- Headphone `h` starts. Talkback has its own gain: `TRIM` and `MUTE` take no part in it (R91). [DEDUCED, log 43] -/
def State.startHp (s : State) (h : Nat) : State :=
  let len := s.framp (.hp h)
  let goal : Option Rat := if s.talking then some 0 else s.hpGoal h
  let s := s.setHp h { s.hp h with gain := (Ramp.rest none).to goal len, range := s.rd (0x3200 + h) 3,
                                   filter := s.rd (0x3200 + h) 4, rangeCyc := .idle, histL := [], histR := [] }
  s.setFn (.hp h) ((s.fn (.hp h)).begin (if s.talking then 3 else s.hpwmDom) 0 len)

/-- The stop ramp of headphone `h`. -/
def State.rampHp (s : State) (h : Nat) : State :=
  s.setHp h { s.hp h with gain := (s.hp h).gain.to none (s.framp (.hp h)), rangeCyc := .idle }

/-- Headphone `h` is muted. -/
def State.restHp (s : State) (h : Nat) : State :=
  s.setHp h { s.hp h with gain := .rest none, rangeCyc := .idle, histL := [], histR := [], convL := [], convR := [] }

/-- Headphone `h` reads QUIESCED at once, its mute switches closed (R326). -/
def State.muteHp (s : State) (h : Nat) : State :=
  let f := s.fn (.hp h)
  let s := s.restHp h
  match f.phase with
  | .off => s
  | .fault => s
  | _ => s.setFn (.hp h) { f with phase := .quiesced, startPending := false, fade := .rest none }

/-- The clamp level of a headphone of `HP_RANGE` `range` (R322): 2.2 + 0.3 (AVDD_HV − 9.0 V) Vrms against a full scale of 2.5 Vrms less
6 dB for each step of the range. -/
def State.hpClamp (s : State) (range : Nat) : Int :=
  match s.avddHv with
  | some v =>
    if v < 10 then
      max 0 (min fsWord (roundOpen ((11 / 5 + 3 / 10 * (v - 9)) / (5 / 2) * tenPow (3 * range / 10) * (fsWord : Rat))))
    else fsWord
  | none => fsWord

/-- The next step of a change of `HP_RANGE` (R323). -/
def State.hpRangeStep (s : State) (h : Nat) (x : HpCh) : HpCh :=
  match x.rangeCyc with
  | .out => if x.gain.live then x
            else { x with range := s.rd (0x3200 + h) 3, rangeCyc := .back, gain := x.gain.to (s.hpGoal h) (s.framp (.hp h)) }
  | .back => if x.gain.live then x else { x with rangeCyc := .idle }
  | _ => x

/-- One sample period of headphone `h` with the samples `yl` and `yr`, of `k` conversions (R302, R323, R325). -/
def State.hpFrame (s : State) (h k : Nat) (yl yr : Sample) : State :=
  let x := s.hp h
  let p := 0x30 + 2 * (h - 1)
  let hl := history x.filter yl.w x.histL
  let hr := history x.filter yr.w x.histR
  let top := s.hpClamp x.range
  let g := s.outGain x.gain
  let mono := x.jack = 4
  let rr := if mono then ((List.range k).map fun _ => (0 : Int), false) else s.converted (p + 1) x.filter k top g hr
  let rl :=
    if mono ∧ s.rd (0x3200 + h) 0x0A = 1 then
      let l := (List.range k).map fun j =>
        let a := s.joinLinks p j (interpolated x.filter k j hl)
        let b := s.joinLinks (p + 1) j (interpolated x.filter k j hr)
        let r := clampTo top (mulGain g (roundOpen (((a.1 + b.1 : Int) : Rat) / 2)))
        (r.1, r.2 || a.2 || b.2)
      (l.map (·.1), l.any (·.2))
    else s.converted p x.filter k top g hl
  let clip := rl.2 || rr.2
  let s := if clip then s.clipEvent x.clipAt 0x50 (0x3200 + h) else s
  let s := s.setHp h (s.hpRangeStep h
    { x with histL := hl, histR := hr, convL := rl.1, convR := rr.1, gain := x.gain.step,
             clipAt := if clip then some s.now else x.clipAt })
  let q := s.outQ x.gain
  let s := s.setMeter (sinkMeter p) ((s.meter (sinkMeter p)).feedTrue
    { yl with w := BitVec.ofInt 32 (rl.1.getLastD 0), q := yl.q || q })
  let s := s.setMeter (sinkMeter (p + 1)) ((s.meter (sinkMeter (p + 1))).feedTrue
    { yr with w := BitVec.ofInt 32 (rr.1.getLastD 0), q := yr.q || q })
  s.setFn (.hp h) (s.fn (.hp h)).frame

/-- One tick of headphone `h`. -/
def State.tickHp (s : State) (h : Nat) : State :=
  let f := s.fn (.hp h)
  if !f.active then s.setFn (.hp h) f.frame
  else s.hpFrame h (convCount (s.rate f.dom)) (s.delivered (0x30 + 2 * (h - 1))) (s.delivered (0x31 + 2 * (h - 1)))

/-- What talkback gives HP1 for a conversion of IN1 or IN2 (R91): the code of the fixed range of +30 dB at `TALKBACK_GAIN`, held to full
scale and to 16 bits; nothing until the reference of the inputs has settled. [DEDUCED, log 43] -/
def State.talkSample (s : State) (c : InConv) : Sample :=
  let r := s.refGroup 0
  if r.settled && !r.fault then
    let g := (gainOf (s.rd 0x2000 0x0C)).map fun q => q - 3000
    let v := max (-(2 ^ 27)) (min (2 ^ 27 - 2 ^ 12) (mulGain g c.code.toInt))
    { Sample.quiet with w := BitVec.ofInt 32 (v / 2 ^ 12 * 2 ^ 12), q := false }
  else .quiet

/-- A sample of talkback (R91): 16,000 of them come in a second, IN1 to HP1 left and IN2 to HP1 right. [DEDUCED, log 43] -/
def State.tickTalk (s : State) (conv : List InConv) : State :=
  if (s.fn (.hp 1)).active && (s.fn (.hp 1)).dom == 3 then
    s.hpFrame 1 24 (s.talkSample (convOf conv 1)) (s.talkSample (convOf conv 2))
  else s

/-- An insertion begins (R324): a fault of the last one clears (R325). -/
def State.beginJack (s : State) (h : Nat) : State :=
  let x := s.hp h
  let s := if x.jack = 6 ∨ (s.phase (.hp h) = .fault ∧ !x.limitL.tripped ∧ !x.limitR.tripped) then
      s.setFn (.hp h) { s.fn (.hp h) with phase := .quiesced } else s
  s.setHp h { s.hp h with jack := 1, edgeAt := s.now, absentAt := none }

/-- JACK_EDGE (R324): HPn_DET changes to present. -/
def execJackEdge (t n : Nat) (s : State) : Host.Outcome State Fault Refusal :=
  let s := s.clock t
  if n = 1 ∨ n = 2 then
    let x := s.hp n
    if x.present then .next s
    else
      let s := s.setHp n { x with present := true, level := s.rd (0x3200 + n) 9 == 1, absentAt := none }
      if s.rd (0x3200 + n) 8 = 1 ∧ s.outs.hpBias.st = 2 ∧ x.jack = 0 then .next (s.beginJack n) else .next s
  else .next s

/-- JACK_ABSENT (R324, R326): an insertion in progress is abandoned, a plug that was recognised is held 5 ms. -/
def execJackAbsent (t n : Nat) (s : State) : Host.Outcome State Fault Refusal :=
  let s := s.clock t
  if n = 1 ∨ n = 2 then
    let x := s.hp n
    if !x.present then .next s
    else
      let x := { x with present := false, level := s.rd (0x3200 + n) 9 == 0 }
      if x.jack = 1 ∨ x.jack = 2 then .next (s.setHp n { x with jack := 0 })
      else if 3 ≤ x.jack then .next (s.setHp n { x with absentAt := some s.now })
      else .next (s.setHp n x)
  else .next s

/-- JACK_DEBOUNCE_END (R324). -/
def execJackDebounceEnd (t n : Nat) (s : State) : Host.Outcome State Fault Refusal :=
  let s := s.clock t
  if (n = 1 ∨ n = 2) ∧ (s.hp n).jack = 1 ∧ (s.hp n).edgeAt + 50000000 ≤ s.now then
    .next (s.setHp n { s.hp n with jack := 2 })
  else .next s

/-- The state that two measured loads give (R325). -/
def jackCode (l r : Nat) : Nat :=
  if l = 0xFFFE ∧ r = 0xFFFE then 5 else if 80 ≤ l ∧ 80 ≤ r then 3 else if 80 ≤ l ∧ r = 0 then 4 else 6

/-- JACK_MEASURE_END (R324, R325): the output starts where it may, or goes to FAULT. -/
def execJackMeasureEnd (t n loadL loadR : Nat) (s : State) : Host.Outcome State Fault Refusal :=
  let s := s.clock t
  if (n = 1 ∨ n = 2) ∧ (s.hp n).jack = 2 ∧ (s.hp n).edgeAt + 80000000 ≤ s.now then
    let c := jackCode loadL loadR
    let s := (s.setHp n { s.hp n with jack := c, loadL := loadL, loadR := loadR }).event 0x54 (0x3200 + n)
    if c = 6 then .next (((s.restHp n).faultFn (.hp n)).event 0x56 (0x3200 + n))
    else if s.wants (.hp n) then
      match s.phase (.hp n) with
      | .draining => .next (s.setFn (.hp n) { s.fn (.hp n) with startPending := true })
      | .ramping => .next (s.setFn (.hp n) { s.fn (.hp n) with startPending := true })
      | .fault => .next s
      | _ => if s.hpReady n then .next (s.startHp n) else .next s
    else .next s
  else .next s

/-- JACK_REMOVE (R326): the absent level has lasted 5 ms. -/
def execJackRemove (t n : Nat) (s : State) : Host.Outcome State Fault Refusal :=
  let s := s.clock t
  match (s.hp n).absentAt with
  | some a =>
    if (n = 1 ∨ n = 2) ∧ a + 5000000 ≤ s.now then
      let s := s.muteHp n
      .next ((s.setHp n { s.hp n with jack := 0, absentAt := none, loadL := 0xFFFF, loadR := 0xFFFF }).event 0x55 (0x3200 + n))
    else .next s
  | none => .next s

/-- What a write of `JACK_ACTION` or `JACK_POLARITY` does as it applies (R326). -/
def State.applyJack (s : State) (h : Nat) : State :=
  let x := s.hp h
  let present := x.level == (s.rd (0x3200 + h) 9 == 1)
  let s := s.setHp h { x with present := present, absentAt := none }
  if s.rd (0x3200 + h) 8 = 0 then
    let s := s.setHp h { s.hp h with jack := 0, loadL := 0xFFFF, loadR := 0xFFFF }
    match s.phase (.hp h) with
    | .off => if s.wants (.hp h) && s.hpReady h then s.startHp h else s
    | .quiesced => if s.wants (.hp h) && s.hpReady h then s.startHp h else s
    | _ => s
  else if present then
    let s := s.stopFn (.hp h)
    if s.outs.hpBias.st = 2 then s.beginJack h else s.setHp h { s.hp h with jack := 0 }
  else
    let s := s.muteHp h
    s.setHp h { s.hp h with jack := 0 }

/-- What a commit that has written the subs `subs` of headphone `h` does (R323, R326). -/
def State.applyHp (s : State) (h : Nat) (subs : List Nat) : State :=
  let x := s.hp h
  let s :=
    if (s.fn (.hp h)).active then
      if subs.contains 3 && x.range != s.rd (0x3200 + h) 3 && x.rangeCyc != .out then
        s.setHp h { x with rangeCyc := .out, gain := x.gain.to none (s.framp (.hp h)) }
      else if (subs.contains 5 || subs.contains 6) && x.rangeCyc != .out && x.gain.g1 != s.hpGoal h then
        s.setHp h { x with gain := x.gain.to (s.hpGoal h) (s.framp (.hp h)) }
      else s
    else s
  if subs.contains 8 || (subs.contains 9 && (x.present == x.level) != (s.rd (0x3200 + h) 9 == 1)) then s.applyJack h else s

/-! ## PWM outputs -/

/-- The gain that PWM output `n` comes to rest at. -/
def State.pwmGoal (s : State) (n : Nat) : Option Rat := trimGoal (s.rd (0x320F + n) 7) (s.rd (0x320F + n) 6)

/-- The conditions for a start of PWM output `n` (R330). -/
def State.pwmReady (s : State) (_n : Nat) : Bool :=
  s.outputsRun && s.pdOn 9 && (s.dom s.hpwmDom).running && !s.ms.low.contains .vddioD

/-- PWM output `n` starts (R330): it switches at 50 %, and its enable rises in its turn among the outputs that start
now. -/
def State.startPwm (s : State) (n : Nat) : State :=
  let gap := s.rd 0x3200 2 * 100000
  let others := ((List.range 16).map (· + 1)).filter fun m => m != n && (s.pwm m).step == .lead && (s.fn (.pwm m)).bound == s.now
  let i := (others.filter fun m => decide (m < n)).length
  let s := (others.filter fun m => decide (n < m)).foldl (fun s m => s.setPwm m { s.pwm m with at_ := (s.pwm m).at_ + gap }) s
  let s := s.setPwm n { PwmCh.reset with step := .lead, at_ := s.now + s.rd (0x320F + n) 9 * 100000 + i * gap }
  s.setFn (.pwm n) { (s.fn (.pwm n)).begin s.hpwmDom 1 (s.framp (.pwm n)) with bound := s.now }

/-- PWM_EN_LEAD_END (R330). -/
def execPwmEnLeadEnd (t n : Nat) (s : State) : Host.Outcome State Fault Refusal :=
  let s := s.clock t
  let x := s.pwm n
  if x.step = .lead ∧ s.phase (.pwm n) = .starting ∧ x.at_ ≤ s.now then
    .next (s.setPwm n { x with step := .settle, at_ := s.now + s.rd (0x320F + n) 0x0A * 100000 })
  else .next s

/-- PWM_EN_SETTLE_END (R330): the signal ramps in. -/
def execPwmEnSettleEnd (t n : Nat) (s : State) : Host.Outcome State Fault Refusal :=
  let s := s.clock t
  let x := s.pwm n
  if x.step = .settle ∧ s.phase (.pwm n) = .starting ∧ x.at_ ≤ s.now then
    let s := s.setPwm n { x with step := .run, gain := (Ramp.rest none).to (s.pwmGoal n) (s.framp (.pwm n)) }
    .next (s.setFn (.pwm n) { s.fn (.pwm n) with wait := 0 })
  else .next s

/-- The stop ramp of PWM output `n`. -/
def State.rampPwm (s : State) (n : Nat) : State :=
  s.setPwm n { s.pwm n with gain := (s.pwm n).gain.to none (s.framp (.pwm n)) }

/-- The ramp of a stop has ended: PWMnEN falls, and switching goes on for `EN_LEAD` (R331). -/
def State.pwmFall (s : State) (n : Nat) : State :=
  if (s.pwm n).step = .stop then s
  else s.setPwm n { s.pwm n with step := .stop, at_ := s.now + s.rd (0x320F + n) 9 * 100000, gain := .rest none, conv := [] }

/-- PWM_STOP_LEAD_END (R331): the balls go to `SAFE_LEVEL`. -/
def execPwmStopLeadEnd (t n : Nat) (s : State) : Host.Outcome State Fault Refusal :=
  let s := s.clock t
  let x := s.pwm n
  if x.step = .stop ∧ x.at_ ≤ s.now then
    let s := s.setPwm n { PwmCh.reset with clipAt := x.clipAt }
    .next (s.setFn (.pwm n) ((s.fn (.pwm n)).quiesce (s.fframe (.pwm n))))
  else .next s

/-- A change of trim or mute of a running PWM output. -/
def State.applyPwm (s : State) (n : Nat) (subs : List Nat) : State :=
  let x := s.pwm n
  if (s.fn (.pwm n)).active && x.step == .run && (subs.contains 6 || subs.contains 7) && x.gain.g1 != s.pwmGoal n then
    s.setPwm n { x with gain := x.gain.to (s.pwmGoal n) (s.framp (.pwm n)) }
  else s

/-- One tick of PWM output `n` (R329). -/
def State.tickPwm (s : State) (n : Nat) : State :=
  let f := s.fn (.pwm n)
  let x := s.pwm n
  if x.step != .run && f.phase == .starting then s
  else if !f.active then s.setFn (.pwm n) f.frame
  else
    let p := 0x40 + (n - 1)
    let y := s.delivered p
    let h := history 1 y.w x.hist
    let r := s.converted p 1 (convCount (s.rate f.dom)) fsWord (s.outGain x.gain) h
    let s := if r.2 then s.clipEvent x.clipAt 0x57 (0x320F + n) else s
    let s := s.setPwm n { x with hist := h, conv := r.1, gain := x.gain.step,
                                 clipAt := if r.2 then some s.now else x.clipAt }
    let s := s.setMeter (sinkMeter p) ((s.meter (sinkMeter p)).feedTrue
      { y with w := BitVec.ofInt 32 (r.1.getLastD 0), q := y.q || s.outQ x.gain })
    s.setFn (.pwm n) f.frame

/-- Whether the PWM clock's synthesizer is the one that ticks `HPWM_DOMAIN` (R328). -/
def State.pwmClockOk (s : State) : Bool := (s.domSyn s.hpwmDom == .b) == (s.rd 0x2117 1 == 5)

/-! ## Safe states -/

/-- An output function forced silent: it reads QUIESCED (R129, R299); one in FAULT stays there (R317). -/
def State.cutFn (s : State) (f : Func) : State :=
  match s.phase f with
  | .off => s
  | .fault => s
  | _ => s.setFn f { s.fn f with phase := .quiesced, startPending := false, fade := .rest none }

/-- The safe states of the outputs and the direct path (R129): the soft clamp closes, control-voltage channels hold,
headphones mute, PWM outputs go to their safe level, links stop. [DEDUCED, log 58] -/
def State.safeOutputs (s : State) : State :=
  let s := (List.range 48).foldl (fun s j => (s.cutFn (.output (j + 1))).restOutput (j + 1)) s
  let s := [1, 2].foldl (fun s h => (s.cutFn (.hp h)).restHp h) s
  let s := (List.range 16).foldl (fun s j => (s.cutFn (.pwm (j + 1))).setPwm (j + 1) .reset) s
  let s := (List.range 16).foldl (fun s l => (s.cutFn (.link l)).setLink l .none) s
  { s with outs := { s.outs with safe := true, safeAt := s.now } }

/-! ## Balls -/

/-- Whether the running self-test is test `t` (R524). -/
def State.runsTest (s : State) (t : Nat) : Bool := s.testing && s.testQuiet && s.test.left.head? == some t

/-- The P leg of a line output in control-voltage mode (R299, R306, R309). -/
def State.cvBall (s : State) (n : Nat) : BallState :=
  if s.ms.mode = .slate ∨ s.ms.mode = .indigo ∨ s.ms.mode = .cobalt ∨ s.ms.low.contains .avddHv then .highZ
  else match (if (s.fn (.output n)).active then (s.out n).code else s.heldCode n) with
    | some c => .code c
    | none => .highZ

/-- The balls of a line output in audio mode (R299, R312 to R314). -/
def State.audioBall (s : State) (n : Nat) : BallState :=
  if s.ms.mode = .cobalt then .highZ
  else if (if n ≤ 24 then s.outs.agndA else s.outs.agndB) then .agnd
  else if s.outs.safe then .soft
  else if (s.fn (.output n)).active then .signal
  else if (s.commonMode n).st = 2 then .muted else .moving

/-- What the balls of line output `n` carry (R299, R317, R524). -/
def State.lineBall (s : State) (n : Nat) : BallState :=
  let x := s.out n
  if (x.limit.tripped && !x.limit.retrying) || x.switchAt.isSome || s.runsTest 2 then .highZ
  else if s.outMode n = 0 then s.audioBall n else s.cvBall n

/-- What a ball of headphone `h` carries, the right one if `right` (R299, R315, R317, R325); the mute switch is open only for the
signal. -/
def State.hpBall (s : State) (h : Nat) (right : Bool) : BallState :=
  let x := s.hp h
  if s.ms.mode = .cobalt ∨ x.jack = 6 ∨ s.runsTest 3 then .highZ
  else if s.outs.agndHp then .agnd
  else if (x.limitL.tripped && !x.limitL.retrying) || (x.limitR.tripped && !x.limitR.retrying) then .highZ
  else if s.outs.hpBias.st ≠ 2 then .moving
  else if s.outs.safe ∨ !(s.fn (.hp h)).active then .muted
  else if right ∧ x.jack = 4 then .highZ
  else .signal

/-! ## Current limits -/

/-- Whether the driver of a channel is connected (R317): its domain is on, and no clamp, mute switch or high impedance holds its ball. -/
def State.driving (s : State) (c : LimitCh) : Bool :=
  match c with
  | .line n => s.pdOn (Func.output n).pdom && (match s.lineBall n with
      | .highZ => false | .agnd => false | .soft => false
      | _ => true)
  | .hpL h => s.pdOn 9 && s.hpBall h false == .signal
  | .hpR h => s.pdOn 9 && s.hpBall h true == .signal

/-- The supervision of one channel. -/
def State.limitOf (s : State) (c : LimitCh) : LimitSt :=
  match c with
  | .line n => (s.out n).limit
  | .hpL h => (s.hp h).limitL
  | .hpR h => (s.hp h).limitR

/-- The state with the supervision of one channel. -/
def State.setLimit (s : State) (c : LimitCh) (x : LimitSt) : State :=
  match c with
  | .line n => s.setOut n { s.out n with limit := x }
  | .hpL h => s.setHp h { s.hp h with limitL := x }
  | .hpR h => s.setHp h { s.hp h with limitR := x }

/-- The function of a supervised channel. -/
def limitFunc (c : LimitCh) : Func :=
  match c with
  | .line n => .output n
  | .hpL h => .hp h
  | .hpR h => .hp h

/-- `SC_RETRY` of a channel's output. -/
def State.scRetry (s : State) (c : LimitCh) : Bool :=
  match c with
  | .line n => s.rd (0x3100 + n) 9 == 1
  | .hpL h => s.rd (0x3200 + h) 0x0F == 1
  | .hpR h => s.rd (0x3200 + h) 0x0F == 1

/-- The sub of `SC_COUNT` of a channel's output. -/
def limitSub (c : LimitCh) : Nat :=
  match c with
  | .line _ => 0x0C
  | _ => 0x11

/-- The start of an output whose trip has cleared (R317, R318). -/
def State.restartOutput (s : State) (c : LimitCh) : State :=
  let f := (limitFunc c)
  let s := s.setFn f { s.fn f with phase := .quiesced }
  match c with
  | .line n => (s.openSwitch n).outputOn n
  | .hpL h => if s.wants f && s.hpReady h then s.startHp h else s
  | .hpR h => if s.wants f && s.hpReady h then s.startHp h else s

/-- A tripped channel (R317): its output is silent, high-impedance and in FAULT. -/
def State.tripLimit (s : State) (c : LimitCh) (x : LimitSt) : State :=
  let s := match c with
    | .line n => s.restOutput n
    | .hpL h => s.restHp h
    | .hpR h => s.restHp h
  let s := s.setLimit c { x with tripped := true, retrying := false, retryAt := s.now + 1000000000 }
  (((s.faultFn (limitFunc c)).bump (limitFunc c).index (limitSub c))).event 0x52 (limitFunc c).index

/-- One window of a retry (R317). -/
def State.retryWindow (s : State) (c : LimitCh) (active : Bool) : State :=
  let x := s.limitOf c
  if active then s.setLimit c { x with retrying := false, clean := 0, quiet := 0, retryAt := s.now + 1000000000 }
  else if x.clean + 1 < 10 then s.setLimit c { x with clean := x.clean + 1, quiet := min 10 (x.quiet + 1) }
  else (s.setLimit c LimitSt.idle).restartOutput c

/-- CURRENT_LIMIT_WINDOW (R317). -/
def execCurrentLimitWindow (t : Nat) (ch : LimitCh) (active : Bool) (s : State) : Host.Outcome State Fault Refusal :=
  let s := s.clock t
  let x := s.limitOf ch
  if x.retrying then .next (s.retryWindow ch active)
  else if !s.driving ch then .next (s.setLimit ch { x with run := 0, quiet := min 10 (x.quiet + 1) })
  else if active then
    let s := if 10 ≤ x.quiet then s.event 0x51 (limitFunc ch).index else s
    let x := { x with run := x.run + 1, quiet := 0 }
    if 50 ≤ x.run then .next (s.tripLimit ch { x with run := 0 }) else .next (s.setLimit ch x)
  else .next (s.setLimit ch { x with run := 0, quiet := min 10 (x.quiet + 1) })

/-- The supervised channels of an output. -/
def limitsOf (f : Func) : List LimitCh :=
  match f with
  | .output n => [.line n]
  | .hp h => [.hpL h, .hpR h]
  | _ => []

/-- A tripped channel of an output tries again (R317). -/
def State.beginRetry (s : State) (f : Func) (due : LimitCh → Bool) : State :=
  (limitsOf f).foldl (fun s c =>
    let x := s.limitOf c
    if x.tripped && !x.retrying && due c then s.setLimit c { x with retrying := true, clean := 0 } else s) s

/-- SC_RETRY (R317). -/
def execScRetry (t : Nat) (f : Func) (s : State) : Host.Outcome State Fault Refusal :=
  let s := s.clock t
  .next (s.beginRetry f fun c => s.scRetry c && decide ((s.limitOf c).retryAt ≤ s.now))

/-! ## Measurements of AVDD_HV -/

/-- HV_LOW of every control-voltage channel after a measurement (R311). -/
def State.hvMeasured (s : State) : State :=
  match s.avddHv with
  | none => s
  | some v =>
    (List.range 48).foldl (fun s j =>
      let n := j + 1
      let x := s.out n
      if s.outMode n = 0 then (if x.hvLow then s.setOut n { x with hvLow := false } else s)
      else if x.hvLow then (if 58 / 5 < v then s.setOut n { x with hvLow := false } else s)
      else if v < 57 / 5 then (s.setOut n { x with hvLow := true }).event 0x53 (0x3100 + n) else s) s

/-- Whether AVDD_HV was measured below 11.4 V, which shuts out control-voltage mode (R298). -/
def State.hvTooLow (s : State) : Bool :=
  match s.avddHv with
  | some v => decide (v < 57 / 5)
  | none => false

/-! ## Readings -/

/-- Whether an instant lies within the last 10 ms. -/
def State.recent (s : State) (a : Option Nat) : Bool :=
  match a with
  | some t => decide (s.now < t + 10000000)
  | none => false

/-- Whether the function ramps in or out. -/
def State.rampingNow (s : State) (f : Func) : Bool :=
  s.phase f == .ramping || (s.phase f == .starting && (s.fn f).active)

/-- HIGH_Z of output `n` (R320). -/
def State.outHighZ (s : State) (n : Nat) : Bool := s.lineBall n == .highZ

/-- `STATUS` of output `n` (R320). -/
def State.outStatus (s : State) (n : Nat) : Nat :=
  let x := s.out n
  bit x.limit.retrying 7 + bit (x.fading && (s.fn (.output n)).active) 6 + bit x.hvLow 5 + bit (s.outHighZ n) 4 +
    bit (s.recent x.clipAt) 3 + bit x.limit.tripped 2 + bit (decide (x.limit.quiet < 10)) 1 +
    bit (x.gain.live || (s.outMode n == 0 && s.rampingNow (.output n))) 0

/-- A latency of `k` samples at rate `fs` plus `extra` ns, rounded. -/
def latencyNs (k fs extra : Nat) : Nat := (k * 1000000000 * 2 + fs) / (2 * fs) + extra

/-- The computed subs of a line output (R319). [DESIGN CHOICE, log 7] -/
def State.readOutput (s : State) (n sub : Nat) : Nat :=
  let fs := s.rate (s.outDom n)
  match sub with
  | 0x0B => s.outStatus n
  | 0x0D => if s.outMode n != 0 then 0x8000
            else if s.avddHv.isNone then Config.unmeasured (key (0x3100 + n) 0x0D) % 2 ^ 16
            else unsigned 2 (s.clipLevel (s.rd (0x3100 + n) 4))
  | 0x0E => if s.outMode n != 0 then 20000 + latencyNs 6 (baseRate fs) 0 else latencyNs (outDelay (s.rd (0x3100 + n) 5)) fs 600
  | 0x14 => (s.out n).code.getD 0
  | _ => s.rd (0x3100 + n) sub

/-- `STATUS` of a headphone (R327). -/
def State.hpStatus (s : State) (h : Nat) : Nat :=
  let x := s.hp h
  let trip := (x.limitL.tripped && !x.limitL.retrying) || (x.limitR.tripped && !x.limitR.retrying)
  bit (x.jack == 4) 8 + bit (x.limitL.retrying || x.limitR.retrying) 7 +
    bit (trip || s.ms.mode == .cobalt || x.jack == 6) 4 + bit (s.recent x.clipAt) 3 +
    bit (x.limitL.tripped || x.limitR.tripped) 2 + bit (decide (x.limitL.quiet < 10) || decide (x.limitR.quiet < 10)) 1 +
    bit (x.gain.live || s.rampingNow (.hp h)) 0

/-- The computed subs of a headphone (R327). -/
def State.readHp (s : State) (h sub : Nat) : Nat :=
  let x := s.hp h
  match sub with
  | 0x0B => x.jack
  | 0x0C => x.loadL
  | 0x0D => x.loadR
  | 0x0E => s.hpStatus h
  | 0x12 => latencyNs (outDelay (s.rd (0x3200 + h) 4)) (s.rate s.hpwmDom) 600
  | _ => s.rd (0x3200 + h) sub

/-- The carrier of the PWM outputs in Hz (R328). -/
def State.carrier (s : State) : Nat := (if s.rd 0x3200 1 = 0 then 8 else 16) * baseRate (s.rate s.hpwmDom)

/-- Whether a takeover still holds PWMnEN of output `n` low (R414): it rises `EN_LEAD` after switching starts at the entry
into IVORY, in the order of R330. -/
def State.pwmEnLate (s : State) (n : Nat) : Bool :=
  let i := ((List.range 16).filter fun m => decide (m + 1 < n) && (s.pwm (m + 1)).step == .run).length
  s.rd 0x4100 1 == 1 && s.ms.mode == .ivory &&
    decide (s.now < s.ms.changedAt + (s.rd (0x320F + n) 9 + i * s.rd 0x3200 2) * 100000)

/-- What PWMnA and PWMnB carry (R299, R331): their safe level, or what the modulator switches; in the single-ended format PWMnB is held low
while PWMnA switches (R329). -/
def State.pwmBall (s : State) (n : Nat) (b : Bool) : BallState :=
  if s.ms.mode = .cobalt ∨ !s.pdOn 9 then .highZ
  else if (s.pwm n).step = .safe then
    (match s.rd (0x320F + n) 4 with
     | 0 => .low | 1 => .high | _ => .highZ)
  else if b ∧ s.rd (0x320F + n) 3 = 2 then .low else .signal

/-- The duty cycles of PWMnA and PWMnB for a value (R329); the modulator takes it held to ±1. -/
def State.pwmDuty (s : State) (n : Nat) (v : Int) : Rat × Rat :=
  let mx := (s.rd (0x320F + n) 5 : Rat) / 100 * (v / (fsWord : Rat))
  let a := (1 + mx) / 2
  (a, match s.rd (0x320F + n) 3 with
    | 1 => (1 - mx) / 2
    | 2 => 0
    | _ => 1 - a)

/-- The duty cycles that PWM output `n` switches at (R329, R330): those of the values it converts, 50 % while it carries none. -/
def State.pwmDuties (s : State) (n : Nat) : List (Rat × Rat) :=
  if (s.pwm n).step = .safe then []
  else match (s.pwm n).conv with
    | [] => [s.pwmDuty n 0]
    | l => l.map (s.pwmDuty n)

/-- What PWMnEN carries (R330, R331). -/
def State.pwmEn (s : State) (n : Nat) : BallState :=
  if s.ms.mode = .cobalt ∨ !s.pdOn 9 then .highZ
  else if ((s.pwm n).step = .settle ∨ (s.pwm n).step = .run) ∧ !s.pwmEnLate n then .high else .low

/-- `STATUS` of a PWM output (R331, R333). -/
def State.pwmStatus (s : State) (n : Nat) : Nat :=
  let x := s.pwm n
  bit (s.pwmBall n false == .highZ) 4 + bit (s.recent x.clipAt) 3 + bit (s.pwmEn n == .high) 2 +
    bit (x.step != .safe) 1 + bit (x.gain.live || s.phase (.pwm n) == .ramping) 0

/-- The computed subs of a PWM output (R333). -/
def State.readPwm (s : State) (n sub : Nat) : Nat :=
  match sub with
  | 0x0D => s.pwmStatus n
  | 0x0E => latencyNs 3 (s.rate s.hpwmDom) 600 + (1000000000 * 2 + s.carrier) / (2 * s.carrier)
  | _ => s.rd (0x320F + n) sub

/-- The computed subs of 3200h (R334). -/
def State.read3200 (s : State) (sub : Nat) : Nat :=
  match sub with
  | 3 => s.outs.hpBias.st
  | 4 => s.outs.cmA.st
  | 5 => s.outs.cmB.st
  | _ => s.rd 0x3200 sub

/-- The phase that an output function shows outside the modes that run it (R299). [DEDUCED, log 41] -/
def State.outPhase (s : State) (f : Func) : Phase :=
  match s.phase f with
  | .off => if s.pdOn f.pdom then .quiesced else .off
  | p => p

end Sys2Proof.Machine
end

