-- ==== Sys2Proof/Machine/Serial.lean ====
section
/-!
DEFINITION. The serial audio ports (11_serial_ports.md, R335 to R360): configurations and slots, framing, the elastic
buffers, masks, slips, starts, stops and faults.
-/

set_option autoImplicit false

namespace Sys2Proof.Machine

/-! ## Settings -/

/-- FORMAT of a configuration word (R341). -/
def cfgFormat (c : Nat) : Nat := bits c 31 30
/-- PACKING of a configuration word (R341). -/
def cfgPacking (c : Nat) : Nat := bits c 25 24

/-- The data bits of a frame (R338). -/
def dataBits (c : Nat) : Nat := cfgSlots c * cfgWidth c

/-- The smallest power of two at or above `n`, for `n` up to 2048. -/
def pow2Above (n : Nat) : Nat := (((List.range 12).map fun k => 2 ^ k).find? fun x => decide (n ≤ x)).getD 4096

/-- Whether a slave frame of `f` bit clocks holds the slots (R338). -/
def frameFits (c f : Nat) : Bool :=
  decide (dataBits c ≤ f) && (cfgFormat c == 2 || decide (2 * cfgWidth c ≤ f / 2 * 2))

/-- Whether a configuration is one that R341 allows. -/
def cfgOk (c : Nat) : Bool :=
  cfgFormat c != 3 && bits c 27 26 != 3 && !(cfgMaster c && cfgAsync c) &&
    (if bits c 27 26 = 2 then cfgPacking c != 3 else cfgPacking c == 0) &&
    (if cfgFormat c = 2 then decide (2 ≤ cfgSlots c) else cfgSlots c == 2)

/-- The check of R342 on one direction of the settings. [DEDUCED, log 38] -/
def State.sapOk (s : State) (p : Nat) (dir : SapDir) : Bool :=
  let c := s.sapCfg p dir
  let d := s.sapDomain p dir
  let fs := s.confRate d
  if !s.wants (sapFunc p dir) then decide (d < s.domCount)
  else
    cfgOk c && decide (d < s.domCount) && decide (s.sapMask p dir < 2 ^ cfgSlots c) &&
      (!cfgMaster c || decide (fs * pow2Above (dataBits c) ≤ (if family441 fs then 45158400 else 49152000)))

/-- `TX_BUFFER` or `RX_BUFFER`. -/
def State.sapBuffer (s : State) (p : Nat) (dir : SapDir) : Nat :=
  match dir with
  | .tx => s.rd (0x3301 + p) 0x0B
  | .rx => s.rd (0x3301 + p) 0x0C

/-- The sub of a direction where the transmit one is `a` and the receive one `b`. -/
def dirSub (dir : SapDir) (a b : Nat) : Nat :=
  match dir with
  | .tx => a
  | .rx => b

/-- The first point of a port's slots. -/
def sapPoint (p : Nat) : Nat := 0x100 + 32 * p

/-- Whether a direction is foreign-clocked now (R346). -/
def State.sapForeign (s : State) (p : Nat) (dir : SapDir) : Bool :=
  match dir with
  | .tx => s.foreignSink (sapPoint p)
  | .rx => s.foreignSrc (sapPoint p)

/-! ## Slots -/

/-- A slot as it is received (R339, R340). -/
def slotIn (c u : Nat) : Sample :=
  match bits c 27 26 with
  | 0 => let r := unpackCode 16 u
         { w := r.1, v := true, o := r.2, s := false, n := false, q := false }
  | 1 => unpack 0 u
  | _ => match cfgPacking c with
    | 0 => unpack 0 (u / 256)
    | k => unpack k u

/-- A slot as it is sent (R339, R340). -/
def slotOut (c : Nat) (x : Sample) : Word :=
  match bits c 27 26 with
  | 0 => BitVec.ofInt 32 ((packCode 16 x.w).1 % 2 ^ 16)
  | 1 => BitVec.ofNat 32 (pack 0 x).1
  | _ => match cfgPacking c with
    | 0 => BitVec.ofNat 32 ((pack 0 x).1 * 256)
    | k => BitVec.ofNat 32 (pack k x).1

/-- The samples of a received frame under the mask; a slot that is inactive or lies beyond SLOTS is quiet (R348). -/
def slotsIn (c mask : Nat) (l : List Nat) : List Sample :=
  (List.range 32).map fun i => if i < cfgSlots c && mask.testBit i then slotIn c (l.getD i 0) else .quiet

/-- The words that a frame puts on the line under the mask (R348). -/
def slotsOut (c mask : Nat) (l : List Sample) : List Word :=
  (List.range (cfgSlots c)).map fun i => if mask.testBit i then slotOut c (l.getD i .quiet) else 0

/-- A slip frame (R351). [DEDUCED, log 86] -/
def slipSample : Sample := { w := 0, v := true, o := false, s := true, n := false, q := false }

/-- A frame of one sample in every slot. -/
def SapFrame.of (x : Sample) (tick at_ : Nat) : SapFrame :=
  { slots := List.replicate 32 x, tick := tick, at_ := at_, first := false }

/-! ## Slips -/

/-- Whether a direction passes frames through its buffer now: it computes, and a transmit direction still writes. -/
def State.sapMoving (s : State) (p : Nat) (dir : SapDir) : Bool :=
  let f := s.fn (sapFunc p dir)
  f.active && (f.phase != .ramping || f.fade.live)

/-- A slip that a direction takes: its count and its SLIPPED bit (R351, R353). -/
def State.countSlip (s : State) (p : Nat) (dir : SapDir) : State :=
  (s.setSap p dir { s.sapDir p dir with slipAt := some s.now }).bump (0x3301 + p) (dirSub dir 0x12 0x13)

/-- A slip of a direction's own (R351). [DEDUCED, log 86] -/
def State.ownSlip (s : State) (p : Nat) (dir : SapDir) (insertion : Bool) : State :=
  let s := s.countSlip p dir
  let x := s.sapDir p dir
  (s.setSap p dir (if insertion then { x with ins := true } else { x with del := true })).event 0x60 (0x3301 + p)

/-- The oldest frame dropped; a new mask moves on to the frame after it (R350). [DEDUCED, log 86] -/
def dropOldest (l : List SapFrame) : List SapFrame :=
  match l with
  | [] => []
  | x :: y :: r => { y with first := y.first || x.first } :: r
  | [_] => []

/-- A direction's buffer without its oldest frame. -/
def SapDirSt.drop (x : SapDirSt) : SapDirSt :=
  match x.buf with
  | [y] => { x with buf := [], maskDue := x.maskDue || y.first }
  | l => { x with buf := dropOldest l }

/-! ## Masks -/

/-- A changed mask reaches its port at the tick of its commit (R349); one committed with another configuration or domain waits for
the restart (R350). [DEDUCED, log 86] -/
def State.applyMask (s : State) (p : Nat) (dir : SapDir) : State :=
  let x := s.sapDir p dir
  let f := s.fn (sapFunc p dir)
  if (f.active || f.phase == .starting) && x.cfg == s.sapCfg p dir && f.dom == s.sapDomain p dir then
    if x.mask = s.sapMask p dir then s
    else s.setSap p dir { x with wait := some { mask := s.sapMask p dir, at_ := s.now, deferred := false, applied := false } }
  else s

/-- MASK_PENDING (R349). -/
def State.maskPending (s : State) (p : Nat) (dir : SapDir) : Bool := (s.sapDir p dir).wait.isSome

/-- The count of the tick that the first samples with a new mask crossed (R350). [DEDUCED, log 86] -/
def State.maskFrame (s : State) (p : Nat) (dir : SapDir) (frame : Nat) : State :=
  let x := s.sapDir p dir
  (s.setSap p dir { x with wait := match x.wait with
    | some w => if w.applied then none else some w
    | none => none }).wr (0x3301 + p) (dirSub dir 0x10 0x11) frame

/-- The mask at a frame start (R349): one that waits applies if the start lies late enough after its tick, and is deferred
otherwise. [DEDUCED, log 86] -/
def State.maskAtStart (s : State) (p : Nat) (dir : SapDir) (late : Bool) : State :=
  let s := s.setSap p dir { s.sapDir p dir with oldMask := none }
  let x := s.sapDir p dir
  match x.wait with
  | some w =>
    if w.applied then s
    else if late then
      s.setSap p dir { x with mask := w.mask, wait := some { w with applied := true }, maskDue := true, oldMask := some x.mask }
    else if w.deferred then s
    else (s.setSap p dir { x with wait := some { w with deferred := true } }).bump (0x3301 + p) 0x1C
  | none => s

/-- Whether a frame start now lies at least 2 bit clocks after the tick of the waiting mask. -/
def State.maskLate (s : State) (p : Nat) (dir : SapDir) : Bool :=
  let x := s.sapDir p dir
  match x.wait with
  | some w => decide (2 * 1000000000 ≤ (s.now - w.at_) * (s.rate (s.fn (sapFunc p dir)).dom * x.f))
  | none => false

/-! ## Framing -/

/-- Whether framing is acquired: four consecutive frames of the same length (R355). -/
def SapDirSt.acquired (x : SapDirSt) : Bool := decide (4 ≤ x.good)

/-- A frame start `bits` bit clocks after the one before, while framing is acquired (R355). [DEDUCED, log 59] -/
def SapDirSt.acquire (x : SapDirSt) (bits now : Nat) : SapDirSt :=
  { x with f := bits, good := if frameFits x.cfg bits then (if bits = x.f then x.good + 1 else 1) else 0, startAt := now,
           clockLost := false }

/-- A frame start at a wrong position (R357): the frame since the last start is discarded. -/
def State.framingError (s : State) (p : Nat) (dir : SapDir) : State :=
  let x := s.sapDir p dir
  let buf := if dir = .rx then x.buf.filter fun y => y.at_ != x.startAt else x.buf
  let lost := dir == .rx && x.buf.any fun y => y.at_ == x.startAt && y.first
  let s := s.setSap p dir { x with framingAt := some s.now, buf := buf, maskDue := x.maskDue || lost }
  (s.bump (0x3301 + p) (dirSub dir 0x1A 0x1B)).event 0x61 (0x3301 + p)

/-! ## Start, stop and faults -/

/-- The bank that supplies port `p` (R335). -/
def sapRail (p : Nat) : Rail := if p < 8 then .vddioA else .vddioB

/-- The conditions of R355 for a start, the multiplexer of R343 included. [DEDUCED, log 59] -/
def State.sapReady (s : State) (p : Nat) (dir : SapDir) : Bool :=
  s.domReady (sapFunc p dir) && (Mode.drives s.ms.mode || (dir == .rx && s.ms.mode == .teal)) &&
    !(s.ms.low.contains (sapRail p)) && !(s.sapDir p dir).clockLost && (s.mux (muxKey (.sap p dir))).st != 1 && (s.mux (muxKey (.sap p dir))).st != 2 &&
    (s.mux (muxKey (.sap p dir))).active == (if cfgMaster (s.sapCfg p dir) then 0 else 1)

/-- A started direction that has its clock and framing: a receive direction waits for its buffer, a transmit direction
fills it (R355). -/
def State.sapFramed (s : State) (p : Nat) (dir : SapDir) : State :=
  let x := s.sapDir p dir
  let f := s.fn (sapFunc p dir)
  match dir with
  | .rx => s
  | .tx =>
    let n := if cfgMaster x.cfg then 1 else s.sapBuffer p .tx / 2
    let s := s.setSap p .tx { x with buf := List.replicate n (SapFrame.of .quiet (s.dom f.dom).frame s.now), ready := true }
    s.setFn (.sapTx p) { f with wait := 0 }

/-- A direction starts (R355). `framed` says that a slave has acquired framing already. [DEDUCED, log 59] -/
def State.startSap (s : State) (p : Nat) (dir : SapDir) (framed : Bool) : State :=
  let x := s.sapDir p dir
  let c := s.sapCfg p dir
  let keep := framed && x.acquired
  let s := s.setSap p dir
    { x with cfg := c, mask := s.sapMask p dir, f := if cfgMaster c then pow2Above (dataBits c) else if keep then x.f else 0,
             good := if cfgMaster c then 4 else if keep then x.good else 0, buf := [], ready := false, line := [],
             wait := none, oldMask := none, alignLost := false, ins := false, del := false, maskDue := false, restart := true,
             slipNow := false, dropNext := false, supply := false, clockLost := false }
  let s := s.setFn (sapFunc p dir) ((s.fn (sapFunc p dir)).begin (s.sapDomain p dir) 1 (s.framp (sapFunc p dir)))
  if cfgMaster c || keep then s.sapFramed p dir else s

/-- A direction has stopped: its buffer is empty (R356). -/
def State.restSap (s : State) (p : Nat) (dir : SapDir) : State :=
  s.setSap p dir { s.sapDir p dir with buf := [], ready := false, line := [], wait := none, maskDue := false,
                                       slipNow := false, dropNext := false, ins := false, del := false }

/-- A direction is stopped without drain by a safe state (R357): it reads OFF until it restarts. -/
def State.cutSap (s : State) (p : Nat) (dir : SapDir) : State :=
  (s.restSap p dir).gateFn (sapFunc p dir)

/-- The directions that a safe state stops (R357, R129): every one for a clock cause, otherwise the masters and the
transmitters. -/
def State.cutSaps (s : State) (clock : Bool) : State :=
  (List.range 16).foldl (fun s p =>
    let s := if s.phase (.sapTx p) = .off then s else s.cutSap p .tx
    if s.phase (.sapRx p) ≠ .off ∧ (clock ∨ cfgMaster (s.sapDir p .rx).cfg) then s.cutSap p .rx else s) s

/-- A direction enters FAULT (R357). -/
def State.faultSap (s : State) (p : Nat) (dir : SapDir) : State :=
  (s.restSap p dir).faultFn (sapFunc p dir)

/-- Whether the function of a direction is between OFF and QUIESCED. -/
def State.sapUp (s : State) (p : Nat) (dir : SapDir) : Bool :=
  match s.phase (sapFunc p dir) with
  | .starting => true | .running => true | .draining => true | .ramping => true | _ => false

/-- SAP_CLOCK_LOST (R119, R357): no edge has come for 4 µs, a frame start being one. -/
def execSapClockLost (t p : Nat) (dir : SapDir) (s : State) : Host.Outcome State Fault Refusal :=
  let s := s.clock t
  if p < 16 ∧ s.sapUp p dir ∧ !cfgMaster (s.sapDir p dir).cfg ∧ (s.sapDir p dir).startAt + 4000 ≤ s.now then
    let s := s.faultSap p dir
    .next ((s.setSap p dir { s.sapDir p dir with clockLost := true, good := 0 }).event 0x62 (0x3301 + p))
  else .next s

/-- The ports of a bank whose supply has left its tolerance (R357). -/
def State.faultBank (s : State) (r : Rail) : State :=
  ((List.range 16).filter fun p => sapRail p == r).foldl (fun s p =>
    [SapDir.tx, .rx].foldl (fun s dir =>
      if s.sapUp p dir then
        let s := s.faultSap p dir
        s.setSap p dir { s.sapDir p dir with supply := true }
      else s) s) s

/-- The ports of a bank that is in tolerance again restart, or read QUIESCED where they are disabled or may not start yet (R357). [DEDUCED, log 59] -/
def State.recoverBank (s : State) (r : Rail) : State :=
  ((List.range 16).filter fun p => sapRail p == r).foldl (fun s p =>
    [SapDir.tx, .rx].foldl (fun s dir =>
      let x := s.sapDir p dir
      if x.supply then
        let s := s.setSap p dir { x with supply := false }
        if x.clockLost then s
        else if s.wants (sapFunc p dir) && s.sapReady p dir then s.startSap p dir false
        else s.setFn (sapFunc p dir) { s.fn (sapFunc p dir) with phase := .quiesced }
      else s) s) s

/-! ## Ticks -/

/-- What a transmit direction puts on its line: nothing where its balls are high-impedance (R358). -/
def State.onLine (s : State) (p : Nat) (l : List Word) : List Word :=
  if s.ms.mode = .cobalt ∧ !(s.sapCfg p .tx).testBit 11 then [] else l

/-- What one direction does before the samples of a tick: the underrun of a receive direction, the overrun of a transmit
direction, and the frame that a master begins (R344, R345, R351). -/
def State.sapBefore (s : State) (p : Nat) (dir : SapDir) : State :=
  let f := s.fn (sapFunc p dir)
  let x := s.sapDir p dir
  if !(f.active || (f.phase == .starting && x.acquired)) || s.sapForeign p dir then s
  else if cfgMaster x.cfg then
    let late := match x.wait with
      | some w => decide (w.at_ < s.now)
      | none => false
    let s := s.maskAtStart p dir late
    let x := s.sapDir p dir
    match dir with
    | .rx => s.setSap p .rx { x with startAt := s.now }
    | .tx =>
      match x.buf with
      | y :: r =>
        let first := y.first || x.maskDue
        let s := s.setSap p .tx { x with buf := r, line := s.onLine p (slotsOut x.cfg x.mask y.slots), startAt := s.now,
                                         delay := some (s.now - y.at_), maskDue := false }
        if first then s.maskFrame p .tx y.tick else s
      | [] => s.setSap p .tx { x with line := s.onLine p (slotsOut x.cfg x.mask (List.replicate 32 .quiet)), startAt := s.now }
  else
    match dir with
    | .rx =>
      let fill := x.buf.length
      let part := min 255 ((s.now - x.startAt) * s.rate f.dom * 256 / 1000000000)
      let s := s.setSap p .rx { x with fill := ((fill * 256 + part : Nat) : Int) - (s.sapBuffer p .rx * 128 : Nat) }
      if f.active && s.sapMoving p .rx && fill == 0 then s.ownSlip p .rx true else s
    | .tx =>
      if s.sapMoving p .tx && decide (s.sapBuffer p .tx ≤ x.buf.length) then
        (s.setSap p .tx x.drop).ownSlip p .tx false
      else s

/-- The fade of a direction on a sample (R37, R355). -/
def fadeOn (f : FuncState) (x : Sample) : Sample := if f.fading then { x.times f.fade.gain with q := true } else x

/-- The samples of a receive direction's slots at its source points. -/
def State.sapPoints (s : State) (p : Nat) (l : List Sample) : State :=
  (List.range 32).foldl (fun s i => s.setSrc (sapPoint p + i) (l.getD i .quiet)) s

/-- The frame that a receive direction presents at a tick (R344, R345, R351). -/
def State.takeFrame (s : State) (p : Nat) : Option SapFrame × State :=
  let x := s.sapDir p .rx
  let frame := (s.dom (s.fn (.sapRx p)).dom).frame
  if cfgMaster x.cfg then
    match x.buf with
    | y :: r => if y.tick + 2 ≤ frame then (some y, s.setSap p .rx { x with buf := r })
                else (some (SapFrame.of (slotIn x.cfg 0) frame s.now), s)
    | [] => (some (SapFrame.of (slotIn x.cfg 0) frame s.now), s)
  else if x.slipNow ∨ x.buf = [] then (none, s.setSap p .rx { x with slipNow := false })
  else match x.buf with
    | y :: r => (some y, s.setSap p .rx { x with buf := r })
    | [] => (none, s)

/-- Whether a starting receive direction has what it waits for (R355). -/
def State.rxReady (s : State) (p : Nat) : Bool :=
  let x := s.sapDir p .rx
  let frame := (s.dom (s.fn (.sapRx p)).dom).frame
  if cfgMaster x.cfg then x.buf.any fun y => decide (y.tick + 2 ≤ frame)
  else x.acquired && decide (s.sapBuffer p .rx / 2 ≤ x.buf.length)

/-- A receive direction in its buffer's domain at a tick: it presents a frame (R344, R355). -/
def State.tickSapRx (s : State) (p : Nat) : State :=
  let f := s.fn (.sapRx p)
  if s.sapForeign p .rx then s
  else
    let f := if f.phase = .starting ∧ 0 < f.wait ∧ s.rxReady p then { f with wait := 0 } else f
    if !f.active then (if f.phase = .starting then s else s.setFn (.sapRx p) f.frame)
    else
      let r := s.takeFrame p
      let s := match r.1 with
        | some y =>
          let x := r.2.sapDir p .rx
          let frame := (s.dom f.dom).frame
          let s := (r.2.setSap p .rx { x with delay := some (s.now - y.at_), restart := false, ready := true }).sapPoints p
            (y.slots.map (fadeOn f))
          if y.first || x.restart then s.maskFrame p .rx frame else s
        | none => r.2.sapPoints p ((List.replicate 32 slipSample).map (fadeOn f))
      let x := s.sapDir p .rx
      (s.setSap p .rx { x with ins := false, del := false }).setFn (.sapRx p) f.frame

/-- A transmit direction in its buffer's domain at a tick: it writes the samples of its sink points (R344, R356). -/
def State.tickSapTx (s : State) (p : Nat) : State :=
  let f := s.fn (.sapTx p)
  if s.sapForeign p .tx then s
  else if !f.active then (if f.phase = .starting then s else s.setFn (.sapTx p) f.frame)
  else
    let x := s.sapDir p .tx
    let frame := (s.dom f.dom).frame
    let s :=
      if s.sapMoving p .tx then
        let l := (List.range 32).map fun i => fadeOn f (s.delivered (sapPoint p + i))
        let slip := if x.slipNow then [SapFrame.of slipSample frame s.now] else []
        let new := if x.dropNext then [] else [{ slots := l, tick := frame, at_ := s.now, first := false }]
        s.setSap p .tx { x with buf := x.buf ++ slip ++ new, slipNow := false, dropNext := false, ins := false, del := false }
      else s
    let s := if x.restart then (s.setSap p .tx { s.sapDir p .tx with restart := false }).maskFrame p .tx frame else s
    s.setFn (.sapTx p) f.frame

/-! ## Frames of the ports -/

/-- A slave transmit direction begins a frame on its line (R344, R345, R351). -/
def State.txStart (s : State) (p : Nat) : State :=
  let f := s.fn (.sapTx p)
  let x := s.sapDir p .tx
  if s.sapForeign p .tx then
    let c := x.cfg
    let r := (List.range (cfgSlots c)).foldl (fun (a : List Sample × State) i =>
      let y := a.2.takeSink (sapPoint p + i) (a.2.rate f.dom)
      (a.1 ++ [fadeOn f y.1], y.2)) ([], s)
    let s := r.2.setSap p .tx { r.2.sapDir p .tx with line := r.2.onLine p (slotsOut c x.mask r.1), maskDue := false }
    let s := if x.maskDue || x.restart then
        (s.setSap p .tx { s.sapDir p .tx with restart := false }).maskFrame p .tx (s.dom f.dom).frame
      else s
    s.setFn (.sapTx p) f.frame
  else
    let s := s.setSap p .tx { x with fill := ((x.buf.length * 256 : Nat) : Int) - (s.sapBuffer p .tx * 128 : Nat) }
    let x := s.sapDir p .tx
    match x.buf with
    | y :: r =>
      let s := s.setSap p .tx { x with buf := r, line := s.onLine p (slotsOut x.cfg x.mask y.slots), delay := some (s.now - y.at_),
                                       maskDue := false }
      if y.first || x.maskDue then s.maskFrame p .tx y.tick else s
    | [] =>
      let s := s.setSap p .tx { x with line := s.onLine p (slotsOut x.cfg x.mask (List.replicate 32 slipSample)) }
      if s.sapMoving p .tx then s.ownSlip p .tx true else s

/-- A frame start of a slave direction (R349, R355, R357). -/
def State.sapStart (s : State) (p : Nat) (dir : SapDir) (bits : Nat) : State :=
  let x := s.sapDir p dir
  let f := s.fn (sapFunc p dir)
  if f.phase = .fault then
    let x := x.acquire bits s.now
    let s := s.setSap p dir x
    if x.acquired && !x.supply then
      if s.wants (sapFunc p dir) then (if s.sapReady p dir then s.startSap p dir true else s)
      else s.setFn (sapFunc p dir) { f with phase := .quiesced }
    else s
  else if !x.acquired then
    let s := s.setSap p dir (x.acquire bits s.now)
    if (s.sapDir p dir).acquired && f.phase == .starting then s.sapFramed p dir else s
  else
    let s := if bits = x.f then s else s.framingError p dir
    let s := s.maskAtStart p dir (s.maskLate p dir)
    let s := s.setSap p dir { s.sapDir p dir with startAt := s.now }
    if dir = .tx ∧ (f.active ∨ !(s.sapDir p .tx).buf.isEmpty) then s.txStart p else s

/-- A frame of a receive direction has ended (R344, R345, R351); one that ends at the instant of the next start keeps the mask it began
with (R349). [DEDUCED, log 86] -/
def State.sapComplete (s : State) (p : Nat) (l : List Nat) : State :=
  let x := s.sapDir p .rx
  let f := s.fn (.sapRx p)
  let frame := (s.dom f.dom).frame
  let master := cfgMaster x.cfg
  let tick := if master ∧ x.startAt = s.now then frame - 1 else frame
  let at_ := if master ∧ x.startAt = s.now then s.now - s.period f.dom else x.startAt
  let before := if x.startAt = s.now then x.oldMask else none
  let y : SapFrame := { slots := slotsIn x.cfg (before.getD x.mask) l, tick := tick, at_ := at_, first := x.maskDue && before.isNone }
  if s.sapForeign p .rx then
    let f := { f with wait := 0 }
    let s := s.setSap p .rx { x with doneAt := s.now, delay := some (s.now - y.at_), maskDue := x.maskDue && before.isSome,
                                     restart := false, ready := true }
    let s := if y.first || x.restart then s.maskFrame p .rx frame else s
    let l := y.slots.map (fadeOn f)
    let s := (List.range 32).foldl (fun s i => s.foreignIn (sapPoint p + i) (l.getD i .quiet)) (s.sapPoints p l)
    s.setFn (.sapRx p) f.frame
  else
    let s := s.setSap p .rx { x with doneAt := s.now }
    let s := if !master ∧ s.sapBuffer p .rx ≤ x.buf.length then
        let s := s.setSap p .rx (s.sapDir p .rx).drop
        if f.active then s.ownSlip p .rx false else s
      else s
    let x := s.sapDir p .rx
    s.setSap p .rx { x with buf := x.buf ++ [{ y with first := y.first || (x.maskDue && before.isNone) }],
                            maskDue := x.maskDue && before.isSome }

/-- PORT_FRAME (R345): a frame starts at the port, or a received frame ends. A master's frames start with the ticks of its
domain. -/
def execPortFrame (t p : Nat) (dir : SapDir) (ev : PortEvent) (s : State) : Host.Outcome State Fault Refusal :=
  let s := s.clock t
  let x := s.sapDir p dir
  if p < 16 ∧ (s.sapUp p dir ∨ s.phase (sapFunc p dir) = .fault) then
    match ev with
    | .start bits => .next (if cfgMaster x.cfg then s else s.sapStart p dir bits)
    | .complete slots =>
      if dir = .rx ∧ x.acquired ∧ s.sapUp p .rx then .next (s.sapComplete p slots) else .next s
  else .next s

/-! ## Readings and balls -/

/-- The phase that a direction shows: a master transmit direction that keeps its clocks waits in TEAL (R355). [DEDUCED, log 41] -/
def State.sapPhase (s : State) (p : Nat) (dir : SapDir) : Phase :=
  match s.phase (sapFunc p dir) with
  | .off =>
    if dir = .tx ∧ s.ms.mode = .teal ∧ s.wants (.sapTx p) ∧ cfgMaster (s.sapCfg p .tx) ∧ (s.sapCfg p .tx).testBit 12 ∧
        s.domReady (.sapTx p) then .quiesced
    else .off
  | x => x

/-- Whether a direction's data is launched on the falling edges of its bit clock, and sampled on the rising ones (R337). -/
def launchFalls (c : Nat) : Bool := !c.testBit 15

/-- The first bit of slot `i` in a frame of `f` bit clocks (R337). -/
def slotBit (c f i : Nat) : Nat :=
  match cfgFormat c with
  | 0 => 1 + i * (f / 2)
  | 1 => i * (f / 2)
  | _ => bits c 16 16 + i * cfgWidth c

/-- FS at the ball in bit clock `k` of a frame of `f` (R337). -/
def fsLevel (c f k : Nat) : Bool :=
  (match cfgFormat c with
   | 0 => decide (f / 2 ≤ k)
   | 1 => decide (k < f / 2)
   | _ => k == 0) != c.testBit 14

/-- Data bit `k` of a frame that carries `line` under the mask (R337, R341, R348): padding and inactive slots are low, or high-impedance
with HIZ_UNUSED. Bit `f` of a frame is bit 0 of the next, where the last slot of I²S may end. -/
def dataBit (c f mask : Nat) (line : List Word) (k : Nat) : BallState :=
  match (List.range (cfgSlots c)).find? fun i => decide (slotBit c f i ≤ k) && decide (k < slotBit c f i + cfgWidth c) with
  | some i =>
    if mask.testBit i then (if (line.getD i 0).getLsbD (cfgWidth c - 1 - (k - slotBit c f i)) then .high else .low)
    else if c.testBit 13 then .highZ else .low
  | none => if c.testBit 13 then .highZ else .low

/-- The configuration that a direction's balls follow: that in force while it is up, else the setting. -/
def State.sapBallCfg (s : State) (p : Nat) (dir : SapDir) : Nat :=
  if s.sapUp p dir then (s.sapDir p dir).cfg else s.sapCfg p dir

/-- Whether the balls that a direction drives are high-impedance: its domain is off, or COBALT without COBALT_DRIVE (R358). -/
def State.sapHighZ (s : State) (p : Nat) (dir : SapDir) : Bool :=
  !s.pdOn (sapFunc p dir).pdom || (s.ms.mode == .cobalt && !(s.sapBallCfg p dir).testBit 11)

/-- BCLK and FS of a direction (R129, R336, R341, R355): a master's run while it is up, or QUIESCED with KEEP_CLOCKS, and otherwise
rest low; a slave's are inputs. [DESIGN CHOICE, log 94] -/
def State.sapClocks (s : State) (p : Nat) (dir : SapDir) : BallState :=
  if s.sapHighZ p dir || !cfgMaster (s.sapBallCfg p dir) then .highZ
  else if s.sapUp p dir || (s.sapPhase p dir == .quiesced && (s.sapBallCfg p dir).testBit 12) then .signal
  else .low

/-- TX_D of port `p` in bit clock `k` of the frame on its line (R129, R348, R355, R357): low while the direction is not up. -/
def State.sapData (s : State) (p k : Nat) : BallState :=
  let x := s.sapDir p .tx
  if s.sapHighZ p .tx then .highZ
  else if s.sapUp p .tx then dataBit x.cfg x.f x.mask x.line k else .low

/-- `TX_STATUS` and `RX_STATUS` (R360). -/
def State.sapStatus (s : State) (p : Nat) (dir : SapDir) : Nat :=
  let x := s.sapDir p dir
  (s.mux (muxKey (.sap p dir))).st % 4 * 512 + bit x.alignLost 8 + bit (s.sapForeign p dir) 7 +
    bit (dir == .rx && s.isLeader (s.sapDomain p .rx) (sapPoint p) (sapPoint p + 31)) 6 + bit (s.ms.low.contains (sapRail p)) 5 +
    bit x.clockLost 4 + bit (s.recent x.framingAt) 3 + bit (s.recent x.slipAt) 2 + bit x.wait.isSome 1 +
    bit (s.rampingNow (sapFunc p dir)) 0

/-- The latency of a direction in ns (R344): a master's is fixed; an asynchronous one's is the group delay of its ASRC channels (R215) and
two frames, at the nominal rate. [DEDUCED, log 86] -/
def State.sapDelay (s : State) (p : Nat) (dir : SapDir) : Nat :=
  let c := s.sapCfg p dir
  if cfgMaster c then latencyNs (dirSub dir 1 2) (s.rate (s.sapDomain p dir)) 0
  else if s.sapForeign p dir then latencyNs 50 (s.rate (s.sapDomain p dir)) 0
  else match (s.sapDir p dir).delay with
    | some n => n
    | none => Config.unmeasured (key (0x3301 + p) (dirSub dir 0x16 0x17)) % 2 ^ 32

/-- The computed subs of a port (R359). -/
def State.readSap (s : State) (p sub : Nat) : Nat :=
  match sub with
  | 0x0E => s.sapStatus p .tx
  | 0x0F => s.sapStatus p .rx
  | 0x14 => unsigned 2 (s.sapDir p .tx).fill
  | 0x15 => unsigned 2 (s.sapDir p .rx).fill
  | 0x16 => s.sapDelay p .tx
  | 0x17 => s.sapDelay p .rx
  | _ => s.rd (0x3301 + p) sub

end Sys2Proof.Machine
end

