-- ==== Sys2Proof/Machine/Chain.lean ====
section
/-!
DEFINITION. Gendenlink (12_chain.md, R363 to R402): the chain ports, forming and joining a chain, time, slots, forwarding
and wake beacons.
-/

set_option autoImplicit false

namespace Sys2Proof.Machine

/-! ## Ports -/

/-- The index of a chain port (R401). -/
def portIndex (p : ChPort) : Nat :=
  match p with
  | .cha => 0x4001
  | .chb => 0x4002
/-- The other chain port. -/
def otherPort (p : ChPort) : ChPort :=
  match p with
  | .cha => .chb
  | .chb => .cha
/-- The device's unique ID. -/
def uid : Nat := Config.uniqueId.toNat

/-- `PORT_MODE` (R363). -/
def State.portMode (s : State) (p : ChPort) : Nat := s.rd (portIndex p) 2

/-- The data rate of a port mode: 1 for 2.5 Gb/s, 2 for 1 Gb/s (R363). -/
def modeRate (m : Nat) : Nat := if m = 1 then 1 else 2

/-- Whether a port is an edge port (R365, R401). -/
def State.isEdge (s : State) (p : ChPort) : Bool := s.rd (portIndex p) 3 == 2 || ((s.port p).up && (s.port p).st == 4)

/-- Whether a port has a chain link: its link is up, a HELLO has arrived, and it is no edge port and not refused. -/
def State.chainLink (s : State) (p : ChPort) : Bool :=
  (s.port p).up && (s.port p).helloAt.isSome && !s.isEdge p && (s.port p).st != 5

/-- The ports with a chain link. -/
def State.chainLinks (s : State) : List ChPort := [ChPort.cha, .chb].filter s.chainLink

/-- `PORT_STATE` (R401). -/
def State.portState (s : State) (p : ChPort) : Nat :=
  if s.portMode p = 0 || !s.pdOn 11 then 0 else if !(s.port p).up then 1 else if s.isEdge p then 4 else (s.port p).st

/-- `CHAIN_STATE` (R400). -/
def State.chainState (s : State) : Nat := if s.chainLinks.isEmpty && s.net.st != 5 then 0 else s.net.st

/-- Whether the node is admitted: member or head. -/
def State.inChain (s : State) : Bool := s.net.st == 3 || s.net.st == 4

/-- A bit of `CHAIN_FLAGS`. -/
def State.setFlag (s : State) (n : Nat) (b : Bool) : State := s.mapNet fun x => { x with flags := setBit x.flags n b }

/-- The data rate that a port has to have (R363): that of the other chain link, or its own mode's where it is the only one. [DEDUCED, log 77] -/
def State.rateFor (s : State) (p : ChPort) : Nat :=
  modeRate (s.portMode (if s.chainLink (otherPort p) then otherPort p else p))

/-- The chain's data rate as the node knows it. -/
def State.chainRate (s : State) : Nat :=
  match s.chainLinks with
  | p :: _ => modeRate (s.portMode p)
  | [] => modeRate (s.portMode .cha)

/-- A TOPOLOGY frame out of the chain links of a list of ports. -/
def State.tell (s : State) (l : List ChPort) (m : TopoMsg) : State :=
  (l.filter s.chainLink).foldl (fun s p => s.send (.topology p m)) s

/-! ## Flows of a node that leaves -/

/-- The chain flows of the settings. -/
def chainFlows : List Func := (List.range 16).map .flowTx ++ (List.range 32).map .flowRx

/-- The flows that are not bound to an AES67 flow (R395). -/
def State.unboundFlows (s : State) : List Func :=
  chainFlows.filter fun f => match f with
    | .flowTx n => (s.aesBound n).isNone
    | .flowRx r => (s.aesBound (0x10 + r)).isNone
    | _ => false

/-- The chain flows stop without drain or ramp: they read FAULT until the node is in a chain again (R388). -/
def State.faultFlows (s : State) : State :=
  (s.unboundFlows.filter fun f => match s.phase f with
    | .starting => true | .running => true | .draining => true | .ramping => true | _ => false).foldl State.faultFn s

/-- The node leaves its chain (R377, R388). -/
def State.leaveChain (s : State) : State :=
  let s := s.faultFlows
  let s := s.mapNet fun n => { n with node := 0xFFFF, position := 0xFFFF, headId := 0, nodes := 0, topology := 0,
                                      members := [], everSync := false, flags := n.flags % 2 ^ 4 &&& 8 }
  ((s.wr 0x4003 2 0).wr 0x4003 3 3).wr 0x4003 5 0

/-! ## Slots -/

/-- The slot table of the chain (R371). -/
def slotTable (rate : Nat) : Nat := if rate = 1 then 64 else 28

/-- The slots that the head has granted to others than `u`. -/
def State.slotsUsed (s : State) (u : Nat) : Nat := ((s.net.members.filter fun m => m.uid != u).map (·.slots)).sum

/-- A member's slots as the head keeps them. -/
def State.setSlots (s : State) (u k : Nat) : State :=
  s.mapNet fun n =>
    if n.members.any fun m => m.uid == u then
      { n with members := n.members.map fun m => if m.uid = u then { m with slots := k } else m }
    else { n with members := n.members ++ [{ uid := u, number := 0xFFFF, slots := k }] }

/-- The enabled transmit flows that need a slot, in ascending order. -/
def State.slotFlows (s : State) : List Nat :=
  (List.range 16).filter fun f => s.wants (.flowTx f) && (s.aesBound f).isNone

/-- The flows of a node after a grant of `k` slots: those without a slot enter FAULT with NO_SLOT (R371). -/
def State.keepSlots (s : State) (k : Nat) : State :=
  (s.slotFlows.drop k).foldl (fun s f =>
    let s := s.setTx f { s.txFlow f with noSlot := true }
    match s.phase (.flowTx f) with
    | .off => s
    | .quiesced => s
    | .fault => s
    | _ => s.faultFn (.flowTx f)) s

/-- An answer of the head to this node's request (R371). -/
def State.granted371 (s : State) (k free : Nat) : State :=
  let s := (((s.wr 0x4003 2 k).wr 0x4003 3 0).wr 0x4003 5 free).wr 0x4003 4 (slotTable s.chainRate)
  let s := s.keepSlots k
  (s.slotFlows.take k).foldl (fun s f => s.setTx f { s.txFlow f with noSlot := false }) s

/-- The head answers a request (R371): all of it or nothing. -/
def State.answerShare (s : State) (u k : Nat) : State :=
  let free := slotTable s.chainRate - s.slotsUsed u
  if k ≤ free then
    let s := s.setSlots u k
    if u = uid then s.granted371 k (free - k) else s.send (.share (.grant u k (free - k)))
  else if u = uid then (s.wr 0x4003 3 2).wr 0x4003 5 (free - ((s.net.members.filter fun m => m.uid == u).map (·.slots)).sum)
  else s.send (.share (.refuse u free))

/-- The node asks the head for its `SHARE_REQUEST` (R371). -/
def State.askShare (s : State) : State :=
  let k := s.rd 0x4003 1
  if s.net.st = 4 then s.answerShare uid k
  else if s.net.st = 3 then (s.wr 0x4003 3 1).send (.share (.request uid k))
  else s.wr 0x4003 3 3

/-- Every grant lapses under a new head, and the node asks again (R371). [DEDUCED, log 77] -/
def State.newHead (s : State) : State :=
  let s := s.wr 0x4003 2 0
  if s.rd 0x4003 1 = 0 then s else s.askShare

/-! ## Presentation -/

/-- The longest hop of R372 in ns. -/
def hopMax (rate : Nat) : Nat := if rate = 1 then 3600 else 8400

/-- `PRES_MIN` (R381): one link is the node's own; a longer path is as its head knows it. [DESIGN CHOICE, log 15] -/
def State.presMin (s : State) : Nat :=
  let n := s.net.nodes
  let own : Nat := match s.chainLinks with
    | p :: _ => s.rd (portIndex p) 6
    | [] => 0
  let links := if n ≤ 1 then 0 else if n = 2 then own else Config.pathDelay n
  (350000 + (n - 1) * hopMax s.chainRate + links + 124999) / 125000

/-- PRES_SHORT follows the delay in force (R381); each setting is an event. -/
def State.checkPres (s : State) : State :=
  let short := s.inChain && decide (s.net.presentation < s.presMin)
  let was := s.net.flags.testBit 3
  let s := s.setFlag 3 short
  if short && !was then s.event 0x74 0x4000 else s

/-- A receive flow takes a new presentation delay: it ramps out first (R381). -/
def State.movePres (s : State) (r : Nat) : State :=
  let x := s.rxFlow r
  match s.phase (.flowRx r) with
  | .running => s.setRx r { x with cyc := .out, gain := x.gain.to none (s.framp (.flowRx r)) }
  | .starting => s.setRx r { x with pres := s.net.presentation }
  | _ => s

/-- The delay in force becomes `p` (R381). -/
def State.setPres (s : State) (p : Nat) : State :=
  let s := s.mapNet fun n => { n with presentation := p, presNext := none }
  ((List.range 32).foldl State.movePres s).checkPres

/-- PRESENTATION_CHANGE (R381). -/
def execPresentationChange (t : Nat) (s : State) : Host.Outcome State Fault Refusal :=
  let s := s.clock t
  match s.net.presNext with
  | some x => .next (if x.2 ≤ s.now then s.setPres x.1 else s)
  | none => .next s

/-- A write of `PRESENTATION_SET` at the head is announced 100 ms ahead (R381). -/
def State.announcePres (s : State) : State :=
  if s.net.st = 4 ∧ s.net.presentation ≠ s.rd 0x4000 8 then
    s.mapNet fun n => { n with presNext := some (s.rd 0x4000 8, s.now + 100000000) }
  else s

/-! ## Links -/

/-- A ring is broken: HEALS and the event, once (R376). -/
def State.ringBroken (s : State) : State :=
  if s.net.topology = 1 then
    ((s.mapNet fun n => { n with topology := 2 }).bump 0x4000 0x0F).event 0x72 0x4000
  else s

/-- The link of a port goes down (R365, R376). -/
def State.dropLink (s : State) (port : ChPort) : State :=
  if (s.port port).up then
    let ring := s.chainLink port && s.net.topology == 1 && s.inChain
    let edge := s.isEdge port
    let i := portIndex port
    let s := (((s.setPort port .down).bump i 7).event 0x70 i)
    let s := (((s.wr i 4 0).wr i 5 0xFFFF).wr i 6 0).wr i 9 0
    let s := if edge then s.mapNet fun n => { n with extLocked := false } else s
    let s := s.askMux (rxMux port) 6
    let s := if ring then (s.ringBroken).tell [otherPort port] (.linkReport true) else s
    if s.chainLinks.isEmpty && (s.net.st == 1 || s.net.st == 2 || s.net.st == 5) then
      s.mapNet fun n => { n with st := 0, claimAt := none, best := none }
    else s
  else s

/-- LINK_DOWN (R365). -/
def execLinkDown (t : Nat) (port : ChPort) (s : State) : Host.Outcome State Fault Refusal :=
  let s := s.clock t
  .next (s.dropLink port)

/-- HELLO_SEND (R365): every 1 ms while the link is up. -/
def execHelloSend (t : Nat) (port : ChPort) (s : State) : Host.Outcome State Fault Refusal :=
  let s := s.clock t
  let x := s.port port
  if x.up && !s.isEdge port && (x.sentAt == 0 || decide (x.sentAt + 1000000 ≤ s.now)) then
    let s := s.setPort port { x with sentAt := s.now }
    .next (s.send (.hello port uid s.net.node s.net.headId (if s.net.st = 2 ∨ s.net.st = 3 then s.net.headPrio else s.rd 0x4000 7) (s.rateFor port)))
  else .next s

/-- Whether claimant `a` (unique ID, priority, external time) is better than `b` (R373). -/
def betterClaim (a b : Nat × Nat × Bool) : Bool :=
  if a.2.1 ≠ b.2.1 then decide (a.2.1 < b.2.1) else if a.2.2 != b.2.2 then a.2.2 else decide (a.1 < b.1)

/-- This node's claim. -/
def State.ownClaim (s : State) : Nat × Nat × Bool := (uid, s.rd 0x4000 7, s.rd 0x4000 0x11 == 1 && s.net.extLocked)

/-- HELLO (R365, R375, R377). -/
def State.takeHello (s : State) (port : ChPort) (u node headUid headPrio rate : Nat) : State :=
  let i := portIndex port
  let x := s.port port
  let s := (s.wr i 4 u).wr i 5 node
  let first := x.helloAt.isNone
  let s := s.setPort port { x with helloAt := some (x.helloAt.getD s.now), st := if x.st = 4 then 2 else x.st }
  let x := s.port port
  let s := if headUid ≠ 0 ∧ headUid = s.net.headId ∧ s.net.st ≠ 4 then s.mapNet fun n => { n with headPrio := headPrio } else s
  if rate ≠ s.rateFor port ∨ modeRate (s.portMode port) ≠ s.rateFor port then
    let s := (s.setPort port { x with st := 5 }).wr i 9 1
    if s.chainLinks.isEmpty ∧ !s.inChain then s.mapNet fun n => { n with st := 5, retryAt := s.now + 10000000000 } else s
  else if s.inChain then
    if headUid = 0 ∨ (s.net.st = 4 ∧ headUid = s.net.headId) then (if x.st = 2 then s.setPort port { x with st := 3 } else s)
    else if headUid ≠ s.net.headId then
      if betterClaim (headUid, headPrio, false) (s.net.headId, if s.net.st = 4 then s.rd 0x4000 7 else s.net.headPrio, false) then
        let s := s.leaveChain.mapNet fun n => { n with st := 2, headId := headUid, headPrio := headPrio }
        s.setPort port { s.port port with st := 2, exchanges := 0 }
      else s
    else if first && s.net.st == 3 && decide (s.net.csAt + 1000000000 ≤ s.now) then
      s.leaveChain.mapNet fun n => { n with st := 2, headId := headUid, headPrio := headPrio }
    else s
  else if headUid ≠ 0 then
    if s.net.st = 5 then s else s.mapNet fun n => { n with st := 2, headId := headUid, headPrio := headPrio }
  else if s.net.st = 0 then s.mapNet fun n => { n with st := 1 }
  else s

/-- HELLO (R365). -/
def execHello (t : Nat) (port : ChPort) (u node headUid headPrio rate : Nat) (s : State) :
    Host.Outcome State Fault Refusal :=
  let s := s.clock t
  if (s.port port).up && s.rd (portIndex port) 3 != 2 then .next (s.takeHello port u node headUid headPrio rate) else .next s

/-- The servo's steer goes to `goal`, within ±200 ppm, by at most 1 ppb for each cycle of the slowest reference of SYN_A and SYN_B (R379). [DEDUCED, log 14] -/
def State.steerChain (s : State) (goal : Int) : State :=
  let x := s.net.servo
  let cur := x.steer s.now
  let due := decide (x.histAt + 1000000 ≤ s.now)
  let slow := (s.syn .a).scale == 2 || (s.syn .b).scale == 2
  s.mapNet fun n =>
    { n with servo := { from_ := cur, goal := within 200000 goal, at_ := s.now, rate := if slow then 12288 else 24576,
                        hist := if due then (cur :: x.hist).take 1000 else x.hist, histAt := if due then s.now else x.histAt } }

/-! ## Forming and joining -/

/-- The node stands for head: it claims out of its chain links, and its claim counts (R373). [DEDUCED, log 77] -/
def State.standClaim (s : State) : State :=
  let c := s.ownClaim
  (s.tell s.chainLinks (.claim c.1 c.2.1 c.2.2)).mapNet fun n => { n with best := match n.best with
    | some b => if betterClaim c (b.1, b.2.2, b.2.1) then some (c.1, c.2.2, c.2.1) else some b
    | none => some (c.1, c.2.2, c.2.1) }

/-- HEAD_CLAIM (R373): an end of a line is eligible. A node with two chain links is so only in a ring: it first claims as one that is
never eligible, and stands for head when that claim has come round. [DEDUCED, log 77] -/
def execHeadClaim (t : Nat) (s : State) : Host.Outcome State Fault Refusal :=
  let s := s.clock t
  let l := s.chainLinks
  let quiet := match s.net.st with
    | 1 => l.any fun p => match (s.port p).helloAt with
        | some a => decide (a + 10000000 ≤ s.now)
        | none => false
    | 3 => decide (s.net.csAt + 1000000000 ≤ s.now)
    | _ => false
  if quiet && !l.isEmpty && s.net.claimAt.isNone then
    let s := if s.net.st = 3 then s.leaveChain.mapNet fun n => { n with st := 1 } else s
    let s := s.mapNet fun n => { n with claimAt := some s.now }
    if s.rd 0x4000 7 = 255 then .next s
    else if l.length = 1 then .next s.standClaim
    else .next (s.tell l (.claim uid 255 s.ownClaim.2.2))
  else .next s

/-- The node becomes head (R373, R374): it takes number 0 and sends the enumeration. -/
def State.becomeHead (s : State) : State :=
  let l := s.chainLinks
  let s := l.foldl (fun s p => s.setPort p { s.port p with st := 3 }) s
  let s := s.mapNet fun n =>
    { n with st := 4, node := 0, position := 0, headId := uid, nodes := 1, topology := 0, everSync := true, csAt := s.now,
             members := [{ uid := uid, number := 0, slots := 0 }], presentation := s.rd 0x4000 8,
             flags := 1, claimAt := none, best := none }
  let s := s.steerChain 0
  let s := s.wr 0x4003 4 (slotTable s.chainRate)
  let s := s.newHead
  (s.tell (l.take 1) (.enumerate 0)).checkPres

/-- The lowest number that no member has. -/
def State.freeNumber (s : State) : Nat :=
  ((List.range 1024).find? fun k => !s.net.members.any fun m => m.number == k).getD 0

/-- The head answers a join (R375). [DEDUCED, log 77] -/
def State.answerJoin (s : State) (port : ChPort) (u retained : Nat) : State :=
  if 1024 ≤ s.net.nodes then s.send (.topology port (.joinRefuse u 2))
  else
    let free (k : Nat) : Bool := decide (k < 1024) && !s.net.members.any fun m => m.number == k && m.uid != u
    let k := if free retained then retained else s.freeNumber
    let s := s.mapNet fun n =>
      { n with members := (n.members.filter fun m => m.uid != u) ++ [{ uid := u, number := k, slots := 0 }],
               nodes := if n.members.any fun m => m.uid == u then n.nodes else n.nodes + 1 }
    (s.send (.topology port (.joinGrant u k))).checkPres

/-- A join request of this node out of its chain links (R375, step 4). [DEDUCED, log 77] -/
def State.askJoin (s : State) : State := s.tell s.chainLinks (.joinRequest uid (s.rd 0x2003 3))

/-- The members numbered up to `k` by an enumeration, of which the head knows no unique ID yet (R374). [DEDUCED, log 77] -/
def numbered (l : List Member) (k : Nat) : List Member :=
  (((List.range k).map (· + 1)).filter fun j => !l.any fun m => m.number == j).map fun j => { uid := 0, number := j, slots := 0 }

/-- A TOPOLOGY frame is acted on, or passed to the other port (R373 to R376). [DEDUCED, log 77] -/
def State.takeTopology (s : State) (port : ChPort) (m : TopoMsg) : State :=
  let pass (s : State) (m : TopoMsg) : State := s.tell [otherPort port] m
  match m with
  | .claim u prio ext =>
    if u = uid then
      (if prio = 255 ∧ s.rd 0x4000 7 ≠ 255 ∧ s.net.st = 1 ∧ s.net.claimAt.isSome then s.standClaim else s)
    else
    let s := pass s m
    if s.inChain || prio == 255 then s
    else
      let better := match s.net.best with
        | some b => betterClaim (u, prio, ext) (b.1, b.2.2, b.2.1)
        | none => true
      if better then s.mapNet fun n => { n with best := some (u, ext, prio), claimAt := some s.now } else s
  | .enumerate k =>
    if s.net.st = 4 then
      if k = 0 then s
      else ((s.mapNet fun n => { n with nodes := max n.nodes (k + 1), members := n.members ++ numbered n.members k,
                                        topology := if s.chainLinks.length = 2 then 1 else 0 })).checkPres
    else if s.net.node = 0xFFFF then
      let s := s.mapNet fun n => { n with node := k + 1, position := k + 1, st := 3, csAt := s.now, claimAt := none,
                                          headPrio := (match n.best with
                                            | some b => b.2.2
                                            | none => n.headPrio), best := none, goodSince := s.now, flags := n.flags &&& 8 }
      let s := s.chainLinks.foldl (fun s p => s.setPort p { s.port p with st := 3 }) s
      if s.chainLink (otherPort port) then pass s (.enumerate (k + 1)) else s.tell [port] (.enumerate (k + 1))
    else pass s m
  | .joinRequest u r => if s.net.st = 4 then s.answerJoin port u r else pass s m
  | .joinGrant u k =>
    if u = uid then
      (if s.net.st = 2 then s.mapNet fun n => { n with node := k, position := k, goodSince := s.now } else s)
    else pass s m
  | .joinRefuse u c =>
    if u = uid then
      if s.net.st = 2 then
        let s := (s.setPort port { s.port port with st := 5 }).wr (portIndex port) 9 c
        s.mapNet fun n => { n with st := 5, retryAt := s.now + 10000000000 }
      else s
    else pass s m
  | .linkReport broken =>
    let s := pass s m
    if broken then s.ringBroken
    else if s.net.topology = 2 then s.mapNet fun n => { n with topology := 1 } else s

/-- PEER_DELAY (R378): an exchange, 15.625 ms after the last; the eighth exchange of a joining node makes `LINK_DELAY` valid and sends its JOIN (R375). -/
def execPeerDelay (t : Nat) (port : ChPort) (ns : Nat) (s : State) : Host.Outcome State Fault Refusal :=
  let s := s.clock t
  let x := s.port port
  if s.chainLink port && (x.exchanges == 0 || decide (x.delayAt + 15625000 ≤ s.now)) then
    let k := x.exchanges + 1
    let s := s.setPort port { x with exchanges := k, delayAt := s.now }
    let s := if 8 ≤ k then s.wr (portIndex port) 6 (ns % 2 ^ 32) else s
    .next (if s.net.st = 2 ∧ s.net.node = 0xFFFF ∧ k = 8 then s.askJoin else s)
  else .next s

/-- JOIN_RETRY (R375). -/
def execJoinRetry (t : Nat) (s : State) : Host.Outcome State Fault Refusal :=
  let s := s.clock t
  if s.net.st = 5 ∧ s.net.retryAt ≤ s.now then
    let l := [ChPort.cha, .chb].filter fun p => (s.port p).up && (s.port p).st == 5 && s.rd (portIndex p) 9 == 2
    if l.isEmpty then .next (s.mapNet fun n => { n with retryAt := s.now + 10000000000 })
    else
      let s := l.foldl (fun s p => (s.setPort p { s.port p with st := 2 }).wr (portIndex p) 9 0) s
      let s := s.mapNet fun n => { n with st := 2, retryAt := s.now + 10000000000 }
      .next s.askJoin
  else .next s

/-- A join completes (R375, step 6): forwarding begins, and a ring closes. -/
def State.joined (s : State) : State :=
  let fresh := s.net.st == 2
  let s := s.chainLinks.foldl (fun s p => s.setPort p { s.port p with st := 3 }) s
  let s := (s.setFlag 0 true).mapNet fun n => { n with st := 3, everSync := true }
  let s := if s.net.topology = 2 ∧ s.chainLinks.length = 2 then
      (s.mapNet fun n => { n with topology := 1 }).tell s.chainLinks (.linkReport false)
    else s
  let s := if fresh then ((s.bump 0x4000 0x0E).event 0x73 0x4000).newHead else s
  s.checkPres

/-- NODE_RELEASE (R375): the number and the slots return. -/
def execNodeRelease (t node : Nat) (s : State) : Host.Outcome State Fault Refusal :=
  let s := s.clock t
  if s.net.st = 4 ∧ node ≠ 0 ∧ node < 1024 then
    let had := s.net.members.any fun m => m.number == node
    .next (s.mapNet fun n =>
      { n with members := n.members.filter fun m => m.number != node,
               nodes := if had ∨ node < n.nodes then n.nodes - 1 else n.nodes }).checkPres
  else .next s

/-! ## Time -/

/-- CHAIN_HOLDOVER (R380): the steer goes to its mean over the last second and stays there. -/
def execChainHoldover (t : Nat) (s : State) : Host.Outcome State Fault Refusal :=
  let s := s.clock t
  if s.net.st = 3 ∧ !s.net.flags.testBit 1 ∧ s.net.csAt + 1000000 ≤ s.now then
    let x := s.net.servo
    let s := s.steerChain (if x.hist.isEmpty then x.steer s.now else meanOf x.hist)
    .next ((s.setFlag 1 true).mapNet fun n => { n with holdAt := s.now })
  else .next s

/-- CHAIN_SYNC_LOSS (R380). -/
def execChainSyncLoss (t : Nat) (s : State) : Host.Outcome State Fault Refusal :=
  let s := s.clock t
  if s.net.st = 3 ∧ s.net.flags.testBit 1 ∧ s.net.holdAt + 10000000000 ≤ s.now then .next (s.setFlag 0 false) else .next s

/-- The whole number of 10 ms intervals nearest a difference, in ns (R380). -/
def gridStep10 (x : Int) : Int := roundRat ((x : Rat) / 10000000) * 10000000

/-- The part of an offset that the servo takes out in `ns` nanoseconds, at up to 100 ppm (R380). -/
def slew (x : Int) (ns : Nat) : Int := max (-((ns / 10000 : Nat) : Int)) (min ((ns / 10000 : Nat) : Int) x)

/-- The time base follows an offset from the head (R379, R380): a node that joins steps to the head's time, one that
returns from holdover steps by whole 10 ms, and the rest is slewed. -/
def State.steerTime (s : State) (offset : Int) (elapsed : Nat) : State :=
  let joining := s.net.st == 2 && !s.net.everSync && decide (offset.natAbs > 500)
  let step : Int := if joining then offset
    else if 5000000 < offset.natAbs then gridStep10 offset else 0
  let rest := offset - step
  let s := if joining || step == 0 then s else s.faultFlows
  let s := { s with ptpOffset := s.ptpOffset - step - slew rest elapsed }
  let s := s.steerChain (if s.rd 0x4000 0x0C = 1 then Config.servoStep rest (s.net.servo.steer s.now) else 0)
  let good := decide (rest.natAbs ≤ 500)
  (s.wr 0x4000 0x10 (unsigned 4 rest)).mapNet fun n =>
    { n with offset := rest, goodSince := if good && decide (n.offset.natAbs ≤ 500) && n.csAt != 0 then n.goodSince else s.now }

/-- The offset that a CYCLE_START shows: the node's own time of arrival less the head's (R370, R378). -/
def State.csOffset (s : State) (port : ChPort) (f : CycleStartFrame) : Int :=
  (s.ptp : Int) - ((f.time : Int) + f.correction / 65536 + (s.rd (portIndex port) 6 : Nat))

/-- The header of the frames that this node sends (R367). [DEDUCED, log 78] -/
def State.header (s : State) (kind : Nat) (cycle dst field : Nat) (copy : Bool) : FrameHdr :=
  { version := 1, kind := kind, cycle := cycle % 65536, src := uid % 2 ^ 40, srcNode := s.net.node, dst := dst, hops := 0,
    flags := (if s.ms.mode = .cobalt then 0x80 else 0) + (if s.chainSync && s.rd 0x4000 0x0C == 1 then 0 else 0x40) +
      (if copy then 0x20 else 0),
    field := field }

/-- Whether a port forwards chain traffic to the other one. [DEDUCED, log 78] -/
def State.forwards (s : State) (port : ChPort) : Bool :=
  s.chainLink port && s.chainLink (otherPort port) && (s.port port).st == 3 && (s.port (otherPort port)).st == 3

/-- The CYCLE_START of a port, forwarded with the residence time and the delay of its link (R370). -/
def State.forwardCs (s : State) (port : ChPort) (f : CycleStartFrame) : State :=
  if s.forwards port then
    s.send (.cycleStart (otherPort port)
      { f with hdr := { f.hdr with hops := f.hdr.hops + 1 },
               correction := f.correction + 65536 * (s.rd (portIndex port) 6 : Nat) +
                 (Config.residence s.now % (65536 * hopMax s.chainRate + 1) : Nat) })
  else s

/-- What a member takes from a CYCLE_START (R370, R374, R379 to R381). -/
def State.takeCs (s : State) (port : ChPort) (f : CycleStartFrame) : State :=
  let was := s.net.headId
  let elapsed := if s.net.csAt = 0 then 0 else s.now - s.net.csAt
  let s := s.steerTime (s.csOffset port f) elapsed
  let broke := s.net.topology == 1 && f.topology == 2
  let s := if broke then s.ringBroken else s
  let s := s.mapNet fun n =>
    { n with csAt := s.now, cycle := f.time / 125000, headId := f.headId, nodes := f.nodes, topology := f.topology,
             flags := setBit (setBit n.flags 1 false) 2 false, position := if n.node = 0xFFFF ∨ (f.topology ≠ 0 ∧ f.hdr.flags.testBit 5) then n.position else f.hdr.hops + 1 }
  let s := s.wr 0x4003 4 (slotTable f.rate)
  let s := if s.net.st = 2 ∧ !s.net.everSync then s.setPres f.presentation
    else if f.presentation ≠ s.net.presentation ∧ s.net.presNext.isNone then
      s.mapNet fun n => { n with presNext := some (f.presentation, s.now) }
    else s
  let s := if s.net.st = 3 ∧ was ≠ f.headId then s.newHead else s
  s.checkPres

/-! ## Beacons -/

/-- The ports that emit a beacon: the link is down, no edge port, switched on, and no external PHY (R398, R399). -/
def State.beaconPorts (s : State) : List ChPort :=
  [ChPort.cha, .chb].filter fun p => !(s.port p).up && s.rd (portIndex p) 3 != 2 && s.portMode p != 0 && s.portMode p != 3

/-- The beacons of a node for a wake target (R398). -/
def State.emitBeacons (s : State) (target : Nat) : State :=
  s.beaconPorts.foldl (fun s p => s.send (.beacon p target (min 1023 (s.net.node + 1)) true)) s

/-- Whether a mode is one of the awake ones of R398. -/
def Mode.awake (m : Mode) : Bool :=
  match m with
  | .teal => true | .ivory => true | .cobalt => true | .pearl => true
  | _ => false

/-- What SEND_BEACON does beside its transaction (R398). -/
def State.sendBeacons (s : State) (target : Nat) : State :=
  let s := s.emitBeacons target
  if s.inChain then s.send (.beaconRequest target (some uid)) else s

/-- BEACON_REQUEST (R398). -/
def execBeaconRequest (t : Nat) (port : ChPort) (target : Nat) (s : State) : Host.Outcome State Fault Refusal :=
  let s := s.clock t
  if s.chainLink port then
    let s := if s.forwards port then s.send (.beaconRequest target none) else s
    if target ≠ 4 ∧ target ≠ 5 then .next (s.event 0x71 (portIndex port))
    else
      let fresh := match s.net.requestAt with
        | some a => decide (a + 1000000000 ≤ s.now)
        | none => true
      let s := s.mapNet fun n => { n with requestAt := some s.now }
      .next (if fresh && Mode.awake s.ms.mode && s.inChain then s.emitBeacons target else s)
  else .next s

/-! ## Forwarding -/

/-- FRAME_FORWARD (R364, R368, R372): a frame cut through from one chain port to the other. [DEDUCED, log 78] -/
def execFrameForward (t : Nat) (port : ChPort) (f : ChainFrame) (s : State) : Host.Outcome State Fault Refusal :=
  let s := s.clock t
  if !s.chainLink port then .next s
  else if 580 < f.length then .next (s.bump (portIndex port) 8)
  else
    let s := if f.fcs = .bad then s.bump (portIndex port) 8 else s
    let known := f.hdr.version == 1
    let s := if known && f.fcs == .good && (decide (f.hdr.kind < 1) || decide (0x0B < f.hdr.kind)) then
        s.event 0x71 (portIndex port)
      else s
    let own := f.hdr.srcNode == s.net.node && s.net.node != 0xFFFF
    let home := f.hdr.kind == 2 && s.rd (portIndex (otherPort port)) 5 == f.hdr.srcNode && f.hdr.srcNode != 0xFFFF
    if known && s.forwards port && !own && !home then
      let g : ChainFrame :=
        { f with hdr := { f.hdr with hops := f.hdr.hops + 1 }, fcs := if f.fcs = .good then .good else .inverted }
      .next (s.send (.forward (otherPort port) g))
    else .next s

/-- EDGE_PTP_MESSAGE (R378, R396): the gateway follows the PTP master of its edge port while `EXT_TIME` is 01h. [DEDUCED, log 79] -/
def execEdgePtpMessage (t : Nat) (port : ChPort) (locked : Bool) (offset : Int) (s : State) :
    Host.Outcome State Fault Refusal :=
  let s := s.clock t
  if (s.port port).up && s.isEdge port && s.rd 0x4000 0x11 == 1 then
    let s := s.mapNet fun n => { n with extLocked := locked }
    .next (if locked ∧ (s.net.st = 4 ∨ s.chainLinks.isEmpty) then { s with ptpOffset := s.ptpOffset - offset } else s)
  else .next s

/-! ## Readings and balls -/

/-- The transmit balls of a chain port (R129, R363, R366): high-impedance in mode 00h and without power, in electrical idle while SYN_S
does not run. -/
def State.chainBall (s : State) (p : ChPort) : BallState :=
  if s.portMode p = 0 || !s.pdOn 11 then .highZ else if s.phase (.syn .s) = .running then .signal else .idle

/-- The computed subs of 4000h (R400). -/
def State.read4000 (s : State) (sub : Nat) : Nat :=
  match sub with
  | 1 => s.net.node
  | 3 => s.chainState
  | 4 => s.net.topology
  | 5 => s.net.nodes
  | 6 => s.net.position
  | 9 => s.net.presentation
  | 0x0A => s.presMin
  | 0x0B => setBit s.net.flags 0 s.chainSync
  | _ => s.rd 0x4000 sub

/-- The computed subs of a chain port (R401). -/
def State.readPort (s : State) (p : ChPort) (sub : Nat) : Nat := if sub = 1 then s.portState p else s.rd (portIndex p) sub

/-- The computed subs of 4003h (R402). -/
def State.read4003 (s : State) (sub : Nat) : Nat :=
  if sub = 3 ∧ !s.inChain ∧ s.rd 0x4003 1 ≠ 0 then 3 else s.rd 0x4003 sub

end Sys2Proof.Machine
end

