-- ==== Sys2Proof/Machine/Flows.lean ====
section
/-!
DEFINITION. The audio of the chain (R369, R376, R382 to R390, R395 to R397): transmit and receive flows, CYCLE_START,
AES67 flows, and the alignment groups that join flows and serial ports (R352 to R354, R361).
-/

set_option autoImplicit false

namespace Sys2Proof.Machine

/-! ## Settings -/

/-- The number of channels that a flow may have at rate `fs` (R382). -/
def maxChannels (fs : Nat) : Nat := if fs ≤ 48000 then 16 else if fs ≤ 96000 then 8 else 4

/-- The settings of a flow: its channels, packing and domain. -/
def State.flowCfg (s : State) (f : Func) : Nat × Nat × Nat :=
  match f with
  | .flowTx n => (s.rd (0x4010 + n) 3, s.rd (0x4010 + n) 4, s.rd (0x4010 + n) 5)
  | .flowRx r => (s.rd (0x4020 + r) 6, s.rd (0x4020 + r) 7, s.rd (0x4020 + r) 8)
  | _ => (0, 0, 0)

/-- Whether a flow is one that R382 and R213 allow: its domain is one that the layout has, and an enabled flow carries no more
channels than its rate allows. [DEDUCED, log 38] -/
def State.flowOk (s : State) (f : Func) : Bool :=
  let c := s.flowCfg f
  decide (c.2.2 < s.domCount) && (!s.wants f || decide (c.1 ≤ maxChannels (s.confRate c.2.2)))

/-- Whether the enabled transmit flows fit the slots granted (R388). -/
def State.slotsOk (s : State) : Bool := decide (s.slotFlows.length ≤ s.rd 0x4003 2)

/-- The flow of a flow number (R382). -/
def flowOf (k : Nat) : Option Func :=
  if k < 0x10 then some (.flowTx k) else if k < 0x30 then some (.flowRx (k - 0x10)) else none

/-- Whether the enabled AES67 flows are allowed (R397): a flow at 48 kHz each, and no flow bound twice. -/
def State.aesOk (s : State) : Bool :=
  let on := (List.range 16).filter fun a => s.wants (.aes a)
  on.all fun a =>
    match flowOf (s.rd (0x4040 + a) 3) with
    | some f => s.confRate (s.flowCfg f).2.2 == 48000 &&
        on.all fun b => b == a || s.rd (0x4040 + b) 3 != s.rd (0x4040 + a) 3
    | none => true

/-- Whether a flow is synchronous (R384, R385, R395). -/
def State.flowSync (s : State) (f : Func) : Bool :=
  match f with
  | .flowTx n => (s.aesBound n).isNone || s.aesSync
  | .flowRx r => s.rd (0x4020 + r) 9 == 0 && ((s.aesBound (0x10 + r)).isNone || s.aesSync)
  | _ => false

/-- The code of a rate in an AUDIO frame (R382). -/
def rateCode (fs : Nat) : Nat :=
  match fs with
  | 44100 => 0 | 48000 => 1 | 88200 => 2 | 96000 => 3 | 176400 => 4 | _ => 5

/-- The index of the tick at the PTP time `ptp` (R379). -/
def tickIndex (ptp fs : Nat) : Nat := (ptp * fs * 2 + 1000000000) / 2000000000

/-- The index of the first tick of cycle `n`. -/
def firstTick (n fs : Nat) : Nat := (n * 125000 * fs + 999999999) / 1000000000

/-- The cycle of the tick with index `i`. -/
def tickCycle (i fs : Nat) : Nat := i * 1000000000 / (125000 * fs)

/-! ## Transmit flows -/

/-- The conditions of R388 for a transmit flow's start. A bound flow holds no slot (R395). -/
def State.txReady (s : State) (f : Nat) : Bool :=
  s.domReady (.flowTx f) && Mode.drives s.ms.mode &&
    (if (s.aesBound f).isSome then true
     else s.inChain && !(s.txFlow f).noSlot && (s.slotFlows.take (s.rd 0x4003 2)).contains f)

/-- Transmit flow `f` starts (R388). -/
def State.startTx (s : State) (f : Nat) : State :=
  let s := s.setTx f .off
  s.setFn (.flowTx f) ((s.fn (.flowTx f)).begin (s.rd (0x4010 + f) 5) 0 (s.framp (.flowTx f)))

/-- A sample is placed at the tick index `i`, in the block of its cycle (R382). -/
def FlowTxSt.place (x : FlowTxSt) (i fs : Nat) (l : List Sample) : FlowTxSt :=
  let c := tickCycle i fs
  if x.block = [] then { x with cycle := c, block := [l] }
  else if x.cycle = c then { x with block := x.block ++ [l] }
  else { x with cycle := c, block := [l], full := x.full ++ [(x.cycle, x.block)] }

/-- The RTP packets of a bound transmit flow: one for each 48 samples (R396). -/
def State.sendRtp (s : State) (f a : Nat) : State :=
  let x := s.txFlow f
  if x.block.length < 48 then s
  else
    let i := 0x4040 + a
    let port : ChPort := if s.rd i 4 = 2 then .chb else .cha
    let l16 := s.rd i 7 == 1
    let code (y : Sample) : Word :=
      BitVec.ofInt 32 (if l16 then (packCode 16 y.w).1 * 2 ^ 12 else (packCode 24 y.w).1 * 2 ^ 4)
    let from_ := s.rd (portIndex port) 0x0A
    let p : RtpPacket :=
      { ip := s.rd i 5, udp := s.rd i 6, pt := s.rd i 8, l16 := l16,
        timestamp := (x.cycle + s.rd i 0x0B) % 2 ^ 32, words := x.block.map fun l => l.map code }
    let s := s.setTx f { x with block := [] }
    if s.phase (.aes a) = .running ∧ s.isEdge port ∧ (s.port port).up then
      (s.send (.rtp port from_ (s.rd i 9) p)).bump (0x4010 + f) 7
    else s

/-- One tick of transmit flow `f` (R382, R387, R388). -/
def State.tickTx (s : State) (f : Nat) : State :=
  let g := s.fn (.flowTx f)
  if !g.active || (g.phase == .ramping && !g.fade.live) then s.setFn (.flowTx f) g.frame
  else
    let fs := s.rate g.dom
    let x := s.txFlow f
    let ch := s.rd (0x4010 + f) 3
    let r := (List.range ch).foldl (fun (a : List Sample × State) c =>
      let p := 0x300 + 16 * f + c
      let y := if a.2.foreignSink p then a.2.takeSink p fs else (a.2.delivered p, a.2)
      (a.1 ++ [fadeOn g y.1], y.2)) ([], s)
    let s := r.2
    let i := tickIndex s.ptp fs
    let at_ (o : Int) : Nat := ((i : Int) + o).toNat
    match s.aesBound f with
    | some a =>
      let s := s.setTx f { x with block := x.block ++ [r.1], cycle := if x.block = [] then i else x.cycle }
      (s.sendRtp f a).setFn (.flowTx f) g.frame
    | none =>
      let x := if x.slipNow then
          { x.place (at_ x.offset) fs (List.replicate ch slipSample) with offset := x.offset + 1, slipNow := false }
        else x
      let x := if x.dropNext then { x with offset := x.offset - 1, dropNext := false } else x.place (at_ x.offset) fs r.1
      (s.setTx f x).setFn (.flowTx f) g.frame

/-- The words of a block in its packing (R382). -/
def blockWords (packing : Nat) (b : List (List Sample)) : List (List Word) :=
  b.map fun l => l.map fun y => BitVec.ofNat 32 (pack packing y).1

/-- The AUDIO frames of one block, out of both ports (R376, R382). -/
def State.sendBlock (s : State) (f : Nat) (b : Nat × List (List Sample)) : State :=
  let c := s.flowCfg (.flowTx f)
  let fs := s.rate (s.fn (.flowTx f)).dom
  let field := f + c.1 * 2 ^ 8 + b.2.length * 2 ^ 16 + (c.2.1 * 64 + rateCode fs * 8) * 2 ^ 24
  let frame (copy : Bool) : AudioFrame := { hdr := s.header 2 b.1 0xFFFF field copy, words := blockWords c.2.1 b.2 }
  let a := frame false
  let z := frame true
  let s := if s.chainLink .cha then s.send (.audio .cha a) else s
  let s := if s.chainLink .chb then s.send (.audio .chb z) else s
  s.bump (0x4010 + f) 7

/-- The node sends the blocks of the cycles that have ended (R369, R382); a node in CRIMSON sends none, and they are lost (R383). -/
def State.sendAudio (s : State) : State :=
  let now := s.ptp / 125000
  ((List.range 16).filter fun f => (s.aesBound f).isNone && (s.fn (.flowTx f)).phase != .off).foldl (fun s f =>
    let x := s.txFlow f
    let ended := decide (x.cycle < now) && !x.block.isEmpty
    let l := x.full ++ (if ended then [(x.cycle, x.block)] else [])
    if l.isEmpty then s
    else
      let s := s.setTx f { x with full := [], block := if ended then [] else x.block }
      if s.ms.mode = .crimson ∨ s.phase (.flowTx f) = .quiesced ∨ s.phase (.flowTx f) = .fault then s
      else l.foldl (fun s b => s.sendBlock f b) s) s

/-- `TX_STATUS` of a flow (R389). -/
def State.txStatus (s : State) (f : Nat) : Nat :=
  bit (s.txFlow f).noSlot 3 + bit (s.ms.mode == .cobalt) 2 + bit (!(s.chainSync && s.rd 0x4000 0x0C == 1)) 1 +
    bit (s.rampingNow (.flowTx f)) 0

/-! ## Receive flows -/

/-- The delay of receive flow `r` in samples: the presentation delay, or the link offset of a synchronous AES67 flow, with
the group offset (R384, R387, R396). -/
def State.rxDelay (s : State) (r fs : Nat) : Int :=
  let ns := match s.aesBound (0x10 + r) with
    | some a => s.rd (0x4040 + a) 0x0A * 1000000
    | none => (s.rxFlow r).pres * 125000
  ((ns * fs + 999999999) / 1000000000 : Nat) + (s.rxFlow r).offset

/-- The conditions of R388 for a receive flow's start. -/
def State.rxReadyFlow (s : State) (r : Nat) : Bool :=
  s.domReady (.flowRx r) && (Mode.drives s.ms.mode || s.ms.mode == .teal)

/-- Receive flow `r` starts: it waits for its first usable block (R388). -/
def State.startRx (s : State) (r : Nat) : State :=
  let s := s.setRx r { FlowRxSt.off with pres := s.net.presentation, primAt := s.now }
  s.setFn (.flowRx r) ((s.fn (.flowRx r)).begin (s.rd (0x4020 + r) 8) 1 (s.framp (.flowRx r)))

/-- The points of receive flow `r`. -/
def rxPoint (r : Nat) : Nat := 0x300 + 16 * r

/-- The samples of a receive flow at its source points. -/
def State.rxPoints (s : State) (r : Nat) (l : List Sample) : State :=
  (List.range 16).foldl (fun s c => s.setSrc (rxPoint r + c) (l.getD c .quiet)) s

/-- A sample without a usable block (R384); a LOST flow carries Q instead of S. -/
def missSample (lost : Bool) : Sample := { w := 0, v := false, o := false, s := !lost, n := false, q := lost }

/-- The entry of a tick index. -/
def entryFor (l : List (Nat × List Sample)) (i : Int) : Option (List Sample) :=
  (l.find? fun y => (y.1 : Int) == i).map (·.2)

/-- The samples that a flow shows while its source crosses over (R386). -/
def FlowRxSt.crossed (x : FlowRxSt) (i : Int) (miss : List Sample) : Option (List Sample) :=
  let new := entryFor (if x.onAlt then x.alt else x.buf) i
  if 64 ≤ x.xf then new
  else
    let old := (entryFor (if x.onAlt then x.buf else x.alt) i).getD miss
    some (List.zipWith (mixSamples x.xf 64) old (new.getD miss))

/-- The ramps of a receive flow beside its start and stop, one sample later: a return from LOST, or the move to a new
presentation delay (R381, R384). -/
def State.rxGain (s : State) (r : Nat) (x : FlowRxSt) : FlowRxSt :=
  let g := x.gain.step
  if x.cyc = .out ∧ !g.live then
    { x with pres := s.net.presentation, cyc := .idle, gain := (Ramp.rest none).to (some 0) (s.framp (.flowRx r)) }
  else { x with gain := g }

/-- What a receive flow presents under its ramps. -/
def FlowRxSt.shape (x : FlowRxSt) (f : FuncState) (y : Sample) : Sample :=
  let z := fadeOn f y
  if x.gain.live || x.gain.g1 != some 0 then { z.times x.gain.gain with q := true } else z

/-- One tick of a synchronous receive flow, or of one that leads a loop (R384, R385, R387). -/
def State.tickRxSync (s : State) (r : Nat) : State :=
  let f := s.fn (.flowRx r)
  let x := s.rxFlow r
  let fs := s.rate f.dom
  let leader := s.rd (0x4020 + r) 9 == 1
  let i : Int := if leader then (match x.buf with
      | y :: _ => (y.1 : Int)
      | [] => -1) else (tickIndex s.ptp fs : Int) - s.rxDelay r fs
  let miss := List.replicate 16 (missSample x.lost)
  let y := if x.slipNow then some (List.replicate 16 slipSample) else if leader then entryFor x.buf i else x.crossed i miss
  let f := if f.phase = .starting ∧ 0 < f.wait ∧ y.isSome then { f with wait := 0 } else f
  let keep (l : List (Nat × List Sample)) : List (Nat × List Sample) :=
    if leader then l.drop 1 else l.filter fun z => decide ((if x.slipNow then i - 1 else i) < (z.1 : Int))
  let cycle := tickCycle i.toNat fs
  let x := { x with buf := keep x.buf, alt := if leader then x.alt else keep x.alt, slipNow := false,
                    xf := if leader then x.xf else min 64 (x.xf + 1),
                    offset := if x.slipNow then x.offset + 1 else x.offset }
  if !f.active then
    let s := s.setRx r x
    if f.phase = .starting then s else s.setFn (.flowRx r) f.frame
  else
    match y with
    | some l =>
      let back := x.lost
      let x := { x with lost := false, missRun := 0, missCycle := none,
                        gain := if back then (Ramp.rest none).to (some 0) (s.framp (.flowRx r)) else x.gain }
      let s := s.rxPoints r (l.map (x.shape f))
      (s.setRx r (s.rxGain r x)).setFn (.flowRx r) f.frame
    | none =>
      let new := x.missCycle != some cycle
      let s := s.rxPoints r miss
      let s := if new then s.bump (0x4020 + r) 0x0C else s
      let x := { x with missCycle := some cycle, missRun := if new then x.missRun + 1 else x.missRun,
                        missAt := some s.now }
      (s.setRx r (s.rxGain r x)).setFn (.flowRx r) f.frame

/-- Whether the samples of receive flow `r` wait in its buffer for the ticks of its domain. -/
def State.rxTimed (s : State) (r : Nat) : Bool := !s.foreignSrc (rxPoint r)

/-- One tick of receive flow `r` in its domain. -/
def State.tickRx (s : State) (r : Nat) : State :=
  let f := s.fn (.flowRx r)
  match f.phase with
  | .off => s
  | .fault => s
  | .quiesced => s
  | _ => if s.rxTimed r then s.tickRxSync r else if f.phase = .starting then s else s.setFn (.flowRx r) f.frame

/-- FLOW_LOST (R384): eight consecutive cycles without a usable block. -/
def execFlowLost (t r : Nat) (s : State) : Host.Outcome State Fault Refusal :=
  let s := s.clock t
  let x := s.rxFlow r
  if r < 32 ∧ (s.fn (.flowRx r)).active ∧ !x.lost ∧ 8 ≤ x.missRun then
    .next ((s.setRx r { x with lost := true }).event 0x76 (0x4020 + r))
  else .next s

/-- Whether receive flow `r` should take its alternative source (R386). -/
def State.wantsAlt (s : State) (r : Nat) : Bool :=
  let x := s.rxFlow r
  s.rd (0x4020 + r) 5 != 0 && ((x.standby && !x.altStandby && x.altAt != 0 && decide (s.now ≤ x.altAt + 250000)) || decide (x.primAt + 250000 < s.now))

/-- Whether the next sample that receive flow `r` presents is the first of a cycle (R386). Blocks that are taken as they arrive are whole
cycles. -/
def State.atCycle (s : State) (r : Nat) : Bool :=
  let d := (s.fn (.flowRx r)).dom
  let fs := s.rate d
  let i := ((tickIndex ((s.dom d).tickAt + s.ptpOffset).toNat fs : Nat) : Int) + 1 - s.rxDelay r fs
  s.rd (0x4020 + r) 9 == 1 || i.toNat == firstTick (tickCycle i.toNat fs) fs

/-- ALT_SOURCE_SWITCH (R386): at a cycle boundary. -/
def execAltSourceSwitch (t r : Nat) (s : State) : Host.Outcome State Fault Refusal :=
  let s := s.clock t
  let x := s.rxFlow r
  if r < 32 ∧ (s.fn (.flowRx r)).active ∧ s.wantsAlt r ≠ x.onAlt ∧ s.atCycle r then
    .next (s.setRx r { x with onAlt := s.wantsAlt r, xf := 0 })
  else .next s

/-- Samples that arrive for a receive flow and are not bound to ticks: they enter its ASRC channels in order (R385). -/
def State.rxForeign (s : State) (r : Nat) (l : List (List Sample)) : State :=
  l.foldl (fun s y =>
    let f := s.fn (.flowRx r)
    let f := { f with wait := 0 }
    let x := s.rxFlow r
    let z := y.map (x.shape f)
    let s := (List.range 16).foldl (fun s c => s.foreignIn (rxPoint r + c) (z.getD c .quiet)) (s.rxPoints r z)
    let s := s.setRx r (s.rxGain r x)
    s.setFn (.flowRx r) f.frame) s

/-- The block of a receive flow from tick index `i0` on: a block that is late, or that has come already, is discarded
(R376, R384). -/
def State.rxBlock (s : State) (r cycle i0 : Nat) (alt : Bool) (l : List (List Sample)) : State :=
  let x := s.rxFlow r
  let f := s.fn (.flowRx r)
  let fs := s.rate f.dom
  if (if alt then x.altSeen else x.seen).contains cycle then s
  else
    let seen := (cycle :: (if alt then x.altSeen else x.seen)).take 256
    let x := if alt then { x with altSeen := seen } else { x with seen := seen }
    let last : Int := tickIndex ((s.dom f.dom).tickAt + s.ptpOffset).toNat fs
    if (i0 : Int) + s.rxDelay r fs ≤ last then
      ((s.setRx r { x with lateAt := some s.now }).bump (0x4020 + r) 0x0D).event 0x75 (0x4020 + r)
    else
      let new := (List.range l.length).map fun k => (i0 + k, l.getD k [])
      s.setRx r (if alt then { x with alt := x.alt ++ new } else { x with buf := x.buf ++ new })

/-- The full number of a cycle of which a frame carries the low 16 bits, near the present one (R367). -/
def State.fullCycle (s : State) (low : Nat) : Nat :=
  let now := s.ptp / 125000
  let c := now / 65536 * 65536 + low
  if c < now + 32768 then (if c + 32768 < now then c + 65536 else c) else c - 65536

/-- Samples of an asynchronous flow as they come from its source: while a change of source crosses over, each is mixed with the next one of
the source before (R386). -/
def FlowRxSt.crossIn (x : FlowRxSt) (l : List (List Sample)) : FlowRxSt × List (List Sample) :=
  l.foldl (fun (a : FlowRxSt × List (List Sample)) y =>
    let x := a.1
    if 64 ≤ x.xf then (a.1, a.2 ++ [y])
    else
      let old := match x.alt with
        | z :: _ => z.2
        | [] => List.replicate 16 (missSample x.lost)
      ({ x with alt := x.alt.drop 1, xf := x.xf + 1 }, a.2 ++ [List.zipWith (mixSamples x.xf 64) old y])) (x, [])

/-- One receive flow takes an AUDIO frame that names it, from its source or its alternative (R384 to R386). -/
def State.rxFrame (s : State) (r : Nat) (f : AudioFrame) (alt : Bool) : State :=
  let i := 0x4020 + r
  let c := s.flowCfg (.flowRx r)
  let fs := s.rate (s.fn (.flowRx r)).dom
  let standby := f.hdr.flags.testBit 7
  let x := s.rxFlow r
  let s := s.setRx r (if alt then { x with altStandby := standby, altAt := s.now } else { x with standby := standby, primAt := s.now })
  let x := s.rxFlow r
  let ch := f.hdr.field / 2 ^ 8 % 256
  let fmt := f.hdr.field / 2 ^ 24 % 256
  let l := f.words.map fun y => y.map fun w => unpack c.2.1 w.toNat
  if ch ≠ c.1 ∨ fmt / 64 ≠ c.2.1 ∨ fmt / 8 % 8 ≠ rateCode fs then s.setRx r { x with formatAt := some s.now }
  else if s.rd i 9 = 1 then
    let cycle := s.fullCycle f.hdr.cycle
    let seen := if alt then x.altSeen else x.seen
    let x := if alt then { x with altSeen := (cycle :: seen).take 256 } else { x with seen := (cycle :: seen).take 256 }
    if seen.contains cycle then s
    else if alt ≠ x.onAlt then
      s.setRx r { x with alt := if x.xf < 64 then (x.alt ++ l.map fun y => (0, y)).take 64 else [] }
    else
      let z := x.crossIn l
      let s := s.setRx r z.1
      let l := z.2
      if s.rxTimed r then
        let x := s.rxFlow r
        let n := match x.buf.getLast? with
          | some y => y.1 + 1
          | none => 0
        s.setRx r { x with buf := (x.buf ++ (List.range l.length).map fun k => (n + k, l.getD k [])).take 48 }
      else s.rxForeign r l
  else if f.hdr.flags.testBit 6 then s.setRx r { x with clockAt := some s.now }
  else s.rxBlock r (s.fullCycle f.hdr.cycle) (firstTick (s.fullCycle f.hdr.cycle) fs) alt l

/-- Whether receive flow `r` takes blocks: it is started and not bound to an edge port. -/
def State.rxTakes (s : State) (r : Nat) : Bool :=
  (s.aesBound (0x10 + r)).isNone && (match s.phase (.flowRx r) with
    | .starting => true | .running => true | .draining => true | .ramping => true | _ => false)

/-- AUDIO (R384): the receive flows that name the sender and its flow take the block. A frame of the node itself, and one
of another version, is discarded (R367, R372). -/
def execAudio (t : Nat) (port : ChPort) (f : AudioFrame) (s : State) : Host.Outcome State Fault Refusal :=
  let s := s.clock t
  if s.chainLink port && f.hdr.version == 1 && !(f.hdr.srcNode == s.net.node && s.net.node != 0xFFFF) then
    .next ((List.range 32).foldl (fun s r =>
      let i := 0x4020 + r
      if s.rxTakes r && s.rd i 4 == f.hdr.field % 256 then
        if s.rd i 3 != 0 && s.rd i 3 % 2 ^ 40 == f.hdr.src then s.rxFrame r f false
        else if s.rd i 5 != 0 && s.rd i 5 % 2 ^ 40 == f.hdr.src then s.rxFrame r f true
        else s
      else s) s)
  else .next s

/-- `RX_STATUS` of a flow (R390). -/
def State.rxStatus (s : State) (r : Nat) : Nat :=
  let x := s.rxFlow r
  bit x.onAlt 7 + bit (s.recent x.clockAt) 6 + bit (s.recent x.formatAt) 5 + bit x.lost 4 + bit (s.recent x.lateAt) 3 +
    bit (s.recent x.missAt) 2 + bit x.alignLost 1 +
    bit (s.rampingNow (.flowRx r) || x.gain.live || (decide (x.xf < 64) && (s.fn (.flowRx r)).active)) 0

/-- The computed subs of a transmit flow (R389). -/
def State.readTx (s : State) (f sub : Nat) : Nat := if sub = 8 then s.txStatus f else s.rd (0x4010 + f) sub

/-- The computed subs of a receive flow (R390). -/
def State.readRx (s : State) (r sub : Nat) : Nat :=
  match sub with
  | 0x0B => s.rxStatus r
  | 0x0E => unsigned 1 (s.rxFlow r).offset
  | 0x0F => if s.flowSync (.flowRx r) then (match s.aesBound (0x10 + r) with
              | some a => s.rd (0x4040 + a) 0x0A * 1000000
              | none => s.net.presentation * 125000)
            else Config.sensor (key (0x4020 + r) 0x0F) s.now % 2 ^ 32
  | _ => s.rd (0x4020 + r) sub

/-! ## AES67 -/

/-- Whether AES67 flow `a` may run: its port is an edge port whose link is up. -/
def State.aesReady (s : State) (a : Nat) : Bool :=
  let port : ChPort := if s.rd (0x4040 + a) 4 = 2 then .chb else .cha
  s.domReady (.aes a) && (s.port port).up && s.isEdge port && s.rd (0x4040 + a) 3 != 0xFF

/-- AES67 flow `a` starts; it has no ramp of its own. -/
def State.startAes (s : State) (a : Nat) : State :=
  s.setFn (.aes a) ((s.fn (.aes a)).begin ((s.fdom (.aes a)).getD 0) 0 0)

/-- The words of a packet as samples (R396). [DEDUCED, log 79] -/
def rtpSample (w : Word) : Sample := { w := w, v := true, o := false, s := false, n := false, q := false }

/-- AES67_PACKET (R396): a packet of 48 samples for an AES67 flow of this port. [DEDUCED, log 79] -/
def execAes67Packet (t : Nat) (port : ChPort) (p : RtpPacket) (s : State) : Host.Outcome State Fault Refusal :=
  let s := s.clock t
  if !(s.isEdge port && (s.port port).up) || p.words.length != 48 then .next s
  else
    match (List.range 16).find? fun a =>
      let i := 0x4040 + a
      (s.fn (.aes a)).active && decide (0x10 ≤ s.rd i 3) && s.rd i 3 != 0xFF && (s.rd i 4 == 2) == (port == .chb) &&
        s.rd i 5 == p.ip && s.rd i 6 == p.udp && s.rd i 8 == p.pt with
    | none => .next s
    | some a =>
      let r := s.rd (0x4040 + a) 3 - 0x10
      let x := s.rxFlow r
      let ch := s.rd (0x4020 + r) 6
      let f := s.fn (.flowRx r)
      let up := match f.phase with
        | .starting => true | .running => true | .draining => true | .ramping => true | _ => false
      if !up then .next s
      else if (s.rd (0x4040 + a) 7 == 1) ≠ p.l16 ∨ p.words.any (fun l => l.length != ch) ∨ 8 < ch then
        .next (s.setRx r { x with formatAt := some s.now })
      else
        let l := p.words.map fun y => y.map rtpSample
        if s.rxTimed r then
          let i := tickIndex s.ptp 48000
          let low := (p.timestamp + 2 ^ 32 - s.rd (0x4040 + a) 0x0B) % 2 ^ 32
          let c := i / 2 ^ 32 * 2 ^ 32 + low
          let i0 := if c < i + 2 ^ 31 then (if c + 2 ^ 31 < i then c + 2 ^ 32 else c) else c - 2 ^ 32
          .next (s.rxBlock r (i0 / 48) i0 false l)
        else .next (s.rxForeign r l)

/-! ## Alignment groups -/

/-- The port directions of a group (R361). -/
def State.groupPorts (s : State) (g : Nat) : List (Nat × SapDir) :=
  ((List.range 32).filter fun b => (s.rd (0x3830 + g) 2).testBit b).map fun b => (b / 2, if b % 2 = 0 then SapDir.tx else .rx)

/-- The chain flows of a group. -/
def State.groupFlows (s : State) (g : Nat) : List Func :=
  (List.range 8).filterMap fun k => flowOf (s.rd (0x3830 + g) (8 + k))

/-- The functions of a group. -/
def State.groupMembers (s : State) (g : Nat) : List Func :=
  (s.groupPorts g).map (fun x => sapFunc x.1 x.2) ++ s.groupFlows g

/-- Whether a group is on. -/
def State.groupOn (s : State) (g : Nat) : Bool := s.rd (0x3830 + g) 1 != 0

/-- Whether group `g` of the settings is allowed (R352). -/
def State.groupOk (s : State) (g : Nat) : Bool :=
  !s.groupOn g ||
    ((s.groupPorts g).all (fun x => !cfgMaster (s.sapCfg x.1 x.2) && !s.sapForeign x.1 x.2) &&
     (s.groupFlows g).all s.flowSync &&
     (match (s.groupMembers g).map s.fdom with
      | [] => true
      | d :: r => r.all (· == d)) &&
     decide (s.groupMembers g).Nodup &&
     (List.range 8).all fun h => h == g || !s.groupOn h || (s.groupMembers h).all fun f => !(s.groupMembers g).contains f)

/-- `GROUP_DOMAIN` (R352, R361). -/
def State.groupDomain (s : State) (g : Nat) : Nat :=
  if !s.groupOn g then 0xFF
  else match (s.groupMembers g).map s.fdom with
    | some d :: _ => d
    | _ => 0xFF

/-- The code of a port direction in `LAST_CAUSE` (R361). -/
def causeCode (x : Nat × SapDir) : Nat := sapKey x.1 x.2

/-- A group reports a slip (R353, R354). -/
def State.reportSlip (s : State) (g frame kind cause : Nat) : State :=
  (((s.wr (0x3830 + g) 5 frame).wr (0x3830 + g) 6 kind).wr (0x3830 + g) 7 cause)

/-- A port direction loses its alignment (R354). -/
def State.loseAlign (s : State) (x : Nat × SapDir) : State :=
  s.setSap x.1 x.2 { s.sapDir x.1 x.2 with alignLost := true }

/-- A port direction takes a group slip (R353); the answer says whether it could (R354). -/
def State.portTakes (s : State) (x : Nat × SapDir) (insertion : Bool) : State × Bool :=
  let p := x.1
  let y := s.sapDir p x.2
  let full := decide (s.sapBuffer p x.2 ≤ y.buf.length)
  match x.2, insertion with
  | _, true => if full then (s, false) else ((s.setSap p x.2 { y with slipNow := true }).countSlip p x.2, true)
  | .rx, false => if y.buf = [] then (s, false) else ((s.setSap p .rx y.drop).countSlip p .rx, true)
  | .tx, false => if y.buf = [] then ((s.setSap p .tx { y with dropNext := true }).countSlip p .tx, true)
                  else ((s.setSap p .tx y.drop).countSlip p .tx, true)

/-- A chain flow takes a group slip (R387); the answer says whether it could. -/
def State.flowTakesSlip (s : State) (f : Func) (insertion : Bool) : State × Bool :=
  match f with
  | .flowTx n =>
    let x := s.txFlow n
    if insertion then (if 16 ≤ x.offset then (s, false) else (s.setTx n { x with slipNow := true }, true))
    else if x.offset ≤ -16 then (s, false) else (s.setTx n { x with dropNext := true }, true)
  | .flowRx r =>
    let x := s.rxFlow r
    if insertion then (if 16 ≤ x.offset then (s, false) else (s.setRx r { x with slipNow := true }, true))
    else if x.offset ≤ -16 then (s, false) else (s.setRx r { x with offset := x.offset - 1 }, true)
  | _ => (s, true)

/-- A flow's alignment is lost. -/
def State.loseFlow (s : State) (f : Func) : State :=
  match f with
  | .flowRx r => s.setRx r { s.rxFlow r with alignLost := true }
  | _ => s

/-- The group slip of one kind for the members that have not made it themselves (R353, R354). -/
def State.groupSlip (s : State) (g frame : Nat) (insertion : Bool) (slipped : List (Nat × SapDir)) : State :=
  let i := 0x3830 + g
  let ports := (s.groupPorts g).filter fun x => s.sapMoving x.1 x.2 && !slipped.contains x
  let flows := (s.groupFlows g).filter fun f => (s.fn f).active
  let r := ports.foldl (fun (a : State × Bool) x =>
    let b := a.1.portTakes x insertion
    if b.2 then (b.1, a.2) else (b.1.loseAlign x, true)) (s, false)
  let r := flows.foldl (fun (a : State × Bool) f =>
    let b := a.1.flowTakesSlip f insertion
    if b.2 then (b.1, a.2) else (b.1.loseFlow f, true)) r
  let s := ((r.1.reportSlip g frame (if insertion then 1 else 2) (match slipped.getLast? with
    | some x => causeCode x
    | none => 0xFFFF)).bump i 4).event 0x63 i
  if r.2 then s.event 0x64 i else s

/-- One group at tick `frame` of its domain, after its members have noted their own slips (R353, R354). -/
def State.tickGroup (s : State) (frame g : Nat) : State :=
  let moved := (s.groupPorts g).filter fun x => s.sapMoving x.1 x.2
  let ins := moved.filter fun x => (s.sapDir x.1 x.2).ins
  let del := moved.filter fun x => (s.sapDir x.1 x.2).del
  let mode := s.rd (0x3830 + g) 1
  if ins.isEmpty && del.isEmpty then s
  else if mode = 2 then
    match del.getLast?, ins.getLast? with
    | some x, _ => s.reportSlip g frame 2 (causeCode x)
    | none, some x => s.reportSlip g frame 1 (causeCode x)
    | none, none => s
  else if !ins.isEmpty && !del.isEmpty then
    ((ins ++ del).foldl State.loseAlign s).event 0x64 (0x3830 + g)
  else if ins.isEmpty then s.groupSlip g frame false del
  else s.groupSlip g frame true ins

/-- The groups of domain `d` at its tick. -/
def State.tickGroups (s : State) (d : Nat) : State :=
  let frame := (s.dom d).frame
  ((List.range 8).filter fun g => s.groupOn g && s.groupDomain g == d).foldl (fun s g => s.tickGroup frame g) s

/-- The computed subs of a group (R361). -/
def State.readGroup (s : State) (g sub : Nat) : Nat := if sub = 3 then s.groupDomain g else s.rd (0x3830 + g) sub

end Sys2Proof.Machine
end

