-- ==== Sys2Proof/Machine/Clocks.lean ====
section
/-!
DEFINITION. Oscillators, multiplexers, gates, synthesizers, buffer-steered loops and clock outputs (04_clocks.md,
05_synthesizers.md, R109 to R152): what each does by itself. What a clock failure does to the device stands with the modes.
-/

set_option autoImplicit false

namespace Sys2Proof.Machine

/-! ## Events of the sources -/

/-- XO_AMPLITUDE (R110): the amplitude detector asserts or de-asserts; the count starts with it. -/
def execXoAmplitude (t : Nat) (on : Bool) (s : State) : Host.Outcome State Fault Refusal :=
  let s := s.clock t
  if Mode.xoOn s.ms.mode && s.clk.amp != on then
    .next { s with clk := { s.clk with amp := on, countAt := s.now } }
  else .next s

/-- MUX_SOURCE_EDGES (R118): edges have appeared on the new input. -/
def execMuxSourceEdges (t : Nat) (m : Mux) (s : State) : Host.Outcome State Fault Refusal :=
  let s := s.clock t
  let x := s.mux (muxKey m)
  if x.st = 4 ∧ s.hasEdges m x.want then .next (s.setMux (muxKey m) { x with st := 1 }) else .next s

/-! ## Frequencies -/

/-- The nominal carrier of the PWM outputs, as the synthesizer that the PWM multiplexer passes is steered (R132, R147). -/
def State.carrierHz (s : State) : Rat := s.steered (if s.muxActive .pwm = 5 then .b else .a) s.carrier

/-- The period of the spread triangle in ns (R132). -/
def State.triPeriod (s : State) : Rat := 1000000000 / (s.clk.pwmRate : Rat)

/-- The integral of a symmetric triangle of height 1 that starts at its point of zero deviation, over the fraction `p` of its period. -/
def triangleArea (p : Rat) : Rat :=
  if p ≤ 1 / 4 then 2 * p * p
  else if p ≤ 3 / 4 then 2 * p - 2 * p * p - 1 / 4
  else 2 * (1 - p) * (1 - p)

/-- By how many carrier cycles the spread carrier leads its nominal phase at the instant `t` (R132): at most (depth/2) f_c / (4 rate);
whether a period begins upward is open. [DESIGN CHOICE, log 91] -/
def State.carrierLead (s : State) (t : Nat) : Rat :=
  let q : Rat := ((t : Rat) - s.clk.triAt) / s.triPeriod
  let a : Rat := (s.clk.pwmDepth : Rat) / 400
  (if Config.spreadUp then 1 else -1) * a * s.carrierHz / s.clk.pwmRate * triangleArea (q - q.floor)

/-- A reading from `lo` to `hi`. [DESIGN CHOICE, log 11] -/
def State.sensed (s : State) (k lo hi : Nat) : Nat := lo + Config.sensor k s.now % (hi - lo + 1)

/-- The frequency of clock domain `n` in Hz where XO fixes it (R113, R132, R133, R135); `none` for a source of its own. -/
def State.cdHz (s : State) (n : Nat) : Option Rat :=
  match n with
  | 0 => some 24576000
  | 3 => some (s.steered .a 98304000)
  | 4 => some (s.steered .b 90316800)
  | 5 => some 2500000000
  | 6 => some (1600000000 * (1 - (s.mem.depth : Rat) / 2000))
  | 7 => some (s.carrierHz + 1000 * (s.carrierLead s.now - s.carrierLead (s.now - 1000000)))
  | 8 => if s.muxActive .chaRx = 6 then some (if modeRate (s.portMode .cha) = 1 then 312500000 else 125000000) else none
  | 9 => if s.muxActive .chbRx = 6 then some (if modeRate (s.portMode .chb) = 1 then 312500000 else 125000000) else none
  | 10 => if s.muxActive .ptp = 1 then some 24576000 else none
  | 12 => if s.muxActive .listen = 4 then some (s.steered .a 98304000 / 6144) else none
  | _ => none

/-- The frequency of clock domain `n` in Hz as its own source gives it, within what the spec states of that source (R111 to R113, R422). [DESIGN CHOICE, log 11] -/
def State.cdSensed (s : State) (n : Nat) : Nat :=
  let k := key (0x2110 + n) 6
  let lpo := s.sensed k 31785 33751
  match n with
  | 0 => s.sensed k 23347200 25804800
  | 1 => if s.clk.stable then s.sensed k 31360000 32640000 else 32000000
  | 2 => lpo
  | 8 => s.sensed k (if modeRate (s.portMode .cha) = 1 then 312468750 else 124987500)
           (if modeRate (s.portMode .cha) = 1 then 312531250 else 125012500)
  | 9 => s.sensed k (if modeRate (s.portMode .chb) = 1 then 312468750 else 124987500)
           (if modeRate (s.portMode .chb) = 1 then 312531250 else 125012500)
  | 10 => lpo
  | 11 => if s.muxActive .hk = 3 then lpo else if s.clk.stable then s.sensed k 31360000 32640000 else 32000000
  | 12 => s.sensed k 15840 16160
  | 13 => s.sensed k 0 49152000
  | 14 => s.sensed k 0 50000000
  | _ => s.sensed k 0 1000000

/-- `FREQ` of clock domain `n` while it has edges (R114): measured against XO where XO_STABLE is 1. -/
def State.cdFreq (s : State) (n : Nat) : Nat :=
  match s.cdHz n with
  | some hz => if s.clk.stable then (roundOpen hz).toNat % 2 ^ 32 else s.cdSensed n
  | none => s.cdSensed n

/-- PWM_SPREAD_UPDATE (R132): a triangle period starts, a whole number of periods after the last start known, and takes the settings. -/
def execPwmSpreadUpdate (t : Nat) (s : State) : Host.Outcome State Fault Refusal :=
  let s := s.clock t
  let k := (((s.now : Rat) - s.clk.triAt) / s.triPeriod).floor.toNat
  if k = 0 then .next s
  else .next { s with clk := { s.clk with pwmDepth := s.rd 0x2101 1, pwmRate := s.rd 0x2101 2,
                                          triAt := s.clk.triAt + ((k : Rat) * s.triPeriod).floor.toNat } }

/-! ## Gating -/

/-- Whether the blocks of clock domain `n` have work that goes on (R122): ticks of the domain's family, a link or a memory on SYN_S, the
memory interface, a PWM modulator, a receiver, the PTP time base, the housekeeping scan, the listening path, or a slave direction. -/
def State.cdWorks (s : State) (n : Nat) : Bool :=
  let ticks (fam : Bool) : Bool := (List.range 3).any fun d => (s.dom d).running && family441 (s.dom d).rate == fam
  match n with
  | 3 => ticks false
  | 4 => ticks true
  | 5 => (s.port .cha).up || (s.port .chb).up || s.mem.ready || s.mem.training
  | 6 => s.mem.ready || s.mem.training
  | 7 => (List.range 16).any fun k => (s.pwm (k + 1)).step != .safe
  | 8 => (s.port .cha).up
  | 9 => (s.port .chb).up
  | 10 => true
  | 11 => s.busyFn .scan
  | 12 => s.busyFn .listen || (List.range 8).any fun r => s.busyFn (.reader r)
  | 13 => (List.range 16).any fun p => [SapDir.tx, .rx].any fun dir => !cfgMaster (s.sapCfg p dir) && s.busyFn (sapFunc p dir)
  | _ => false

/-- 16 cycles of the clock of domain `n` in ns, at its highest frequency (R113, R122). -/
def gateIdle (n : Nat) : Nat :=
  match n with
  | 3 => 163 | 4 => 178 | 5 => 7 | 6 => 10 | 7 => 20834 | 8 => 52 | 9 => 52 | 10 => 652 | 11 => 491
  | 12 => 990100 | 13 => 326 | 14 => 320 | _ => 16000

/-- GATE_CLOSE (R122): the clock of a domain with `AUTO_GATE` stops after 16 idle cycles. -/
def execGateClose (t cd : Nat) (s : State) : Host.Outcome State Fault Refusal :=
  let s := s.clock t
  if 3 ≤ cd ∧ cd < 16 ∧ s.rd (0x2110 + cd) 5 = 1 ∧ !s.clk.closed.contains cd ∧ !s.cdWorks cd ∧
      look 0 s.clk.workAt cd + gateIdle cd ≤ s.now then
    .next { s with clk := { s.clk with closed := cd :: s.clk.closed } }
  else .next s

/-- The gate of a clock domain opens for work or an access, which is noted (R122). -/
def State.openGate (s : State) (cd : Nat) : State :=
  { s with clk := { s.clk with closed := s.clk.closed.filter fun n => n != cd, workAt := put 0 s.clk.workAt cd s.now } }

/-- The clock domain of the converters and master ports of rate domain `d` (R113). -/
def State.familyCd (s : State) (d : Nat) : Nat := if family441 (s.rate d) then 4 else 3

/-- The clock domains whose register bus an index lies on, where they can be gated (R113, R122). -/
def State.gatesOf (s : State) (i : Nat) : List Nat :=
  if between 0x2200 0x22FF i then [11]
  else if between 0x3001 0x3030 i then [s.familyCd (s.inDom (i - 0x3000))]
  else if between 0x3101 0x3130 i then [s.familyCd (s.outDom (i - 0x3100))]
  else if between 0x3201 0x3202 i then [s.familyCd s.hpwmDom]
  else if i = 0x3200 ∨ between 0x3210 0x321F i then [7]
  else if between 0x3301 0x3310 i then
    [SapDir.tx, .rx].map fun dir =>
      if cfgMaster (s.sapCfg (i - 0x3301) dir) then s.familyCd (s.sapDomain (i - 0x3301) dir) else 13
  else if between 0x3A00 0x3AFF i then [12]
  else if between 0x3B00 0x3BFF i then [6]
  else if i = 0x4001 then [8]
  else if i = 0x4002 then [9]
  else if between 0x4000 0x404F i then [5]
  else []

/-! ## Loops -/

/-- The loop of index 2108h + `i`. -/
def State.loop (s : State) (i : Nat) : LoopState := if i = 0 then s.clk.loopA else s.clk.loopB
/-- The state with `x` for loop `i`. -/
def State.setLoop (s : State) (i : Nat) (x : LoopState) : State :=
  if i = 0 then { s with clk := { s.clk with loopA := x } } else { s with clk := { s.clk with loopB := x } }
/-- The synthesizer of loop `i`. -/
def loopSyn (i : Nat) : Syn := if i = 0 then .a else .b
/-- The leader of loop `i`. -/
def State.leader (s : State) (i : Nat) : Nat := s.rd (0x2108 + i) 1

/-- Whether a point may lead loop `i` (R146, R385, R398). -/
def State.leaderOk (s : State) (i p : Nat) : Bool :=
  p == 0xFFFF ||
    (decide (0x100 ≤ p) && decide (p ≤ 0x4FF) && decide (s.srcDom p < s.domCount) && s.domSyn (s.srcDom p) == loopSyn i &&
      (decide (p < 0x300) || (s.rd (0x4020 + (p - 0x300) / 16) 9 == 1 && s.rd 0x4000 0x0C == 0)))

/-- The fill error of a leader's buffer in 1/256 sample (R147). -/
def State.leaderFill (s : State) (p : Nat) : Int :=
  if p < 0x300 then (s.sapDir ((p - 0x100) / 32) .rx).fill
  else (((s.rxFlow ((p - 0x300) / 16)).buf.length : Int) - 24) * 256

/-- Whether a leader delivers (R147, R345, R384). -/
def State.delivers (s : State) (p : Nat) : Bool :=
  if p < 0x100 ∨ 0x4FF < p then false
  else if p < 0x300 then
    let q := (p - 0x100) / 32
    let x := s.sapDir q .rx
    s.sapUp q .rx && x.acquired && !x.clockLost && decide (s.now < x.doneAt + 4 * s.period (s.sapDomain q .rx))
  else
    let r := (p - 0x300) / 16
    (s.fn (.flowRx r)).active && !(s.rxFlow r).lost

/-- The loop's fill error, measured at the ticks of its leader's domain (R147). -/
def State.tickLoops (s : State) (d : Nat) : State :=
  [0, 1].foldl (fun s i =>
    let p := s.leader i
    if p ≠ 0xFFFF ∧ s.srcDom p = d then s.setLoop i { s.loop i with fill := s.leaderFill p } else s) s

/-- The largest change of the steer in a millisecond: 1 ppb for each cycle of the scaled reference (R147). -/
def State.steerStep (s : State) (i : Nat) : Int :=
  match (s.syn (loopSyn i)).scale with
  | 1 => 49152
  | 2 => 12288
  | _ => 24576

/-- The steer one millisecond nearer to `goal`. [DEDUCED, log 14] -/
def State.steerTo (s : State) (i : Nat) (goal : Int) : Int :=
  let x := (s.loop i).steer
  x + within (s.steerStep i) (goal - x)

/-- `STEER_LIMIT` in ppb. -/
def State.steerLimit (s : State) (i : Nat) : Int := (s.rd (0x2108 + i) 7 : Int) * 1000

/-- A loop enters LIMIT, or leaves it, by the steer it requires (R147). -/
def State.limitLoop (s : State) (i : Nat) (x : LoopState) (need : Int) (st : Nat) : State :=
  let m := s.steerLimit i
  if m < need ∨ need < -m then
    let s := s.setLoop i { x with st := 5, steer := s.steerTo i (within m need) }
    if x.st = 5 then s else s.event 0x29 (0x2108 + i)
  else s.setLoop i { x with st := st, steer := s.steerTo i need }

/-- What a loop in PULLING asks for: its base, with the pull until the fill error is 0. [DEDUCED, log 14] -/
def State.pullGoal (s : State) (i : Nat) (x : LoopState) : Int :=
  let pull : Int := (s.rd (0x2108 + i) 6 : Int) * 1000
  if x.fill = 0 then x.mean else if 0 < x.fill then x.mean + pull else x.mean - pull

/-- LOOP_UPDATE (R147): every 1 ms. In HOLDOVER the steer goes to its mean, no faster than 1 ppb for each reference cycle. A loop in LIMIT
whose required steer is within the limit again goes on in PULLING. [DEDUCED, log 14] -/
def execLoopUpdate (t loop : Nat) (s : State) : Host.Outcome State Fault Refusal :=
  let s := s.clock t
  let i := loop
  let x := s.loop i
  if 1 < i ∨ s.now < x.updAt + 1000000 then .next s
  else
    let x := { x with updAt := s.now, hist := (x.steer :: x.hist).take 1000 }
    let s := s.setLoop i x
    if x.leaving then
      let y := x.steer - within 10 x.steer
      if y = 0 then .next (s.setLoop i { x with steer := 0, st := 0, leaving := false, hist := [] })
      else .next (s.setLoop i { x with steer := y })
    else match x.st with
      | 2 =>
        let good := decide (x.fill.natAbs ≤ 32)
        let since := if !good then 0 else if x.goodSince = 0 then s.now else x.goodSince
        let x := { x with goodSince := since }
        if good && decide (since + 1000000000 ≤ s.now) then .next (s.setLoop i { x with st := 3 })
        else .next (s.limitLoop i x (s.pullGoal i x) 2)
      | 3 => .next (s.limitLoop i x (Config.loopStep (s.rd (0x2108 + i) 5) x.fill x.steer) 3)
      | 4 =>
        let x := { x with steer := s.steerTo i x.mean }
        let s := s.setLoop i x
        if s.delivers (s.leader i) && s.synRuns (loopSyn i) then
          .next (s.setLoop i { x with st := 1, since := s.now, slopeFill := x.fill, goodSince := 0 })
        else .next s
      | 5 => .next (s.limitLoop i { x with goodSince := 0 } (Config.loopStep (s.rd (0x2108 + i) 5) x.fill x.steer) 2)
      | _ => .next s

/-- LOOP_ACQUIRE_END (R147): the steer is to be the frequency offset that the slope of the fill implies. -/
def execLoopAcquireEnd (t loop : Nat) (s : State) : Host.Outcome State Fault Refusal :=
  let s := s.clock t
  let i := loop
  let x := s.loop i
  if i ≤ 1 ∧ x.st = 1 ∧ !x.leaving ∧ x.since + 100000000 ≤ s.now then
    let fs := s.rate (s.srcDom (s.leader i))
    let off : Rat := ((x.fill - x.slopeFill : Int) : Rat) * 1000000000 * 1000000000 / (256 * (s.now - x.since : Nat) * fs)
    let base := x.steer + roundRat off
    .next (s.limitLoop i { x with mean := base, goodSince := 0 } base 2)
  else .next s

/-- A loop enters HOLDOVER (R147): the steer is to be its mean over the last second. -/
def State.holdLoop (s : State) (i : Nat) : State :=
  let x := s.loop i
  if x.st = 0 ∨ x.st = 4 ∨ x.leaving then s
  else ((s.setLoop i { x with st := 4, mean := if x.hist.isEmpty then x.steer else meanOf x.hist }).bump
    (0x2108 + i) 8).event 0x28 (0x2108 + i)

/-- LOOP_HOLDOVER (R147): the leader has stopped delivering. -/
def execLoopHoldover (t loop : Nat) (s : State) : Host.Outcome State Fault Refusal :=
  let s := s.clock t
  if loop ≤ 1 ∧ !s.delivers (s.leader loop) then .next (s.holdLoop loop) else .next s

/-- What a written `LEADER` does (R147). -/
def State.applyLeader (s : State) (i : Nat) : State :=
  let x := s.loop i
  if s.leader i = 0xFFFF then
    if x.steer = 0 then s.setLoop i { x with st := 0, leaving := false } else s.setLoop i { x with leaving := true }
  else
    let f := s.leaderFill (s.leader i)
    let s := s.setLoop i { x with st := 1, leaving := false, since := s.now, fill := f, slopeFill := f, goodSince := 0 }
    if s.synRuns (loopSyn i) then s else s.holdLoop i

/-! ## Synthesizers -/

/-- INT, NUM and DEN of R136. -/
def synRatio (x : Syn) (scale : Nat) : Nat × Nat × Nat :=
  match x, scale with
  | .a, 1 => (2, 0, 1) | .a, 2 => (8, 0, 1) | .a, _ => (4, 0, 1)
  | .b, 1 => (1, 67, 80) | .b, 2 => (7, 7, 20) | .b, _ => (3, 27, 40)
  | .s, 1 => (50, 1325, 1536) | .s, 2 => (203, 173, 384) | .s, _ => (101, 557, 768)

/-- The loop that steers synthesizer `x` is held while the synthesizer gives no clock (R147). [DEDUCED, log 52] -/
def State.holdSyn (s : State) (x : Syn) : State :=
  match x with
  | .a => s.holdLoop 0
  | .b => s.holdLoop 1
  | .s => s

/-- Whether a synthesizer may acquire (R137). -/
def State.synReady (s : State) : Bool := s.pdOn 2 && s.clk.stable && s.ms.booted

/-- `n` cycles of the reference of a synthesizer with the scale `scale`, in ns, rounded up (R136, R140). -/
def refTime (scale n : Nat) : Nat :=
  let hz := match scale with
    | 1 => 49152000
    | 2 => 12288000
    | _ => 24576000
  (n * 1000000000 + hz - 1) / hz

/-- A synthesizer begins an acquisition, for which it takes its settings (R137, R141, R144); one in FAULT stays there until it locks
(R143). -/
def State.acquireSyn (s : State) (x : Syn) : State :=
  let i := 0x2104 + x.num
  let s := s.setSyn x { s.syn x with acqAt := max 1 s.now, tryAt := s.now, scale := s.rd i 2, method := s.rd i 6,
                                     winW := s.rd i 7, winN := s.rd i 8, unlockN := s.rd i 9, pin := false, window := false }
  if s.phase (.syn x) = .fault then s else s.setFn (.syn x) { s.fn (.syn x) with phase := .starting }

/-- SYN_ACQUISITION_START (R137, R143). -/
def execSynAcquisitionStart (t : Nat) (x : Syn) (s : State) : Host.Outcome State Fault Refusal :=
  let s := s.clock t
  let y := s.syn x
  if s.synReady && y.acqAt == 0 &&
      (s.phase (.syn x) == .off || (y.refLost && s.phase (.syn x) == .starting) || s.phase (.syn x) == .quiesced) then
    .next (s.acquireSyn x)
  else .next s

/-- SYN_REACQUIRE (R143): 10 µs after the gating. -/
def execSynReacquire (t : Nat) (x : Syn) (s : State) : Host.Outcome State Fault Refusal :=
  let s := s.clock t
  let y := s.syn x
  if s.synReady && y.acqAt == 0 && !y.refLost && s.phase (.syn x) == .starting && decide (y.gatedAt + 10000 ≤ s.now) then
    .next (s.acquireSyn x)
  else .next s

/-- SYN_ACQUISITION_FAIL (R143): no lock within 2 ms. The second and the third acquisition begin at once. [DESIGN CHOICE, log 91] -/
def execSynAcquisitionFail (t : Nat) (x : Syn) (s : State) : Host.Outcome State Fault Refusal :=
  let s := s.clock t
  let y := s.syn x
  if y.acqAt ≠ 0 ∧ y.acqAt + 2000000 ≤ s.now then
    let s := s.setSyn x { y with fails := y.fails + 1, acqAt := 0, stopAt := s.now, pin := false, window := false }
    if s.phase (.syn x) = .fault then .next s
    else if y.fails + 1 < 3 then .next (s.acquireSyn x)
    else .next ((s.faultFn (.syn x)).event 0x27 (0x2104 + x.num))
  else .next s

/-- SYN_FAULT_RETRY (R143): every 100 ms for as long as the reference is present. -/
def execSynFaultRetry (t : Nat) (x : Syn) (s : State) : Host.Outcome State Fault Refusal :=
  let s := s.clock t
  let y := s.syn x
  if s.phase (.syn x) = .fault ∧ y.acqAt = 0 ∧ y.tryAt + 100000000 ≤ s.now ∧ s.synReady then .next (s.acquireSyn x)
  else .next s

/-- A synthesizer gates its output for loss of lock or of its reference (R142). -/
def State.gateSyn (s : State) (x : Syn) (refLost : Bool) : State :=
  let y := s.syn x
  let stop := if s.phase (.syn x) == .running || y.acqAt != 0 then s.now else y.stopAt
  let y' := { y with pin := false, window := false, acqAt := 0, refLost := y.refLost || refLost, stopAt := stop }
  match s.phase (.syn x) with
  | .running =>
    let s := s.setSyn x { y' with gatedAt := max 1 s.now, fails := 0 }
    let s := s.setFn (.syn x) { s.fn (.syn x) with phase := .starting }
    ((s.bump (0x2104 + x.num) 0x0C).event 0x26 (0x2104 + x.num)).holdSyn x
  | .starting => if refLost then s.setSyn x y' else s
  | .fault => if refLost then s.setSyn x y' else s
  | _ => s

/-- Whether the clock cause counts a gated synthesizer (R128, R142): a domain that is on, or a rate domain that the layout
runs in the present mode, takes its clock from it. [DEDUCED, log 55] -/
def State.serves (s : State) (x : Syn) : Bool :=
  match x with
  | .s => s.pdOn 10 || s.pdOn 11
  | _ => (s.pdOn 9 && s.muxActive .pwm == (if x = .a then 4 else 5)) || (x == .a && s.pdOn 1 && s.muxActive .listen == 4) ||
    (Mode.runs s.ms.mode && s.pdOn 3 && (List.range s.domCount).any fun d => s.domSyn d == x)

/-- Whether a synthesizer that served a domain is gated by a loss. [DEDUCED, log 55] -/
def State.synLoss (s : State) : Bool :=
  [Syn.a, .b, .s].any fun x => (s.syn x).gatedAt != 0 && s.serves x

/-- The clock cause (R128). [DEDUCED, log 55] -/
def State.clockCause (s : State) : Bool := s.clk.lost || s.deviceHang || s.synLoss

/-- `XO_STATUS` (R112). -/
def State.xoStatus (s : State) : Nat :=
  bit s.clk.freqBad 3 + bit s.clk.lost 2 + bit s.clk.stable 1 + bit s.clk.amp 0

/-- The computed subs of 2100h. -/
def State.read2100 (s : State) (sub : Nat) : Nat := if sub = 2 then s.xoStatus else s.rd 0x2100 sub

/-- `LOCK_STATUS` (R145): GATED reads 1 in every phase other than RUNNING, so at reset too, where the table's default is 00h. [DESIGN CHOICE, log 91] -/
def State.lockStatus (s : State) (x : Syn) : Nat :=
  let y := s.syn x
  bit y.refLost 4 + bit (!s.synRuns x) 3 + bit y.window 2 + bit y.pin 1 + bit (s.synRuns x) 0

/-- `PHASE_ERR` (R140, R145): the error of the latest cycle that was measured, in acquisition and while the synthesizer runs; 0 before
the first. [DESIGN CHOICE, log 11] -/
def State.phaseErr (s : State) (x : Syn) : Nat :=
  let y := s.syn x
  let at_ := if s.synRuns x || y.acqAt != 0 then s.now else y.stopAt
  if at_ = 0 then 0 else Config.sensor (key (0x2104 + x.num) 0x0D) at_ % 2 ^ 16

/-- The computed subs of a synthesizer (R145). -/
def State.readSyn (s : State) (k sub : Nat) : Nat :=
  let x := synOf k
  let r := synRatio x (s.syn x).scale
  match sub with
  | 3 => r.1
  | 4 => r.2.1
  | 5 => r.2.2
  | 0x0A => s.lockStatus x
  | 0x0D => s.phaseErr x
  | _ => s.rd (0x2104 + k) sub

/-- The computed subs of a loop (R148). -/
def State.readLoop (s : State) (i sub : Nat) : Nat :=
  match sub with
  | 2 => (s.loop i).st
  | 3 => unsigned 4 (s.loop i).steer
  | 4 => unsigned 2 (s.loop i).fill
  | _ => s.rd (0x2108 + i) sub

/-! ## Clock domains -/

/-- The multiplexer of clock domain `n` (R113, R116). -/
def cdMux (n : Nat) : Option Mux :=
  match n with
  | 7 => some .pwm | 8 => some .chaRx | 9 => some .chbRx | 10 => some .ptp | 11 => some .hk | 12 => some .listen
  | _ => none

/-- Whether clock domain `n` has edges. -/
def State.cdRuns (s : State) (n : Nat) : Bool :=
  match n with
  | 0 => s.clk.amp
  | 1 => s.rcoRuns
  | 2 => true
  | 3 => s.synRuns .a
  | 4 => s.synRuns .b
  | 5 => s.synRuns .s
  | 6 => s.pdOn 10 && s.synRuns .s
  | 7 => s.pdOn 9 && s.synRuns (if s.muxActive .pwm = 4 then .a else .b)
  | 8 => s.pdOn 11 && (s.synRuns .s || s.muxActive .chaRx == 8)
  | 9 => s.pdOn 11 && (s.synRuns .s || s.muxActive .chbRx == 8)
  | 12 => s.pdOn 1 || s.muxActive .listen == 4
  | _ => true

/-- The computed subs of clock domain `n` (R114). -/
def State.readCd (s : State) (n sub : Nat) : Nat :=
  let i := 0x2110 + n
  match sub with
  | 1 => match cdMux n with
    | some m => if n = 7 then s.rd i 1 else if (s.mux (muxKey m)).st = 0 then s.muxActive m else (s.mux (muxKey m)).want
    | none => cdSource n
  | 2 => match cdMux n with
    | some m => s.muxActive m
    | none => cdSource n
  | 3 => match cdMux n with
    | some m => (s.mux (muxKey m)).st
    | none => 0
  | 4 => 0
  | 6 => if s.cdRuns n then s.cdFreq n else 0
  | _ => s.rd i sub

/-! ## Clock outputs -/

/-- Whether the source of clock output `n` runs (R150). -/
def State.ckoSource (s : State) (n : Nat) : Bool :=
  match s.rd (0x2120 + n) 2 with
  | 0 => false
  | 1 => s.clk.amp
  | 2 => s.synRuns .a
  | 3 => s.synRuns .b
  | 4 => s.synRuns .s
  | k => (s.dom (k - 5)).running

/-- The highest frequency of a format (R149). -/
def ckoMax (format : Nat) : Nat :=
  match format with
  | 2 => 50000000 | 3 => 400000000
  | _ => 100000000

/-- The check of R150 on the settings of clock output `n`. -/
def State.ckoOk (s : State) (n : Nat) : Bool :=
  let k := s.rd (0x2120 + n) 2
  let div := s.rd (0x2120 + n) 3
  decide (ckoNominal (s.confRate (k - 5)) k ≤ ckoMax (s.rd (0x2120 + n) 4) * div) && (decide (k < 5) || div == 1)

/-- The phase of an enabled clock output by its source and the mode (R151, R152). [DEDUCED, log 54] -/
def State.ckoPhase (s : State) (n : Nat) : Phase :=
  if !Mode.xoOn s.ms.mode || s.ms.low.contains .avdd18 then .off
  else if s.ms.mode == .crimson then .starting
  else if s.ckoSource n then .running else .starting

/-- The settings of clock output `n` in the dictionary, of an output that is kept low until `low` (R152). -/
def State.ckoConf (s : State) (n low : Nat) : CkoSt :=
  let i := 0x2120 + n
  { src := s.rd i 2, div := s.rd i 3, format := s.rd i 4, invert := s.rd i 5 == 1, lowUntil := low }

/-- A clock output takes up its settings: it runs, waits for its source, or is disabled (R151). [DEDUCED, log 54] -/
def State.settleCko (s : State) (n : Nat) : State :=
  let f := s.fn (.cko n)
  let p := if s.wants (.cko n) && !s.testing then s.ckoPhase n else if f.phase = .off then .off else .quiesced
  (s.setCko n (s.ckoConf n (s.cko n).lowUntil)).setFn (.cko n)
    { f with phase := p, startPending := false, forced := if p = .running then false else f.forced }

/-- The clock outputs after a change of a clock or of the mode (R151, R152); one that drains completes first. -/
def State.refreshCko (s : State) : State :=
  [0, 1, 2, 3].foldl (fun s n =>
    match s.phase (.cko n) with
    | .draining => if s.ckoPhase n = .running then s else s.settleCko n
    | _ => if s.wants (.cko n) then s.settleCko n else s) s

/-- A written setting of clock output `n` (R151): a running output completes its period first, unless nothing changes. -/
def State.applyCko (s : State) (n : Nat) : State :=
  match s.phase (.cko n) with
  | .running =>
    if s.ckoConf n (s.cko n).lowUntil = s.cko n then s
    else s.setFn (.cko n) { (s.fn (.cko n)).stop 0 (s.now + s.fbound (.cko n)) 0 with startPending := s.wants (.cko n) }
  | .draining => s.setFn (.cko n) { s.fn (.cko n) with startPending := s.wants (.cko n) }
  | _ => s.settleCko n

/-- A clock output has completed its period (R151): it is disabled, or it takes its new settings and stays low for two periods of
them. -/
def State.changeCko (s : State) (n : Nat) : State :=
  let f := s.fn (.cko n)
  if f.startPending then
    let s := s.settleCko n
    let x := s.cko n
    s.setCko n { x with lowUntil := s.now + 2 * s.ckoPeriod x.src x.div }
  else (s.setCko n .off).setFn (.cko n) (f.quiesce 0)

/-- CKO_CHANGE (R151): the current period is complete. -/
def execCkoChange (t n : Nat) (s : State) : Host.Outcome State Fault Refusal :=
  let s := s.clock t
  if n < 4 ∧ (s.fn (.cko n)).phase = .draining then .next (s.changeCko n) else .next s

/-- What the P and N pins of a clock output carry (R129, R149, R151). -/
inductive CkoPin where
  | low
  | high
  | clock
  | inverted
  | highZ
deriving DecidableEq, Repr

/-- Whether clock output `n` gives its clock: it runs, or completes the period before a change. -/
def State.ckoDrives (s : State) (n : Nat) : Bool :=
  s.phase (.cko n) == .draining || (s.phase (.cko n) == .running && decide ((s.cko n).lowUntil ≤ s.now))

/-- The P and N pins of clock output `n` (R149, R151, R152); a stopped output is low, an LVDS one at a static 0. [DEDUCED, log 54] -/
def State.ckoPins (s : State) (n : Nat) : CkoPin × CkoPin :=
  let x := s.cko n
  if s.phase (.cko n) = .off then (.highZ, .highZ)
  else if s.ckoDrives n then
    let p : CkoPin := if x.invert then .inverted else .clock
    match x.format with
    | 1 => (p, .clock)
    | 2 => (p, .highZ)
    | _ => (p, if x.invert then .clock else .inverted)
  else
    match x.format with
    | 2 => (.low, .highZ)
    | 3 => (.low, .high)
    | _ => (.low, .low)

end Sys2Proof.Machine
end

