-- ==== Sys2Proof/Machine/Flags.lean ====
section
/-!
DEFINITION. What the whole device shows of itself (03_modes_power.md): the STATE byte of every function, `READY`, the causes of
CRIMSON, the SYSTEM entries of the journal, and the change of the mode.
-/

set_option autoImplicit false

namespace Sys2Proof.Machine

/-! ## States of functions -/

/-- The code of a phase (R43). -/
def Phase.code : Phase → Nat
  | .off => 0 | .starting => 1 | .running => 2 | .draining => 3 | .ramping => 4 | .quiesced => 5 | .fault => 6

/-- The phase that a function shows: one in a power domain that is in FAULT shows FAULT (R96), and the outputs and the
serial ports have rules of their own (R299, R355); a PWM output reads FAULT while VDDIO_D is out of tolerance (R107). -/
def State.shownPhase (s : State) (f : Func) : Phase :=
  if s.phase (.pd f.pdom) = .fault then .fault
  else match f with
  | .output _ => s.outPhase f
  | .hp _ => s.outPhase f
  | .pwm _ => if s.ms.low.contains .vddioD && s.pdOn 9 then .fault else s.outPhase f
  | .sapTx p => s.sapPhase p .tx
  | .sapRx p => s.sapPhase p .rx
  | .pd i => if i = 0 then .running else s.phase f
  | .cko n => if s.phase f = .running ∧ s.now < (s.cko n).lowUntil then .starting else s.phase f
  | .selftest => if !s.testing then s.phase f else if s.testQuiet then .running else .starting
  | f => s.phase f

/-- The `STATE` byte of a function (R43). [DEDUCED, log 41] -/
def State.stateByte (s : State) (f : Func) : Nat :=
  bit (s.fn f).forced 7 + bit (s.fn f).startPending 6 + (s.shownPhase f).code

/-! ## READY and causes -/

/-- `READY` (R90). -/
def State.ready (s : State) : Nat :=
  bit s.ms.noStart 7 + bit (s.rd 0x2004 1 == 0 || s.ms.avsOk) 6 +
    bit ((s.read4000 0x0B).testBit 0 || s.rd 0x201B 4 == 1) 5 + bit s.ms.recipesLoaded 4 +
    bit (s.mem.ready || s.rd 0x201A 4 == 1) 3 + bit s.ms.booted 2 + bit s.synLocked 1 + bit s.clk.stable 0

/-- The READY bits that TEAL needs (R85). -/
def State.tealReady (s : State) : Bool := s.clk.stable && s.synLocked && s.ms.booted

/-- The rails whose failure is the supply cause (R107). -/
def supplyRails : List Rail := [.avddHv, .avdd18, .vcore, .vddioC]

/-- The supply cause (R107). -/
def State.supplyCause (s : State) : Bool := supplyRails.any s.ms.low.contains

/-- Bits 2:0 of `CRIMSON_CAUSE` as they are now (R93). -/
def State.causes (s : State) : Nat := bit s.ms.thermal 2 + bit s.supplyCause 1 + bit s.clockCause 0

/-- `CRIMSON_CAUSE` (R93). -/
def State.crimsonCause (s : State) : Nat := s.ms.seen * 16 + s.causes

/-- The bits of a cause map that are set in `new` and not in `old`. -/
def risen (old new : Nat) : Nat := ((List.range 3).map fun b => if new.testBit b && !old.testBit b then 2 ^ b else 0).sum

/-- The causes are taken over: a cause that arises sets its SEEN bit, and the time without a cause counts from the last
one's end (R93, R95). -/
def State.noteCauses (s : State) : State :=
  let c := s.causes
  let m := s.ms
  s.mapMs fun _ =>
    { m with cause := c, seen := m.seen ||| risen m.cause c, clear := c == 0,
             clearAt := if m.cause != 0 && c == 0 then s.now else m.clearAt,
             ack := m.ack && c == 0 }

/-! ## SYSTEM entries and the mode -/

/-- A SYSTEM entry of the internal origin (R84, R420); one that arises while the control processor cannot write waits with
its time. -/
def State.sysEntry (s : State) (i sub value : Nat) : State :=
  if s.ms.ctlHeld || !s.pdOn 3 then s.mapMs fun m => { m with late := m.late ++ [(s.ptp, key i sub, value)] }
  else s.entry .system 0 0 0xFFFF i sub false value

/-- The entries that waited for the control processor, in their order. -/
def State.flushLate (s : State) : State :=
  let l := s.ms.late
  let s := s.mapMs fun m => { m with late := [] }
  l.foldl (fun s x => s.entryAt x.1 .system 0 0 0xFFFF (x.2.1 / 256) (x.2.1 % 256) false x.2.2) s

/-- The mode changes (R84): the SYSTEM entry, except at the entry into ASH, the events, and the clocks that follow the
mode. -/
def State.changeMode (s : State) (m : Mode) (cause : Nat) : State :=
  let old := s.ms.mode
  let s := s.mapMs fun x => { x with mode := m, changedAt := s.now }
  let s := (s.event 0x01 0x2000).latch 3
  let s := if m = .crimson then (s.event 0x02 0x2000).latch 4 else s
  let s := if m = .ash then s else s.sysEntry 0x2000 1 (m.code + old.code * 256 + cause * 65536)
  s.autoMux.refreshCko

/-- `MODE_TIME` (R89). -/
def State.modeTime (s : State) : Nat := (s.now - s.ms.changedAt) / 1000000 % 2 ^ 32

/-- The computed subs of 2000h (R89). -/
def State.read2000 (s : State) (sub : Nat) : Nat :=
  match sub with
  | 1 => s.ms.mode.code
  | 3 => s.ready
  | 4 => s.crimsonCause
  | 0x0A => s.modeTime
  | _ => s.rd 0x2000 sub

/-! ## Faults that the device knows of -/

/-- The enabled output functions (R411, R413). -/
def State.outputFuncs (s : State) : List Func :=
  (((List.range 48).map fun n => Func.output (n + 1)) ++ [Func.hp 1, Func.hp 2] ++
    (List.range 16).map fun n => Func.pwm (n + 1)).filter s.wants

/-- Whether an enabled output function or a power domain that is not kept off is in FAULT (R411, R413). -/
def State.deviceFault (s : State) : Bool :=
  s.outputFuncs.any (fun f => s.shownPhase f == .fault) ||
    (List.range 12).any fun i => s.phase (.pd i) == .fault && s.rd (0x2010 + i) 4 == 0

end Sys2Proof.Machine
end

