-- ==== Sys2Proof/Machine/Pair.lean ====
section
/-!
DEFINITION. Active and standby pairs (13_pairs.md, R403 to R421): the member's interlock, takeover and release, and the
arbiter.
-/

set_option autoImplicit false

namespace Sys2Proof.Machine

/-! ## Messages -/

/-- Whether grant epoch `e` is newer than `f` (R404). -/
def newerEpoch (e f : Nat) : Bool :=
  let d := (e + 2 ^ 32 - f % 2 ^ 32) % 2 ^ 32
  decide (1 ≤ d) && decide (d ≤ 2 ^ 31 - 1)

/-- The node number that the device knows for a unique ID; FFFFh where it knows none. -/
def State.nodeOf (s : State) (u : Nat) : Nat :=
  if u = uid then s.net.node
  else match s.net.members.find? fun m => m.uid == u with
    | some m => m.number
    | none => 0xFFFF

/-- The payload of a pair message (R409). -/
def pairBytes (member epoch role mode health : Nat) : List Byte :=
  leBytes 8 member ++ leBytes 4 epoch ++ leBytes 1 role ++ leBytes 1 mode ++ leBytes 2 health ++ List.replicate 14 0

/-- A pair message sent: PAIR_ID and MSG stand in its KIND_FIELD (R409). -/
def State.sendPair (s : State) (pair msg dst : Nat) (bytes : List Byte) : State :=
  s.send (.pair bytes dst (pair + msg * 65536))

/-! ## The member -/

/-- `PAIR_ENABLE`. -/
def State.paired (s : State) : Bool := s.rd 0x4100 1 == 1

/-- ACT_OUT low (R406). -/
def State.actOut (s : State) : Bool := if s.paired then s.pair.driving else s.ms.mode == .ivory

/-- Whether a descent is asked for or runs. -/
def State.descending (s : State) : Bool :=
  match s.ms.trans with
  | .descent _ _ _ => true
  | _ => false

/-- AVAILABLE (R409, R417). -/
def State.available (s : State) : Bool :=
  s.rd 0x2000 2 == 5 && !s.descending && (s.ms.mode == .teal || s.ms.mode == .ivory || s.ms.mode == .cobalt)

/-- SWITCH_REQ: requested in the last 100 ms (R417). -/
def State.switchReq (s : State) : Bool :=
  match s.pair.switchAt with
  | some t => decide (s.now < t + 100000000)
  | none => false

/-- FAULT (R411). -/
def State.pairFault (s : State) : Bool :=
  s.ms.mode == .crimson || s.deviceFault || s.pair.conflict || s.pair.selfReleased

/-- HEALTH (R409). -/
def State.health (s : State) : Nat :=
  bit s.available 6 + bit s.actOut 5 + bit s.pair.blocked 4 + bit s.switchReq 3 + bit s.pair.revertReq 2 +
    bit s.pairFault 1 + bit s.pair.checkOk 0

/-- A message of the member to its arbiter (R409). -/
def State.tellArbiter (s : State) (msg : Nat) : State :=
  { s with pair := { s.pair with sentHealth := s.health } }.sendPair (s.rd 0x4100 3) msg (s.nodeOf (s.rd 0x4100 6))
    (pairBytes uid s.pair.epoch s.pair.role s.ms.mode.code s.health)

/-- A changed HEALTH is sent at once, in the cycle that begins (R410). [DEDUCED, log 80] -/
def State.tellChange (s : State) : State :=
  if s.paired && s.inChain && s.rd 0x4100 6 != 0 && s.health != s.pair.sentHealth then s.tellArbiter 1 else s

/-- A change of the member's record. -/
def State.mapPair (s : State) (g : PairMember → PairMember) : State := { s with pair := g s.pair }

/-- `ROLE` changes, with its SYSTEM entry (R420). -/
def State.setRole (s : State) (r cause : Nat) : State :=
  let old := s.pair.role
  if old = r then s else (s.mapPair fun p => { p with role := r }).sysEntry 0x4100 2 (r + old * 256 + cause * 65536)

/-- The ramp of a takeover or release in samples (R414). -/
def State.takeoverLen (s : State) : Nat := rampLen (s.rd 0x4100 9) (s.rate (s.outDom 1))

/-- A newest epoch (R404). -/
def State.takeEpoch (s : State) (e : Nat) : State := (s.mapPair fun p => { p with epoch := e }).wr 0x4100 0x0F e

/-- Step 1 of a takeover (R414): ACT_OUT low, role active. A member that was ramping out ramps back in (R417). -/
def State.drive (s : State) : State :=
  if s.pair.driving then
    let s := s.mapPair fun p => { p with leaving := false, ramp := p.ramp.to (some 0) s.takeoverLen }
    s.setRole 2 1
  else
    let s := s.mapPair fun p => { p with driving := true, step := 1, stepAt := s.now, blocked := false, waitAt := none,
                                         leaving := false, ramp := .rest none }
    ((s.setRole 2 1).bump 0x4100 0x0E).event 0x85 0x4100

/-- The member takes a grant that it holds, in COBALT (R406, R407). -/
def State.takeGrant (s : State) : State :=
  if s.pair.driving then s.drive
  else if !s.pair.granted || s.ms.mode != .cobalt || !s.available then s
  else if s.pair.peerHigh then s.drive
  else if s.pair.blocked || s.pair.waitAt.isSome then s
  else s.mapPair fun p => { p with waitAt := some s.now }

/-- The drivers and ACT_OUT are released at once (R406, R408); `cause` is that of R420. -/
def State.releaseNow (s : State) (cause : Nat) : State :=
  let s := s.mapPair fun p => { p with driving := false, step := 0, leaving := false, granted := false, blocked := false,
                                       waitAt := none, ramp := .rest none }
  let s := if s.ms.mode = .ivory then s.changeMode .cobalt 0 else s
  s.setRole 1 cause

/-- The end of an ordered release (R415). -/
def State.finishRelease (s : State) : State := ((s.releaseNow s.pair.cause).tellArbiter 4).event 0x86 0x4100

/-- An ordered release begins (R415): the outputs ramp to silence. -/
def State.beginRelease (s : State) (cause : Nat) : State :=
  let s := s.mapPair fun p => { p with cause := cause, granted := false }
  if !s.pair.driving || s.pair.leaving then s
  else if s.pair.step < 3 then s.finishRelease
  else
    let s := s.mapPair fun p => { p with leaving := true, ramp := p.ramp.to none s.takeoverLen }
    s.setRole 4 cause

/-- The release of CRIMSON and RESET_N (R406, R415). -/
def State.cutPair (s : State) : State :=
  if !s.paired then s
  else
    let s := s.mapPair fun p => { p with driving := false, step := 0, leaving := false, granted := false, blocked := false,
                                         waitAt := none, ramp := .rest none }
    s.setRole 1 3

/-- Whether the conditions of the self-check hold now (R413). [DEDUCED, log 80] -/
def State.checkNow (s : State) : Bool :=
  s.ready % 128 == 127 && s.causes == 0 && !s.deviceFault &&
    (List.range 32).all fun r => !(s.wants (.flowRx r) && (s.rxFlow r).lost)

/-- The self-check and the revert hold-off followed to now (R413, R416). [DEDUCED, log 80] -/
def State.noteCheck (s : State) : State :=
  let ok := s.checkNow
  let s := s.mapPair fun p =>
    { p with checkAt := if ok then (match p.checkAt with
               | some a => some a
               | none => some s.now) else none,
             checkOk := p.checkOk && ok }
  let p := s.pair
  let runs := p.checkOk && s.rd 0x4100 4 == 0 && s.rd 0x4100 7 == 1 && p.role == 1 && !p.peerHigh
  if runs then
    if p.holdoffAt.isNone && !p.revertReq then s.mapPair fun p => { p with holdoffAt := some s.now } else s
  else s.mapPair fun p => { p with holdoffAt := none, revertReq := false }

/-- A driving member that has seen PEER_ACT_IN low for 10 µs (R408). -/
def State.checkConflict (s : State) : State :=
  let p := s.pair
  if s.paired && p.driving && !p.peerHigh && !p.conflict && decide (p.peerLowAt + 10000 ≤ s.now) then
    let s := (s.mapPair fun p => { p with conflict := true }).event 0x81 0x4100
    if s.rd 0x4100 4 = 1 then (s.releaseNow 5).tellArbiter 1 else s
  else s

/-- The pair at a tick of the outputs' domain (R414): step 2, the time of driving, and the ramp. -/
def State.tickPair (s : State) : State :=
  if !s.paired then s
  else
    let s := s.checkConflict.noteCheck
    let s :=
      if s.pair.step = 1 ∧ s.pair.driving then
        let s := if s.ms.mode = .cobalt then s.changeMode .ivory 0 else s
        (s.mapPair fun p => { p with step := 2, drivenAt := s.now }).wr 0x4100 0x0D s.ptp
      else if s.pair.driving ∧ 2 ≤ s.pair.step ∧ s.pair.drivenAt + 1000000000 ≤ s.now then
        (s.mapPair fun p => { p with drivenAt := p.drivenAt + 1000000000 }).wr 0x4100 0x0D s.ptp
      else s
    s.mapPair fun p => { p with ramp := p.ramp.step }

/-- What a written `PAIR_ENABLE` or `ARBITER_ID` does (R403, R420). -/
def State.applyPair (s : State) : State :=
  if s.paired then (if s.pair.role = 0 then (s.mapPair fun p => { p with arbAt := s.now }).setRole 1 0 else s)
  else (s.mapPair fun p => { PairMember.reset with role := p.role, epoch := p.epoch, peerHigh := p.peerHigh,
                                                   peerLowAt := p.peerLowAt }).setRole 0 0

/-- Whether a pair message is meant for this member. -/
def State.forMember (s : State) (m : PairMsg) : Bool := s.paired && m.pair == s.rd 0x4100 3

/-- ARB_BEAT (R404, R407): the holder and the newest epoch. -/
def execArbBeat (t : Nat) (m : PairMsg) (s : State) : Host.Outcome State Fault Refusal :=
  let s := s.clock t
  let new := newerEpoch m.epoch s.pair.epoch
  if !s.forMember m || !(new || m.epoch == s.pair.epoch) then .next s
  else
    let s := s.mapPair fun p => { p with arbAt := s.now, arbLost := false, selfReleased := false }
    if !new then .next s
    else
      let s := s.takeEpoch m.epoch
      if m.member = uid then
        .next (s.mapPair fun p => { p with granted := true }).takeGrant
      else if s.pair.driving then .next (s.releaseNow 0)
      else .next ((s.mapPair fun p => { p with granted := false, blocked := false, waitAt := none }).setRole 1 0)

/-- REVOKE (R415). -/
def execRevoke (t : Nat) (m : PairMsg) (s : State) : Host.Outcome State Fault Refusal :=
  let s := s.clock t
  let new := newerEpoch m.epoch s.pair.epoch
  if !s.forMember m || m.member != uid || !(new || m.epoch == s.pair.epoch) then .next s
  else
    let s := if new then s.takeEpoch m.epoch else s
    if s.pair.driving then .next (s.beginRelease 2)
    else
      let s := s.mapPair fun p => { p with granted := false, blocked := false, waitAt := none }
      .next ((s.setRole 1 2).tellArbiter 4)

/-- PEER_ACT_IN (R407, R408). -/
def execPeerActIn (t : Nat) (high : Bool) (s : State) : Host.Outcome State Fault Refusal :=
  let s := s.clock t
  let s := s.checkConflict
  let s := s.mapPair fun p =>
    { p with peerHigh := high, peerLowAt := if p.peerHigh && !high then s.now else p.peerLowAt,
             conflict := p.conflict && !high }
  if s.paired && high && s.pair.granted && !s.pair.driving then .next (s.takeGrant) else .next s

/-- INTERLOCK_WAIT_END (R407). -/
def execInterlockWaitEnd (t : Nat) (s : State) : Host.Outcome State Fault Refusal :=
  let s := s.clock t
  match s.pair.waitAt with
  | some a =>
    if a + 1000000 ≤ s.now ∧ !s.pair.peerHigh then
      .next (((s.mapPair fun p => { p with waitAt := none, blocked := true }).setRole 3 0).event 0x80 0x4100)
    else .next s
  | none => .next s

/-- TAKEOVER_RAMP_START (R414): at a tick at least 1 ms after ACT_OUT fell. -/
def execTakeoverRampStart (t : Nat) (s : State) : Host.Outcome State Fault Refusal :=
  let s := s.clock t
  if s.pair.step = 2 ∧ s.pair.driving ∧ !s.pair.leaving ∧ s.pair.stepAt + 1000000 ≤ s.now ∧ s.atTick (s.outDom 1) then
    .next (s.mapPair fun p => { p with step := 3, ramp := p.ramp.to (some 0) s.takeoverLen })
  else .next s

/-- SELF_RELEASE (R412). -/
def execSelfRelease (t : Nat) (s : State) : Host.Outcome State Fault Refusal :=
  let s := s.clock t
  let ms := s.rd 0x4100 0x0A
  if s.paired ∧ s.pair.driving ∧ !s.pair.leaving ∧ ms ≠ 0 ∧ s.pair.arbAt + ms * 1000000 ≤ s.now then
    .next ((s.mapPair fun p => { p with selfReleased := true }).beginRelease 4)
  else .next s

/-- ARBITER_LOST (R412). -/
def execArbiterLost (t : Nat) (s : State) : Host.Outcome State Fault Refusal :=
  let s := s.clock t
  if s.paired ∧ !s.pair.arbLost ∧ s.pair.arbAt + 3000000 ≤ s.now then
    .next ((s.mapPair fun p => { p with arbLost := true }).event 0x84 0x4100)
  else .next s

/-- SELF_CHECK_PASS (R413, R416). -/
def execSelfCheckPass (t : Nat) (s : State) : Host.Outcome State Fault Refusal :=
  let s := (s.clock t).noteCheck
  match s.pair.checkAt with
  | some a =>
    if a + 1000000000 ≤ s.now then .next (s.mapPair fun p => { p with checkOk := true }).noteCheck else .next s
  | none => .next s

/-- REVERT_HOLDOFF_END (R416). -/
def execRevertHoldoffEnd (t : Nat) (s : State) : Host.Outcome State Fault Refusal :=
  let s := (s.clock t).noteCheck
  match s.pair.holdoffAt with
  | some a =>
    if a + s.rd 0x4100 8 * 1000000000 ≤ s.now then
      .next (s.mapPair fun p => { p with holdoffAt := none, revertReq := true })
    else .next s
  | none => .next s

/-! ## The arbiter -/

/-- Whether the arbiter runs (R421). -/
def State.arbRuns (s : State) : Bool := s.rd 0x4101 1 == 1 && Mode.awake s.ms.mode && s.chainSync

/-- Whether pair `i` is configured. -/
def State.arbUsed (s : State) (i : Nat) : Bool := s.rd (0x4110 + i) 1 != 0xFFFF

/-- The unique ID of member 1 or 2 of pair `i`; 0 for none. -/
def State.arbUid (s : State) (i k : Nat) : Nat := if k = 1 then s.rd (0x4110 + i) 2 else if k = 2 then s.rd (0x4110 + i) 3 else 0

/-- The record of member 1 or 2. -/
def ArbPair.member (x : ArbPair) (k : Nat) : ArbMember := if k = 1 then x.m0 else x.m1
/-- The pair with `m` as the record of member 1 or 2. -/
def ArbPair.setMember (x : ArbPair) (k : Nat) (m : ArbMember) : ArbPair :=
  if k = 1 then { x with m0 := m } else { x with m1 := m }

/-- Whether a member is a candidate (R412). -/
def ArbMember.candidate (m : ArbMember) (now : Nat) : Bool :=
  match m.beatAt with
  | some t => decide (now ≤ t + 3000000) && m.health.testBit 6 && m.health.testBit 0 && !m.health.testBit 1
  | .none => false

/-- The ARB_BEAT of pair `i` to both members (R409, R410). -/
def State.sendArbBeat (s : State) (i : Nat) : State :=
  let x := s.arbPair i
  [1, 2].foldl (fun s k => s.sendPair (s.rd (0x4110 + i) 1) 2 (s.nodeOf (s.arbUid i k))
    (pairBytes (s.arbUid i x.holder) x.epoch 0 s.ms.mode.code 0)) s

/-- Member `k` of pair `i` is granted under a new epoch (R404). -/
def State.grantNew (s : State) (i k : Nat) : State :=
  let x := s.arbPair i
  (s.setArb i { x with epoch := (x.epoch + 1) % 2 ^ 32, holder := k, st := 1, revokeAt := none, next := 0,
                       failover := false, revert := false }).sendArbBeat i

/-- A change of holder in order (R415 to R417): REVOKE to the holder, and the grant to member `k` later. -/
def State.beginChange (s : State) (i k : Nat) (failover revert : Bool) : State :=
  let x := s.arbPair i
  let s := s.setArb i { x with st := 2, revokeAt := some s.now, next := k, failover := failover, revert := revert }
  s.sendPair (s.rd (0x4110 + i) 1) 3 (s.nodeOf (s.arbUid i x.holder))
    (pairBytes (s.arbUid i x.holder) x.epoch 0 s.ms.mode.code 0)

/-- A requested switch to member `k` (R417): refused where it is no candidate; one that comes during a change waits for its end. [DEDUCED, log 80] -/
def State.requestSwitch (s : State) (i k : Nat) : State :=
  let x := s.arbPair i
  if !s.arbRuns ∨ !x.on ∨ k = x.holder then s
  else if x.st = 2 then s.setArb i { x with queue := x.queue ++ [k] }
  else if !(x.member k).candidate s.now then s.event 0x88 (0x4110 + i)
  else if x.holder = 0 || (x.member x.holder).failed then s.grantNew i k
  else s.beginChange i k false false

/-- The switches that were requested during a change of pair `i`, in order (R417). -/
def State.nextSwitch (s : State) (i : Nat) : State :=
  let x := s.arbPair i
  x.queue.foldl (fun s k => s.requestSwitch i k) (s.setArb i { x with queue := [] })

/-- Member `k` of pair `i` is granted, and what waits for the end of the change is next (R404, R417). -/
def State.grantTo (s : State) (i k : Nat) : State := (s.grantNew i k).nextSwitch i

/-- No member of pair `i` can be granted (R412). -/
def State.noCandidate (s : State) (i : Nat) : State :=
  let x := s.arbPair i
  (s.setArb i { x with holder := 0, st := 4, revokeAt := none, next := 0, failover := false, revert := false, queue := [] }).event
    0x82 (0x4110 + i)

/-- A failover or a handover ends with a grant to member `k`, if it is a candidate (R412, R416). -/
def State.finishChange (s : State) (i k : Nat) (failover revert : Bool) : State :=
  let x := s.arbPair i
  if !(x.member k).candidate s.now then s.noCandidate i
  else
    let s := s.grantTo i k
    if failover then (((s.bump (0x4110 + i) 7).wr (0x4110 + i) 8 s.ptp).event 0x83 (0x4110 + i))
    else
      let s := s.bump (0x4110 + i) 9
      if revert then s.event 0x87 (0x4110 + i) else s

/-- The member that the arbiter takes for the primary (R421): the one that has asked for a revert, or the one of the lower
unique ID. [DEDUCED, log 80] -/
def State.arbPrimary (s : State) (i : Nat) : Nat :=
  let x := s.arbPair i
  if x.m0.primary && !x.m1.primary then 1
  else if x.m1.primary && !x.m0.primary then 2
  else if s.arbUid i 1 ≤ s.arbUid i 2 then 1 else 2

/-- The member that a first grant goes to: one that drives, then the primary, then the other; 0 for none. -/
def State.firstHolder (s : State) (i : Nat) : Nat :=
  let x := s.arbPair i
  let p := s.arbPrimary i
  let drives (k : Nat) : Bool := (x.member k).beatAt.isSome && (x.member k).health.testBit 5 && !(x.member k).health.testBit 1
  if drives 1 then 1 else if drives 2 then 2
  else if (x.member p).candidate s.now then p
  else if (x.member (3 - p)).candidate s.now then 3 - p else 0

/-- A pair that is configured, or whose arbiter starts, waits for the heartbeats (R404). -/
def State.startArb (s : State) (i : Nat) : State := s.setArb i { ArbPair.off with startAt := s.now }

/-- ARBITER_START (R404). -/
def execArbiterStart (t pair : Nat) (s : State) : Host.Outcome State Fault Refusal :=
  let s := s.clock t
  let i := pair
  let x := s.arbPair i
  if i < 16 && s.arbRuns && s.arbUsed i && !x.on &&
      ((x.m0.beatAt.isSome && x.m1.beatAt.isSome) || decide (x.startAt + 10000000 ≤ s.now)) then
    let s := s.setArb i { x with on := true }
    if s.rd 0x4101 2 = 1 then .next (s.setArb i { s.arbPair i with st := 3 })
    else
      let k := s.firstHolder i
      .next (if k = 0 then s.noCandidate i else s.grantTo i k)
  else .next s

/-- HEARTBEAT_SEND (R410): in every eighth cycle, the member's HEARTBEAT and the ARB_BEATs of the pairs that have started. -/
def execHeartbeatSend (t : Nat) (s : State) : Host.Outcome State Fault Refusal :=
  let s := s.clock t
  let n := s.ptp / 125000
  if n % 8 ≠ 0 ∨ s.net.beatCycle = some n then .next s
  else
    let s := s.mapNet fun x => { x with beatCycle := some n }
    let s := if s.paired && s.inChain && s.rd 0x4100 6 != 0 then (s.checkConflict.noteCheck).tellArbiter 1 else s
    .next (if s.arbRuns then ((List.range 16).filter fun i => s.arbUsed i && (s.arbPair i).on).foldl State.sendArbBeat s else s)

/-- The pair and the member of it that a message names, if this arbiter serves it. -/
def State.arbFind (s : State) (m : PairMsg) : Option (Nat × Nat) :=
  ((List.range 16).find? fun i => s.arbUsed i && s.rd (0x4110 + i) 1 == m.pair &&
    (s.arbUid i 1 == m.member || s.arbUid i 2 == m.member)).map fun i => (i, if s.arbUid i 1 = m.member then 1 else 2)

/-- The holder of pair `i` has failed (R411, R412). [DEDUCED, log 80] -/
def State.holderFailed (s : State) (i : Nat) (byFault : Bool) : State :=
  let x := s.arbPair i
  if s.rd 0x4101 2 = 1 then s.setArb i { x with st := 3, revokeAt := none }
  else if byFault then s.beginChange i (3 - x.holder) true false
  else s.finishChange i (3 - x.holder) true false

/-- What a heartbeat of member `k` of pair `i` makes the arbiter do (R411, R412, R416, R417); `old` is the HEALTH before
it. -/
def State.actOnBeat (s : State) (i k old : Nat) (m : PairMsg) : State :=
  let x := s.arbPair i
  let host := s.rd 0x4101 2 == 1
  let h := m.health
  if h.testBit 1 && x.holder == k && !(x.member k).failed then
    (s.setArb i (x.setMember k { x.member k with failed := true })).holderFailed i true
  else if x.holder = 0 then
    if !host && (x.member k).candidate s.now then s.grantTo i k else s
  else if x.holder == k && x.st == 1 && m.epoch == x.epoch && !h.testBit 6 && !h.testBit 5 && !host then
    if (x.member (3 - k)).candidate s.now then s.grantTo i (3 - k) else s.noCandidate i
  else if x.st ≠ 1 ∨ host then s
  else if h.testBit 2 && x.holder != k && !(x.member x.holder).health.testBit 1 && (x.member k).candidate s.now then
    s.beginChange i k false true
  else if h.testBit 3 && !old.testBit 3 then s.requestSwitch i (3 - x.holder)
  else s

/-- HEARTBEAT (R411). -/
def execHeartbeat (t : Nat) (m : PairMsg) (s : State) : Host.Outcome State Fault Refusal :=
  let s := s.clock t
  match s.arbFind m with
  | none => .next s
  | some (i, k) =>
    if !s.arbRuns then .next s
    else
      let x := s.arbPair i
      let a := x.member k
      let none := x.m0.beatAt.isNone && x.m1.beatAt.isNone
      let x := { x with epoch := if x.on then x.epoch else if none || newerEpoch m.epoch x.epoch then m.epoch else x.epoch }
      let x := x.setMember k { a with beatAt := some s.now, health := m.health, role := m.role, got := true, missed := 0,
                                      failed := a.failed && m.health.testBit 1, primary := a.primary || m.health.testBit 2 }
      let s := s.setArb i x
      let s := if x.m0.primary && x.m1.primary && !x.prefSeen then
          (s.setArb i { x with prefSeen := true }).event 0x89 (0x4110 + i)
        else s
      .next (if x.on then s.actOnBeat i k a.health m else s)

/-- HEARTBEAT_WINDOW (R411, R412): a 1 ms window of PTP time has ended; the third window without a heartbeat declares the member failed. -/
def execHeartbeatWindow (t pair member : Nat) (s : State) : Host.Outcome State Fault Refusal :=
  let s := s.clock t
  let i := pair
  let k := member + 1
  let x := s.arbPair i
  let a := x.member k
  let w := s.ptp / 1000000
  if !(decide (i < 16) && decide (member < 2) && s.arbRuns && s.arbUsed i && x.on && decide (a.win ≠ w)) then .next s
  else if a.got then .next (s.setArb i (x.setMember k { a with got := false, missed := 0, win := w }))
  else
    let n := a.missed + 1
    let a := { a with win := w }
    let s := s.setArb i (x.setMember k { a with missed := n, failed := a.failed || decide (3 ≤ n) })
    if n = 3 ∧ x.holder = k then .next (s.holderFailed i false) else .next s

/-- RELEASED (R412, R416): the other member is granted. -/
def execReleased (t : Nat) (m : PairMsg) (s : State) : Host.Outcome State Fault Refusal :=
  let s := s.clock t
  match s.arbFind m with
  | none => .next s
  | some (i, k) =>
    let x := s.arbPair i
    if !s.arbRuns || !x.on || x.holder != k then .next s
    else if x.st = 2 then .next (s.finishChange i x.next x.failover x.revert)
    else if x.st = 1 && s.rd 0x4101 2 == 0 then .next (s.finishChange i (3 - k) false false)
    else .next s

/-- REVOKE_TIMEOUT (R412): 15 ms after the REVOKE of a failover. -/
def execRevokeTimeout (t pair : Nat) (s : State) : Host.Outcome State Fault Refusal :=
  let s := s.clock t
  let x := s.arbPair pair
  match x.revokeAt with
  | some a =>
    if s.arbRuns ∧ x.st = 2 ∧ x.failover ∧ a + 15000000 ≤ s.now then .next (s.finishChange pair x.next true false) else .next s
  | none => .next s

/-! ## Settings and readings -/

/-- A value of `ARBITER_ID` that R403 refuses: the member's own unique ID, or its `PEER_ID`. -/
def State.arbiterIdBad (s : State) (v : Nat) : Bool := v != 0 && (v == uid || v == s.rd 0x4100 5)

/-- `PAIR_STATUS` (R420). -/
def State.pairStatus (s : State) : Nat :=
  let p := s.pair
  bit p.conflict 8 + bit p.arbLost 7 + bit p.blocked 6 + bit (!p.peerHigh) 5 + bit p.checkOk 4 + bit p.holdoffAt.isSome 3 +
    bit p.revertReq 2 + bit s.switchReq 1 + bit s.actOut 0

/-- The computed subs of 4100h (R420). -/
def State.read4100 (s : State) (sub : Nat) : Nat :=
  match sub with
  | 2 => s.pair.role
  | 0x0C => s.pairStatus
  | _ => s.rd 0x4100 sub

/-- The computed subs of 4101h (R421). -/
def State.read4101 (s : State) (sub : Nat) : Nat :=
  if sub = 3 then ((List.range 16).filter s.arbUsed).length else s.rd 0x4101 sub

/-- The computed subs of pair `i` of the arbiter (R421). -/
def State.readArb (s : State) (i sub : Nat) : Nat :=
  match sub with
  | 4 => (s.arbPair i).holder
  | 5 => if s.arbRuns && s.arbUsed i then (s.arbPair i).st else 0
  | _ => s.rd (0x4110 + i) sub

end Sys2Proof.Machine
end

