-- ==== Sys2Proof/Machine/Listen.lean ====
section
/-!
DEFINITION. The listening path (14_listen_wake.md, R422 to R441): its feed, the three detection stages, the pre-wake ring
and its readers.
-/

set_option autoImplicit false

namespace Sys2Proof.Machine

/-- A change of the listening record. -/
def State.mapListen (s : State) (g : Listen → Listen) : State := { s with listen := g s.listen }
/-- A change of the ring. -/
def State.mapRing (s : State) (g : Ring → Ring) : State := { s with ring := g s.ring }

/-! ## The path -/

/-- Whether the path is to run (R422): always in INDIGO, otherwise while enabled in a mode above it. -/
def State.listenWanted (s : State) : Bool :=
  s.pdOn 1 && (match s.ms.mode with
    | .indigo => true
    | .ash => false
    | .slate => false
    | _ => s.rd 0x3A00 2 == 1)

/-- Whether the awake feed is available (R424). -/
def State.awakeFeed (s : State) : Bool :=
  s.rd 0x3A00 0x0F == 1 && (s.dom (s.inDom 1)).running && !family441 (s.rate (s.inDom 1)) &&
    (match s.rate (s.inDom 1) with
      | 48000 => true | 96000 => true | 192000 => true | _ => false)

/-- The front end is switched on or off. -/
def State.setFront (s : State) (on : Bool) : State :=
  s.mapListen fun l => { l with front := on, frontAt := if l.front then l.frontAt else s.now, frontOk := l.frontOk && on }

/-- The path starts (R422, R425): on the awake feed where it is available, otherwise on the front end. -/
def State.startListen (s : State) : State :=
  let feed := s.awakeFeed && s.ms.mode != .indigo
  let s := s.mapListen fun _ => { Listen.reset with feed := feed }
  let s := if feed then s else s.setFront true
  s.setFn .listen ((s.fn .listen).begin s.listenDom 0 (s.framp .listen))

/-- `RESULT` (R439). -/
def resultWord (outcome : Nat) (w : MatchWin) (template score : Nat) : Nat :=
  outcome * 2 ^ 30 + bit w.acrossWake 29 + bit w.acrossDescent 28 + bit w.seeded 27 + template * 2 ^ 24 + score % 2 ^ 10

/-- A window closes (R428): `outcome` 1 match, 2 no match, 3 abandoned. -/
def State.closeWindow (s : State) (w : MatchWin) (outcome template score : Nat) : State :=
  let s := s.mapListen fun l => { l with win := none }
  let s := ((s.wr 0x3A00 0x13 (resultWord outcome w template score)).wr 0x3A00 0x14 s.ptp).bump 0x3A00 0x15
  let s := w.temps.foldl (fun s x => s.wr (0x3A20 + x.1) 5 x.2.2.1) s
  let s := if outcome = 1 then s.bump (0x3A20 + template) 4 else s
  s.event (0x90 + outcome) 0x3A00

/-- An open window is abandoned (R425, R437). [DEDUCED, log 66] -/
def State.abandonWindow (s : State) : State :=
  match s.listen.win with
  | some w => s.closeWindow w 3 0 ((w.temps.map fun x => x.2.2.1).foldl max 0)
  | none => s

/-- The path is disabled (R425). -/
def State.stopListen (s : State) : State := (s.abandonWindow).stopFn .listen

/-- The path loses its power: nothing of it is kept but the ring (R432, R437). -/
def State.cutListen (s : State) : State :=
  let s := s.abandonWindow
  let s := s.mapListen fun _ => Listen.reset
  let s := s.mapRing fun r => { r with st := if r.st = 3 then 3 else if r.audio.isEmpty then 0 else 4, spliceDue := false }
  s.offFn .listen

/-! ## The ring -/

/-- The ring records a sample (R432). -/
def State.ringSample (s : State) (w : Word) : State :=
  let s := s.mapRing fun r => { r with audio := (w :: r.audio).take 393216, left := r.left - 1 }
  s.bump 0x3A01 6

/-- The samples of a frame as the ring sees them (R432): it records while enabled, to the end of the overlap and not while
held. -/
def State.ringFrame (s : State) (l : List Word) : State :=
  if s.rd 0x3A01 1 = 0 then
    s.mapRing fun r => { r with st := if r.st = 3 then 3 else if r.audio.isEmpty then 0 else 4 }
  else match s.ring.st with
    | 3 => s
    | 2 => (l.take s.ring.left).foldl State.ringSample s
    | _ => l.foldl State.ringSample (s.mapRing fun r => { r with st := 1, splice := if r.st = 1 then r.splice else none })

/-- The ring leaves HELD for recording (R432). -/
def State.ringRelease (s : State) : State :=
  if s.ring.st = 3 then s.mapRing fun r => { r with st := 1, splice := none, spliceDue := false } else s

/-- The splice at a tick of domain `d` (R433). [DEDUCED, log 66] -/
def State.splice (s : State) (d : Nat) : State :=
  let w := s.rd 0x3A01 6
  let s := ((((s.wr 0x3A01 7 s.ptp).wr 0x3A01 8 w).wr 0x3A01 9 (s.dom d).frame).wr 0x3A01 0x0A d).bump 0x3A01 0x0B
  s.mapRing fun r => { r with st := 2, spliceDue := false, splice := some w, left := 1600 }

/-- The inputs that `RING_SOURCE` names. -/
def State.ringInputs (s : State) : List Nat :=
  match s.rd 0x3A01 2 with
  | 0 => [1]
  | 1 => [2]
  | _ => [1, 2]

/-- What a tick of domain `d` does to a splice that is due (R433). [DEDUCED, log 66] -/
def State.tickSplice (s : State) (d : Nat) : State :=
  if !s.ring.spliceDue then s
  else
    let on := s.ringInputs.filter fun n => s.wants (.input n)
    if on.isEmpty then (if d = 0 ∧ s.ms.mode = .teal then s.splice 0 else s)
    else if on.any fun n => s.phase (.input n) == .running && s.inDom n == d then s.splice d else s

/-- RING_OVERLAP_END (R433). -/
def execRingOverlapEnd (t : Nat) (s : State) : Host.Outcome State Fault Refusal :=
  let s := s.clock t
  if s.ring.st = 2 ∧ s.ring.left = 0 then .next (s.mapRing fun r => { r with st := 3 }) else .next s

/-! ## Readers -/

/-- The write index from which `START_MS` counts (R434). -/
def State.readBase (s : State) : Nat :=
  match s.ring.splice with
  | some w => w
  | none => s.rd 0x3A01 6

/-- The first ring sample held, and the one after the newest. -/
def State.ringSpan (s : State) : Int × Int := ((s.rd 0x3A01 6 : Int) - s.ring.audio.length, s.rd 0x3A01 6)

/-- Where reader `r` starts. -/
def State.readStart (s : State) (r : Nat) : Int := (s.readBase : Int) + 16 * s.rdS 4 (0x3A10 + r) 3

/-- Whether the start of a reader lies in the recorded audio (R434). -/
def State.readerOk (s : State) (r : Nat) : Bool :=
  !s.wants (.reader r) || (decide (s.ringSpan.1 ≤ s.readStart r) && decide (s.readStart r < s.ringSpan.2))

/-- A reader starts (R434). -/
def State.startReader (s : State) (r : Nat) : State :=
  let s := s.setReader r { pos := s.readStart r, atEnd := false, outp := .off }
  s.setFn (.reader r) ((s.fn (.reader r)).begin s.listenDom 0 (s.framp (.reader r)))

/-- Whether a reader has no sample left (R434). -/
def State.readerDone (s : State) (r : Nat) : Bool :=
  decide ((s.reader r).pos < s.ringSpan.1) || decide (s.ringSpan.2 ≤ (s.reader r).pos)

/-- One sample of a reader. [DEDUCED, log 66] -/
def State.readerSample (s : State) (r : Nat) : State :=
  let f := s.fn (.reader r)
  if !f.active then s
  else
    let x := s.reader r
    let i := (s.ringSpan.2 - 1 - x.pos).toNat
    let w : Word := if s.readerDone r then 0 else Config.g722 x.pos.toNat (s.ring.audio.getD i 0)
    let y := fadeOn f { w := w, v := true, o := false, s := false, n := false, q := false }
    let s := ((s.setReader r { x with pos := x.pos + 1, outp := y }).setSrc (0x810 + r) y).foreignIn (0x810 + r) y
    s.setFn (.reader r) f.frame

/-- The samples of every reader in one millisecond. -/
def State.tickReaders (s : State) : State :=
  (List.range 8).foldl (fun s r => (List.range 16).foldl (fun s _ => s.readerSample r) s) s

/-- READER_AT_END (R434). -/
def execReaderAtEnd (t r : Nat) (s : State) : Host.Outcome State Fault Refusal :=
  let s := s.clock t
  if r < 8 && (s.fn (.reader r)).active && s.readerDone r then
    let s := s.setReader r { s.reader r with atEnd := true }
    .next (s.setFn (.reader r) ((s.fn (.reader r)).quiesce 0))
  else .next s

/-! ## Stage 3 -/

/-- Whether stage 3 may open a window now (R428, R435, R438). [DESIGN CHOICE, log 67] -/
def State.stage3 (s : State) : Bool :=
  (s.rd 0x3A00 3).testBit 1 &&
    (s.ms.mode == .indigo || s.descending || s.listen.prearm != 0 || s.listen.feedDue || s.rd 0x3A00 0x10 == 1)

/-- The threshold of template `t` (R431). -/
def State.tempThreshold (s : State) (t : Nat) : Nat := u16At (s.block (0x5100 + t)) 4

/-- The templates that a new window uses: those stored and enabled. -/
def State.tempsNow (s : State) : Sparse (Nat × Nat × Nat) :=
  ((List.range 8).filter fun t => s.rd (0x3A20 + t) 1 == 1 && !(s.block (0x5100 + t)).isEmpty).map
    fun t => (t, s.tempThreshold t, 0, 0)

/-- A window opens (R428, R436). [DEDUCED, log 66] -/
def State.openWindow (s : State) (seeded : Bool) : State :=
  if s.listen.win.isSome || !s.stage3 then s
  else s.mapListen fun l =>
    { l with win := some { openedAt := s.now, seeded := seeded, acrossWake := false, acrossDescent := s.descending,
                           level := (l.hist.headD (0, [])).1, low := 0, temps := s.tempsNow } }

/-- The best of the templates that have reached their threshold by a score: the highest, and the lower number where two are
equal. -/
def bestOf (l : Sparse (Nat × Nat × Nat)) (score : Nat × Nat × Nat → Nat) : Option (Nat × Nat) :=
  l.foldl (fun b x =>
    if score x.2 < x.2.1 then b
    else match b with
      | some y => if y.2 < score x.2 then some (x.1, score x.2) else b
      | none => some (x.1, score x.2)) none

/-- The close of a window by a score (R428), and whether it is a match. -/
def State.decideWindow (s : State) (w : MatchWin) (score : Nat × Nat × Nat → Nat) : State × Bool :=
  match bestOf w.temps score with
  | some b => (s.closeWindow w 1 b.1 b.2, true)
  | none => (s.closeWindow w 2 0 ((w.temps.map fun x => score x.2).foldl max 0), false)

/-- One matcher frame of ten frames (R427, R428), and whether a window closed with a match. Voice ends in a window when the energy of the
matcher frames has stayed 10 dB below that at its opening for 100 ms; where no frame gives that level, the first in the window does. [DESIGN CHOICE, log 67] -/
def State.matcherFrame (s : State) (energies scores : List Nat) (energy : Nat) : State × Bool :=
  if !(s.fn .listen).active || !(s.listen.stage2 || s.listen.win.isSome) || decide (s.listen.tenth < 10) then (s, false)
  else
    let s := s.mapListen fun l => { l with hist := ((energy, energies) :: l.hist).take 200, since := l.since + 1, tenth := l.tenth - 10 }
    match s.listen.win with
    | none => (s, false)
    | some w =>
      let level := if w.level = 0 then energy else w.level
      let low := if 10 * energy ≤ level then w.low + 1 else 0
      let voiceEnd := decide (10 ≤ low)
      let w := { w with level := level, low := low, temps := w.temps.map fun x => (x.1, x.2.1, max x.2.2.1 (scores.getD x.1 0), scores.getD x.1 0) }
      let s := s.mapListen fun l => { l with win := some w }
      if voiceEnd then
        let r := s.decideWindow w (·.2.1)
        (r.1.mapListen fun l => { l with voice := false, pauseRun := 0, voiceRun := 0 }, r.2)
      else if w.openedAt + 2500000000 ≤ s.now then s.decideWindow w (·.2.2)
      else (s, false)

/-! ## Stages 1 and 2 -/

/-- Four times the sum of the squares of the channel that `DETECT_SOURCE` chooses. -/
def State.detectPower (s : State) (l1 l2 : List Sample) : Nat :=
  let sq (l : List Int) : Nat := (l.map fun x => x.natAbs ^ 2).sum
  match s.rd 0x3A00 5 with
  | 0 => 4 * sq (l1.map (·.w.toInt))
  | 1 => 4 * sq (l2.map (·.w.toInt))
  | _ => sq (List.zipWith (fun a b => a.w.toInt + b.w.toInt) l1 l2)

/-- Whether the frame can be used for detection (R422). -/
def State.detectOk (s : State) (l1 l2 : List Sample) : Bool :=
  match s.rd 0x3A00 5 with
  | 0 => l1.all (·.v)
  | 1 => l2.all (·.v)
  | _ => l1.all (·.v) && l2.all (·.v)

/-- Whether a frame of power `p` opens the gate after frames of the powers `l` (R426). -/
def State.gateOpens (s : State) (p : Nat) (l : List Nat) : Bool :=
  if p = 0 then false
  else
    let lev (sum n : Nat) : Rat := tenLog sum (64 * n * 2 ^ 54)
    let old := l.sum
    decide ((s.rdS 2 0x3A00 7 : Rat) ≤ lev p 1) &&
      (decide (old = 0) || decide ((s.rdS 2 0x3A00 8 : Rat) ≤ lev p 1 - lev old l.length))

/-- Stage 1 on a frame of power `p` (R426), and whether the gate opened. -/
def State.stage1 (s : State) (p : Nat) (pre : List Word) : State × Bool :=
  let l := s.listen
  let opens := !l.gate && s.gateOpens p l.powers
  let two := s.rd 0x3A00 3 % 2 == 1 || (s.rd 0x3A00 3).testBit 2
  (s.mapListen fun l =>
    { l with powers := (p :: l.powers).take 1000, preroll := (pre :: l.preroll).take 64, gate := l.gate || opens,
             stage2 := if opens then two else l.stage2, heardAt := if opens then s.now else l.heardAt,
             since := if opens then 0 else l.since, tenth := if opens && two then l.preroll.length else l.tenth }, opens)

/-- DETECTIONS (R427). -/
def State.detected (s : State) : State := s.bump 0x3A01 0x0C

/-- Whether a frame's strongest tone is the pilot (R427): within ±1 % of `PILOT_FREQ`, at `PILOT_LEVEL` or above, and 12 dB above the rest
of the band. -/
def State.pilotTone (s : State) (env : ListenEnv) : Bool :=
  let f := s.rd 0x3A00 0x0B * 1000
  decide (((env.tone : Int) - f).natAbs * 100 ≤ f) && decide (s.rdS 2 0x3A00 0x0C ≤ env.level) && decide (1200 ≤ env.above)

/-- Stage 2 on a frame with its classifier score and the finding of the pilot detector (R427), and whether voice and pilot
were declared. Frames before the gate count as the pre-roll does. [DESIGN CHOICE, log 67] -/
def State.stage2 (s : State) (score : Nat) (tone : Bool) : State × Bool × Bool :=
  let l := s.listen
  let above := decide (s.rd 0x3A00 9 ≤ score)
  let cap (n : Nat) : Nat := if l.gate then n else min 64 n
  let paused := l.win.isSome
  let voiceRun := if paused then l.voiceRun else if above then cap (l.voiceRun + 1) else 0
  let pauseRun := if paused then 0 else if above then 0 else l.pauseRun + 1
  let pilotRun := if tone then cap (l.pilotRun + 1) else 0
  let on := l.gate && l.stage2
  let newVoice := on && !paused && !l.voice && s.rd 0x3A00 3 % 2 == 1 && decide (s.rd 0x3A00 0x0A ≤ voiceRun)
  let voice := newVoice || (l.voice && (paused || decide (pauseRun < 100)))
  let pilotNow := on && (s.rd 0x3A00 3).testBit 2 && decide (s.rd 0x3A00 0x0D ≤ pilotRun)
  let newPilot := pilotNow && !l.pilot
  let s := s.mapListen fun l =>
    { l with tenth := if l.stage2 || l.win.isSome then l.tenth + 1 else 0, voice := voice, voiceRun := voiceRun, pauseRun := pauseRun, pilot := pilotNow, pilotRun := pilotRun,
             heardAt := if voice || pilotNow then s.now else l.heardAt,
             voiceAt := if newVoice then some s.now else l.voiceAt }
  let s := if newVoice then s.detected.openWindow false else s
  let s := if newPilot then (s.detected).event 0x90 0x3A00 else s
  (s, newVoice, newPilot)

/-- HANG_END (R426). -/
def execHangEnd (t : Nat) (s : State) : Host.Outcome State Fault Refusal :=
  let s := s.clock t
  let l := s.listen
  if l.gate && !l.voice && !l.pilot && decide (l.heardAt + s.rd 0x3A00 0x0E * 1000000 ≤ s.now) then
    .next (s.mapListen fun l => { l with gate := false, stage2 := false, voiceRun := min 64 l.voiceRun, pauseRun := 0 })
  else .next s

/-! ## Frames -/

/-- The samples of one channel of the awake feed for a frame (R422, R424). -/
def awakeFrame (l : List Sample) : List Sample :=
  let v := !l.isEmpty && l.all (·.v)
  (List.range 16).map fun k =>
    { w := Config.decimate k (l.map (·.w)), v := v, o := false, s := false, n := false, q := false }

/-- The samples of one channel of the front end for a frame. -/
def frontFrame (l : List Word) : List Sample :=
  (List.range 16).map fun k => { w := l.getD k 0, v := true, o := false, s := false, n := false, q := false }

/-- A feed switch: the crossfade of 16 samples, which carry S (R422, R435). -/
def crossFrame (old new : List Sample) : List Sample :=
  (List.zip old new).mapIdx fun i x =>
    { x.2 with w := (sat32 (fade i 16 x.1.w.toInt x.2.w.toInt)).1, v := x.1.v && x.2.v, s := true }

/-- The samples of a channel at its source point, under the path's ramp. -/
def State.listenPoint (s : State) (p : Nat) (f : FuncState) (l : List Sample) : State :=
  (l.foldl (fun a x => let y := fadeOn a.2 x; ((a.1.setSrc p y).foreignIn p y, a.2.frame)) (s, f)).1

/-- The shortest time in ns between two frames of the path (R422): 1 ms by SYN_A within the ±200 ppm of its steer, or by the listening
oscillator of ±1 %. -/
def State.frameGap (s : State) : Nat := if s.muxActive .listen = 4 then 999800 else 990099

/-- Whether a frame of the path may be complete now. -/
def State.frameDue (s : State) : Bool :=
  match s.listen.frameAt with
  | some a => decide (a + s.frameGap ≤ s.now)
  | none => true

/-- One frame of the listening path (R422 to R427), and whether an event that `WAKE_ON` selects has occurred (R429). -/
def State.listenFrame (s : State) (env : ListenEnv) : State × Bool :=
  let f := s.fn .listen
  if !s.frameDue then (s, false)
  else
    let s := (s.mapListen fun l => { l with frameAt := some s.now }).tickReaders
    if !f.active then (s.mapListen fun l => { l with awake1 := [], awake2 := [] }, false)
    else
      let l := s.listen
      let feed := if l.returnDue then false else l.feed && s.awakeFeed
      let change := feed != l.feed || l.feedXf == 0
      let old := if l.feedXf = 0 then !feed else l.feed
      let pick (awake : Bool) (a : List Sample) (w : List Word) : List Sample := if awake then awakeFrame a else frontFrame w
      let mk (a : List Sample) (w : List Word) : List Sample :=
        if change then crossFrame (pick old a w) (pick feed a w) else pick feed a w
      let l1 := mk l.awake1 env.ch1
      let l2 := mk l.awake2 env.ch2
      let s := if !feed && !l.front then s.setFront true else s
      let s := s.mapListen fun l =>
        { l with feed := feed, feedXf := 16, returnDue := false, awake1 := [], awake2 := [],
                 prearm := if l.returnDue then 2 else l.prearm, front := !(feed && l.feedXf == 0) && l.front,
                 frontOk := !(feed && l.feedXf == 0) && l.frontOk }
      let s := (s.listenPoint 0x30 f l1).listenPoint 0x31 f l2
      let s := s.setFn .listen ((List.range 16).foldl (fun x _ => x.frame) f)
      let ring := match s.rd 0x3A01 2 with
        | 0 => l1.map (·.w)
        | 1 => l2.map (·.w)
        | _ => List.zipWith (fun a b => (sat32 (roundOpen (((a.w.toInt + b.w.toInt : Int) : Rat) / 2))).1) l1 l2
      let s := s.ringFrame ring
      if !s.detectOk l1 l2 then (s, false)
      else
        let r := s.stage1 (s.detectPower l1 l2) ring
        let q := r.1.stage2 env.score (s.pilotTone env)
        let on := s.rd 0x3A00 4
        (q.1, (r.2 && on.testBit 0) || (q.2.1 && on.testBit 1) || (q.2.2 && on.testBit 2))

/-- The samples of IN1 and IN2 that the awake feed takes at a tick of their domain (R424). -/
def State.tickAwake (s : State) (d : Nat) : State :=
  if s.inDom 1 = d ∧ (s.fn .listen).active then
    s.mapListen fun l => { l with awake1 := (s.present 0 :: l.awake1).take 192, awake2 := (s.present 1 :: l.awake2).take 192 }
  else s

/-! ## Mode changes -/

/-- A wake, whatever its source, or a cancelled descent (R433, R435, R437). -/
def State.listenWake (s : State) : State :=
  if !(s.fn .listen).active then s
  else
    let s := s.mapRing fun r => { r with spliceDue := r.spliceDue || r.st == 1 }
    let s := if s.listen.feed then s.setFront false else s
    s.mapListen fun l =>
      { l with feedDue := !l.feed, returnDue := false, prearm := 0,
               win := l.win.map fun w => { w with acrossWake := true } }

/-- Step 2 of a descent to INDIGO (R432, R436): the ring records again, and with pre-arm the front end starts, unless it has settled
already; otherwise the path runs as before. [DEDUCED, log 66] -/
def State.listenDescent (s : State) : State :=
  let s := s.mapRing fun r => if r.st = 2 then { r with st := 3 } else r
  let s := s.ringRelease.mapListen fun l => { l with win := l.win.map fun w => { w with acrossDescent := true } }
  if (s.fn .listen).active ∧ s.rd 0x3A00 0x11 = 1 ∧ (s.rd 0x2000 8).testBit 1 then
    let recent := match s.listen.voiceAt with
      | some t => decide (s.now ≤ t + 2000000000)
      | none => false
    let ok := s.listen.front && s.listen.frontOk
    let s := (s.mapListen fun l => { l with prearm := if ok && !l.feed then 2 else 1,
                                            returnDue := l.returnDue || (ok && l.feed) }).setFront true
    if recent && s.listen.feed then s.openWindow true else s
  else s

/-- Whether the disabling of IN1 and IN2 still waits for step 4 of the pre-arm (R436). -/
def State.prearmHolds (s : State) : Bool := s.listen.prearm == 1

/-- FRONT_END_SETTLED (R436): the feed switches at the next frame boundary. -/
def execFrontEndSettled (t : Nat) (s : State) : Host.Outcome State Fault Refusal :=
  let s := s.clock t
  let l := s.listen
  if l.front && !l.frontOk then
    .next (s.mapListen fun l => { l with frontOk := true, returnDue := l.returnDue || (l.prearm == 1 && l.feed),
                                         prearm := if l.prearm = 1 ∧ !l.feed then 2 else l.prearm })
  else .next s

/-- FEED_SWITCH (R435): after the splice and the close of the windows that were open at the wake. [DEDUCED, log 66] -/
def execFeedSwitch (t : Nat) (s : State) : Host.Outcome State Fault Refusal :=
  let s := s.clock t
  let l := s.listen
  let open_ := match l.win with
    | some w => w.acrossWake
    | none => false
  if (s.fn .listen).active && !l.feed && s.awakeFeed && s.ms.mode != .indigo && l.prearm == 0 && !s.ring.spliceDue &&
      !open_ then
    .next (s.mapListen fun l => { l with feed := true, feedXf := 0, feedDue := false })
  else .next s

/-! ## Templates and readings -/

/-- Whether a block is a template that R431 allows. -/
def templateOk (l : List Byte) : Bool :=
  u16At l 0 == 0x0100 && decide (20 ≤ u8At l 2) && decide (u8At l 2 ≤ 200) && u8At l 3 == 16 && decide (u16At l 4 ≤ 1000) &&
    (slice l 6 10).all (· == 0) && l.length == 16 + 16 * u8At l 2

/-- `LISTEN_STATUS` (R439). -/
def State.listenStatus (s : State) : Nat :=
  let l := s.listen
  bit l.feed 8 + bit (l.prearm != 0) 7 + bit l.win.isSome 6 + bit l.pilot 5 + bit l.voice 4 +
    bit (l.win.isSome || l.prearm != 0) 3 + bit l.stage2 2 + bit l.front 1 + bit (s.rampingNow .listen || l.feedXf == 0) 0

/-- The computed subs of 3A00h (R438). -/
def State.read3A00 (s : State) (sub : Nat) : Nat := if sub = 0x12 then s.listenStatus else s.rd 0x3A00 sub

/-- The computed subs of 3A01h (R440). -/
def State.read3A01 (s : State) (sub : Nat) : Nat :=
  match sub with
  | 3 => if s.ring.st = 1 ∧ !(s.fn .listen).active then (if s.ring.audio.isEmpty then 0 else 4) else s.ring.st
  | 5 => s.ring.audio.length / 16
  | _ => s.rd 0x3A01 sub

/-- The computed subs of a ring reader (R441). -/
def State.readReader (s : State) (r sub : Nat) : Nat :=
  match sub with
  | 4 => unsigned 4 (((s.reader r).pos - s.readBase) / 16)
  | 5 => bit (s.reader r).atEnd 0
  | _ => s.rd (0x3A10 + r) sub

/-- The computed subs of a template (R441). -/
def State.readTemplate (s : State) (t sub : Nat) : Nat :=
  let l := s.block (0x5100 + t)
  match sub with
  | 2 => u8At l 2
  | 3 => if l.isEmpty then 0 else crc32 l
  | _ => s.rd (0x3A20 + t) sub

end Sys2Proof.Machine
end

