-- ==== Sys2Proof/Machine/Housekeeping.lean ====
section
/-!
DEFINITION. The housekeeping converter (15_housekeeping.md, R442 to R462): slices, queue, scans, urgent requests, windows, reference
and results. What the supervision does with a valid result stands with the modes.
-/

set_option autoImplicit false

namespace Sys2Proof.Machine

/-! ## Slices -/

/-- A change of the converter's record. -/
def State.mapHk (s : State) (g : Hk → Hk) : State := { s with hk := g s.hk }

/-- The conversion on slice `i`. -/
def State.slice (s : State) (i : Nat) : Option HkConv := look none s.hk.slices i

/-- The state with `x` on slice `i`. -/
def State.setSlice (s : State) (i : Nat) (x : Option HkConv) : State :=
  s.mapHk fun h => { h with slices := put none h.slices i x }

/-- Whether HK runs from LPO (R116, R442). -/
def State.hkLow (s : State) : Bool := s.muxActive .hk == 3

/-- `WINDOW_MODE`. -/
def State.windowMode (s : State) : Nat := s.rd 0x2200 9

/-- The divider D of a `DIVIDE` field (R446). -/
def hkDivider (div : Nat) : Nat := 4 ^ (div % 4)

/-- T_c in ns (R446). [DEDUCED, log 63] -/
def State.hkTime (s : State) (div : Nat) : Nat := 30000 + s.hk.window / hkDivider div

/-- Every conversion in progress is marked INVALID (R454, R455). -/
def State.hkInvalidate (s : State) : State :=
  s.mapHk fun h => { h with slices := h.slices.map fun x => (x.1, x.2.map fun c => { c with invalid := true }) }

/-- The spare starts a calibration of two windows (R448). -/
def State.hkCalibrate (s : State) : State :=
  s.mapHk fun h => { h with calAt := some (s.now + 2 * (h.window + 30000)), calOk := false }

/-- Whether slice `i` is in the bank and free (R448, R449). -/
def State.sliceFree (s : State) (i : Nat) : Bool :=
  decide (i < 5) && i != s.hk.spare && s.hk.leaving != some i && s.slice i == none

/-! ## User scans -/

/-- A user scan starts (R450): it takes the mask and the dividers; one with an empty mask completes at once. -/
def State.startScan (s : State) (trig : Nat) : State :=
  let l := ((List.range 24).filter fun c => (s.rd 0x2200 3).testBit c).map fun c => (c, s.rd 0x2201 (c + 1))
  if l.isEmpty then s
  else s.mapHk fun h => { h with user := l, userTrig := trig, fresh := true, queued := true }

/-- A trigger of a user scan (R450): it starts a scan, or is held, or is dropped. [DEDUCED, log 63] -/
def State.hkTrigger (s : State) (trig : Nat) : State :=
  if s.phase .scan ≠ .running then s
  else if s.hk.user.isEmpty then s.startScan trig
  else if s.hk.held = none then s.mapHk fun h => { h with held := some trig }
  else (s.bump 0x2200 0x10).event 0xA1 0x2200

/-- The timer triggers at the instant `a` and starts its next period (R450). -/
def State.timerGo (s : State) (a : Nat) : State :=
  (s.mapHk fun h => { h with timerAt := a + s.rd 0x2200 5 * 1000000 }).hkTrigger 1

/-- A written `TRIGGER` takes effect once no conversion of a scan and no held scan waits (R459). -/
def State.settleTrigger (s : State) : State :=
  let v := s.rd 0x2200 4
  if s.hk.user.isEmpty && s.hk.held == none && s.hk.trigger != v then
    let s := s.mapHk fun h => { h with trigger := v }
    if v = 1 ∧ s.phase .scan = .running then s.timerGo s.now else s
  else s

/-- The scan in progress has started all its conversions: the held scan starts, and a written `TRIGGER` takes effect. -/
def State.scanStarted (s : State) : State :=
  if !s.hk.user.isEmpty then s
  else
    let s := match s.hk.held with
      | some trig => (s.mapHk fun h => { h with held := none }).startScan trig
      | none => s
    s.settleTrigger

/-- The scan function starts (R459): it has no ramp. -/
def State.startHkScan (s : State) : State :=
  let s := s.setFn .scan { (s.fn .scan).begin 0 0 0 with phase := .running, forced := false }
  if s.hk.trigger = 1 then s.timerGo s.now else s

/-- The scan function is disabled (R459): what has not started is discarded, and the drain is what has. -/
def State.stopHkScan (s : State) : State :=
  let s := s.stopFn .scan
  let s := (s.mapHk fun h => { h with user := [], fresh := false, queued := false, held := none }).settleTrigger
  if s.hk.running = 0 ∧ s.phase .scan = .draining then s.setFn .scan ((s.fn .scan).quiesce 0) else s

/-! ## Starting conversions -/

/-- Whether the reference has settled (R454). -/
def State.refSettled (s : State) : Bool := s.hk.refSettled || decide (s.hk.refAt + 5000000 ≤ s.now)

/-- A conversion starts on slice `i` (R449, R450). -/
def State.beginConv (s : State) (i : Nat) (r : HkReq) : State :=
  let c : HkConv :=
    { ch := r.ch, div := r.div, trig := r.trig, at_ := s.now, len := s.hkTime r.div, invalid := !s.refSettled,
      lowRes := s.hkLow, mainsFree := s.windowMode != 0 && !s.hk.locked }
  let s := (s.setSlice i (some c)).openGate 11
  if r.trig ≤ 2 then
    (s.mapHk fun h =>
      { h with user := h.user.tail, queued := false, fresh := false, running := h.running + 1,
               due := s.now + c.len / 4 }).scanStarted
  else s

/-- The head of the queue, and the state without it (R449): urgent requests, then the supervision, then the user scan. -/
def State.hkNext (s : State) : Option (HkReq × State) :=
  match s.hk.urgent, s.hk.sup, s.hk.user with
  | r :: l, _, _ => some (r, s.mapHk fun h => { h with urgent := l })
  | [], c :: l, _ => some ({ ch := c, div := 3, trig := 5 }, s.mapHk fun h => { h with sup := l })
  | [], [], (c, d) :: _ => if s.hk.queued then some ({ ch := c, div := d, trig := s.hk.userTrig }, s) else none
  | [], [], [] => none

/-- The lowest-numbered free bank slice takes the head of the queue (R449). -/
def State.dispatchOne (s : State) : State :=
  match (List.range 5).find? s.sliceFree, s.hkNext with
  | some i, some (r, s') => s'.beginConv i r
  | _, _ => s

/-- Every free slice takes a conversion while one waits (R449). [DEDUCED, log 63] -/
def State.hkDispatch (s : State) : State :=
  if s.hk.on then (List.range 5).foldl (fun s _ => s.dispatchOne) s else s

/-! ## Rotation -/

/-- The slice that leaves becomes the spare, and the old spare joins the bank (R448). -/
def State.rotateEnd (s : State) : State :=
  match s.hk.leaving with
  | some i =>
    if s.slice i = none ∧ s.hk.calOk then
      (s.mapHk fun h => { h with spare := i, leaving := none, count := 0 }).hkCalibrate
    else s
  | none => s

/-- After 64 conversions, and once the spare is calibrated, the next slice is told to leave (R448). -/
def State.rotate (s : State) : State :=
  let s := if s.hk.leaving = none ∧ 64 ≤ s.hk.count ∧ s.hk.calOk then
      s.mapHk fun h => { h with leaving := some ((h.spare + 1) % 5) }
    else s
  s.rotateEnd

/-- The converter starts with the sequencer (R442): the spare calibrates. -/
def State.startHk (s : State) : State :=
  if s.hk.on then s else (s.mapHk fun h => { h with on := true }).hkCalibrate

/-- The converter without AVDD33: it stops, and forgets what it was doing. -/
def State.cutHk (s : State) : State :=
  s.mapHk fun h =>
    { h with on := false, slices := [], calAt := none, calOk := false, leaving := none, urgent := [], sup := [],
             supAt := none, user := [], fresh := false, queued := false, running := 0, held := none, locked := false,
             window := 20000000, periods := [], edgeAt := none, delayAt := none }

/-! ## Results -/

/-- The code and OVER of a result whose code before saturation is `x` (R444). -/
def hkSat (x : Int) : Int × Bool :=
  if 2 ^ 23 - 1 < x then (2 ^ 23 - 1, true) else if x < -(2 ^ 23 - 1) then (-(2 ^ 23), true) else (x, false)

/-- The word of R457 without FRESH, OVERRUN and RESULT_NO. -/
def hkWord (i : Nat) (c : HkConv) (code : Int) (ov low : Bool) : Nat :=
  (code % 2 ^ 24).toNat * 2 ^ 40 + c.ch * 2 ^ 35 + i * 2 ^ 32 + c.trig * 2 ^ 29 + bit c.invalid 26 + bit ov 25 +
    bit low 24 + bit c.mainsFree 23 + c.div * 2 ^ 21

/-- A result is written to `RESULT` (R456). -/
def State.deliver (s : State) (w : Nat) : State :=
  let ov := s.hk.result.testBit 28
  let s := if ov then (s.bump 0x2200 0x12).event 0xA3 0x2200 else s
  let s := s.bump 0x2200 0x0F
  s.mapHk fun h => { h with result := w + 2 ^ 28 + bit ov 27 + s.rd 0x2200 0x0F % 2 ^ 16 }

/-- Whether the pin of a channel was held at AGND for the whole of a conversion (R138): LOCKF_A and LOCKF_B are, while their
synthesizer is off, gated or in the first 200 µs of an acquisition. -/
def State.heldPin (s : State) (c : HkConv) : Bool :=
  let held (x : Syn) : Bool :=
    let y := s.syn x
    !s.synRuns x && (y.acqAt == 0 || decide (s.now < y.acqAt + 200000)) && decide (y.stopAt ≤ c.at_)
  (c.ch == 14 && held .a) || (c.ch == 15 && held .b)

/-- A conversion of slice `i` has completed (R448, R456, R458): the shadow table, the valid code, `RESULT`, and the count
toward the rotation. -/
def State.finishConv (s : State) (i : Nat) (c : HkConv) (code : Int) : State :=
  let (x, ov) := hkSat (if s.heldPin c then 0 else code)
  let w := hkWord i c x ov (c.lowRes || s.hkLow)
  let s := (s.setSlice i none).mapHk fun h =>
    { h with shadow := put 0 h.shadow c.ch w, count := h.count + 1,
             valid := if c.invalid then h.valid else put (2 ^ 30) h.valid c.ch x }
  let s := if c.trig = 5 then s else s.deliver w
  let s := if c.trig ≤ 2 then s.mapHk fun h => { h with running := h.running - 1 } else s
  let s := if s.hk.running = 0 ∧ s.phase .scan = .draining then s.setFn .scan ((s.fn .scan).quiesce 0) else s
  s.rotate.hkDispatch

/-- CALIBRATION_COMPLETE (R448). -/
def execCalibrationComplete (t : Nat) (s : State) : Host.Outcome State Fault Refusal :=
  let s := s.clock t
  match s.hk.calAt with
  | some a =>
    if a ≤ s.now then .next (s.mapHk fun h => { h with calAt := none, calOk := true }).rotate.hkDispatch else .next s
  | none => .next s

/-- SCAN_CONVERSION_DUE (R450). -/
def execScanConversionDue (t : Nat) (s : State) : Host.Outcome State Fault Refusal :=
  let s := s.clock t
  if s.hk.on && !s.hk.user.isEmpty && !s.hk.queued && decide (s.hk.due ≤ s.now) then
    .next (s.mapHk fun h => { h with queued := true }).hkDispatch
  else .next s

/-- HK_TIMER (R450). -/
def execHkTimer (t : Nat) (s : State) : Host.Outcome State Fault Refusal :=
  let s := s.clock t
  if s.hk.on && s.phase .scan == .running && s.hk.trigger == 1 && decide (s.hk.timerAt ≤ s.now) then
    .next (s.timerGo s.hk.timerAt).hkDispatch
  else .next s

/-- The channels of the supervision scan (R458). -/
def supChannels (low : Bool) : List Nat :=
  if low then [0, 2, 3, 10, 11, 12, 13] else 0 :: (List.range 12).map (· + 2)

/-- SUPERVISION_SCAN (R458): every 10 ms, or every 1 s in SLATE and INDIGO; one that still waits is not duplicated. -/
def execSupervisionScan (t : Nat) (s : State) : Host.Outcome State Fault Refusal :=
  let s := s.clock t
  let low := !s.rcoRuns
  let ok := match s.hk.supAt with
    | some a => decide (a + (if low then 1000000000 else 10000000) ≤ s.now)
    | none => true
  if s.hk.on && ok then
    .next (s.mapHk fun h =>
      { h with supAt := some s.now, sup := if h.sup.isEmpty then supChannels low else h.sup }).hkDispatch
  else .next s

/-! ## Urgent requests -/

/-- An urgent request is dropped (R452, R453). -/
def State.dropUrgent (s : State) : State := (s.bump 0x2200 0x11).event 0xA2 0x2200

/-- Whether the urgent request `v` would be dropped: four wait, or the slice it names cannot start it (R452, R453). -/
def State.urgentDrops (s : State) (v : Nat) : Bool :=
  if v / 0x2000 = 7 then decide (4 ≤ s.hk.urgent.length) else !s.sliceFree (v / 0x2000)

/-- The urgent request `v` with a trigger code of R457: a bank-level one enters the queue ahead of everything else, a
slice-level one starts at once (R452, R453). -/
def State.urgentReq (s : State) (v trig : Nat) : State :=
  let r : HkReq := { ch := v % 0x20, div := bits v 9 8, trig := trig }
  if s.urgentDrops v then s.dropUrgent
  else if v / 0x2000 = 7 then (s.mapHk fun h => { h with urgent := h.urgent ++ [r] }).hkDispatch
  else s.beginConv (v / 0x2000) r

/-- Whether the request of the last PWM event has not started yet (R451). -/
def State.pwmWaits (s : State) : Bool :=
  s.hk.delayAt != none || s.hk.held == some 2 || (s.hk.fresh && s.hk.userTrig == 2) ||
    s.hk.urgent.any fun r => r.trig == 4

/-- An edge event of PWM output `n` (R451): it starts `PWM_DELAY`, or is ignored. [DEDUCED, log 63] -/
def State.hkEdge (s : State) (n : Nat) : State :=
  if s.rd 0x2200 6 ≠ n ∨ !s.hk.on then s
  else if s.pwmWaits then s.bump 0x2200 0x13
  else s.mapHk fun h => { h with delayAt := some (s.now + s.rd 0x2200 7 * 100) }

/-- PWM_DELAY_END (R451): the action that `PWM_ACTION` selects. [DEDUCED, log 63] -/
def execPwmDelayEnd (t : Nat) (s : State) : Host.Outcome State Fault Refusal :=
  let s := s.clock t
  match s.hk.delayAt with
  | some a =>
    if a ≤ s.now then
      let s := s.mapHk fun h => { h with delayAt := none }
      let v := s.rd 0x2200 0x15
      match s.rd 0x2200 8 with
      | 0 => .next (if s.hk.trigger = 2 then (s.hkTrigger 2).hkDispatch else s)
      | 1 => .next (s.urgentReq (0xE000 + v % 0x2000) 4)
      | _ => .next (if v / 0x2000 = 7 then s.dropUrgent else s.urgentReq v 4)
    else .next s
  | none => .next s

/-- The nominal carrier cycles to the instant `t` and what the spread leads them by (R132). -/
def State.carrierCycles (s : State) (t : Nat) : Rat := s.carrierHz * t / 1000000000 + s.carrierLead t

/-- Whether `EDGE_DIV` periods of the carrier have passed since PWM output `n` last raised an event (R332): the events follow the spread
carrier, whose spread may have changed since. -/
def State.edgeDue (s : State) (n : Nat) : Bool :=
  match (s.pwm n).edgeAt with
  | none => true
  | some a =>
    decide ((s.rd (0x320F + n) 0x0C : Rat) ≤
      if s.clk.triAt ≤ a then s.carrierCycles (s.now + 1) - s.carrierCycles a
      else s.carrierHz * (s.now + 1 - a) / 1000000000 * (103 / 100))

/-- PWM_EDGE_EVENT (R332). -/
def execPwmEdgeEvent (t n : Nat) (s : State) : Host.Outcome State Fault Refusal :=
  let s := s.clock t
  if 1 ≤ n ∧ n ≤ 16 ∧ s.rd (0x320F + n) 0x0B ≠ 0 ∧ (s.pwm n).step ≠ .safe ∧ s.edgeDue n then
    .next (((s.setPwm n { s.pwm n with edgeAt := some s.now }).bump 0x3200 6).hkEdge n)
  else .next s

/-! ## Windows and reference -/

/-- The reference changes (R454). -/
def State.changeRef (s : State) : State :=
  ((s.mapHk fun h => { h with refAt := s.now, refSettled := false }).hkInvalidate).hkCalibrate

/-- REF_SETTLED (R454). -/
def execRefSettled (t : Nat) (s : State) : Host.Outcome State Fault Refusal :=
  let s := s.clock t
  if !s.hk.refSettled && decide (s.hk.refAt + 5000000 ≤ s.now) then
    .next (s.mapHk fun h => { h with refSettled := true })
  else .next s

/-- The window free-runs from here on, and what is in progress becomes INVALID (R445, R455). -/
def State.freeRun (s : State) : State :=
  (s.mapHk fun h => { h with locked := false, window := 20000000, periods := [] }).hkInvalidate

/-- The loss of a lock that was held (R445). -/
def State.loseMains (s : State) : State := if s.hk.locked then s.freeRun.event 0xA0 0x2200 else s

/-- The nominal mains frequency of a locked mode in Hz (R445). -/
def mainsHz (m : Nat) : Nat := if m = 1 then 50 else 60

/-- MAINS_EDGE (R445). -/
def execMainsEdge (t : Nat) (s : State) : Host.Outcome State Fault Refusal :=
  let s := s.clock t
  let old := s.hk.edgeAt
  let s := s.mapHk fun h => { h with edgeAt := if h.on then some s.now else none }
  if s.windowMode = 0 ∨ !s.hk.on then .next s
  else match old with
    | none => .next s
    | some a =>
      let p := s.now - a
      let hz := mainsHz s.windowMode
      if 19 * 1000000000 ≤ 20 * hz * p ∧ 20 * hz * p ≤ 21 * 1000000000 then
        let l := (p :: s.hk.periods).take 8
        let s := s.mapHk fun h => { h with periods := l }
        if l.length < 8 then .next s
        else
          let was := s.hk.locked
          let s := s.mapHk fun h => { h with locked := true, window := l.sum / 8 }
          .next (if was then s else s.hkInvalidate)
      else .next (s.loseMains.mapHk fun h => { h with periods := [] })

/-- MAINS_LOSS (R445): no rising edge for two nominal periods. -/
def execMainsLoss (t : Nat) (s : State) : Host.Outcome State Fault Refusal :=
  let s := s.clock t
  match s.hk.edgeAt with
  | none => .next s
  | some a =>
    if s.windowMode ≠ 0 ∧ 2 * 1000000000 ≤ (s.now - a) * mainsHz s.windowMode then
      .next (s.loseMains.mapHk fun h => { h with periods := [], edgeAt := none })
    else .next s

/-! ## Objects -/

/-- What a written setting of 2200h does (R454, R455, R459). -/
def State.applyHk (s : State) (subs : List Nat) : State :=
  let s := if subs.contains 5 && s.phase .scan == .running && s.hk.trigger == 1 then
      s.mapHk fun h => { h with timerAt := s.now + s.rd 0x2200 5 * 1000000 } else s
  let s := if subs.contains 4 then s.settleTrigger else s
  let s := if subs.contains 9 then s.freeRun.mapHk fun h => { h with edgeAt := none } else s
  let s := if subs.contains 0x0A then s.changeRef else s
  s.hkDispatch

/-- A write of a WO object of 2200h: `SW_TRIGGER` (R450) or `URGENT` (R452, R453). -/
def State.writeHk (s : State) (sub v : Nat) : State :=
  match sub with
  | 0x0B => if v = 1 then (s.hkTrigger 0).hkDispatch else s
  | 0x14 => s.urgentReq v 3
  | _ => s

/-- `HK_STATUS` (R461). -/
def State.hkStatus (s : State) : Nat :=
  bit (s.hk.result.testBit 28) 8 + bit s.refSettled 7 + bit s.hk.locked 6 + bit (s.windowMode != 0 && !s.hk.locked) 5 +
    bit (decide (0 < s.hk.running) || !s.hk.user.isEmpty) 4 + bit (s.hk.held != none) 3 + bit (s.hk.leaving != none) 2 +
    bit (s.hk.calAt != none) 1 + bit s.hkLow 0

/-- The computed subs of 2200h (R460). -/
def State.read2200 (s : State) (sub : Nat) : Nat :=
  match sub with
  | 1 => s.stateByte .scan
  | 0x0C => s.hkStatus
  | 0x0D => s.hk.window
  | 0x0E => s.hk.spare
  | _ => s.rd 0x2200 sub

/-- `RESULT` (R456, R457). -/
def State.readResult (s : State) (sub : Nat) : Nat := if sub = 1 then s.hk.result else s.rd 0x2210 sub

/-- A read of `RESULT` clears FRESH (R456). -/
def State.clearFresh (s : State) : State := s.mapHk fun h => { h with result := setBit h.result 28 false }

/-- `SHADOW_c` (R458, R462). -/
def State.readShadow (s : State) (sub : Nat) : Nat := if 1 ≤ sub then look 0 s.hk.shadow (sub - 1) else s.rd 0x2220 sub

end Sys2Proof.Machine
end

