-- ==== Sys2Proof/Machine/Memory.lean ====
section
/-!
DEFINITION. External memory (17_memory_capture.md, R494 to R513): training and faults of the interface, pages, capture and
playback channels, and transports.
-/

set_option autoImplicit false

namespace Sys2Proof.Machine

/-- A change of the memory record. -/
def State.mapMem (s : State) (g : Mem → Mem) : State := { s with mem := g s.mem }

/-! ## Pages -/

/-- PAGES of a capture configuration (R512). -/
def capPages (c : Nat) : Nat := c % 0x2000
/-- PACKING of a capture configuration (R512). -/
def capPacking (c : Nat) : Nat := bits c 27 26
/-- TRANSPORT of a configuration (R512). -/
def cfgTransport (c : Nat) : Nat := bits c 30 28

/-- The pages that capture channel `c` claims (R499, R503). -/
def State.capClaim (s : State) (c : Nat) : Nat := if s.wants (.cap c) then capPages (s.capCfg c) else (s.cap c).pages

/-- The pages that the capture channels hold. -/
def State.capsHeld (s : State) : Nat := ((List.range 256).map s.capClaim).sum

/-- `MEM_SIZE` in MiB: 0 while none is trained (R511). [DEDUCED, log 64] -/
def State.memSize (s : State) : Nat := if s.mem.ready then s.rd 0x3B00 2 else 0

/-- The pages that are not claimed (R498, R499). -/
def State.pagesFree (s : State) : Nat := s.memSize - 18 - (s.linesHeld + s.capsHeld)

/-- The pages that capture channel `c` holds once the settings `s'` follow those of `s`: none where that disables it (R32), and those
of one that an earlier commit has disabled until it has stopped. -/
def State.capAfter (s s' : State) (c : Nat) : Nat := if s.wants (.cap c) && !s'.wants (.cap c) then 0 else s'.capClaim c

/-- The pages that delay line `d` holds once the settings `s'` follow those of `s`. -/
def State.lineAfter (s s' : State) (d : Nat) : Nat := if s.wants (.delayLine d) && !s'.wants (.delayLine d) then 0 else s'.lineClaim d

/-- Whether the claims that rise from `s` to the settings of `s'` find their pages (R32, R499). -/
def State.pagesFit (s s' : State) : Bool :=
  let l := List.range 256
  (l.all fun n => decide (s.lineAfter s' n ≤ s.lineClaim n) && decide (s.capAfter s' n ≤ s.capClaim n)) ||
    (s.mem.ready && decide (18 + (l.map (s.lineAfter s')).sum + (l.map (s.capAfter s')).sum ≤ s.memSize))

/-! ## Buffers -/

/-- The samples that the buffer of capture channel `c` holds (R504). -/
def CapBuf.room (x : CapBuf) : Nat := x.pages * 1048576 / packBytes x.packing

/-- The `n` bytes of a buffer from the place `at_` as a number. -/
def CapBuf.bytes (x : CapBuf) (at_ n : Nat) : Nat :=
  match n with
  | 0 => 0
  | m + 1 => look 0 x.data at_ + 256 * x.bytes (at_ + 1) m

/-- The buffer with the `n` low bytes of `v` from the place `at_`. -/
def CapBuf.store (x : CapBuf) (at_ n v : Nat) : CapBuf :=
  match n with
  | 0 => x
  | m + 1 => { x with data := put 0 x.data at_ (v % 256) }.store (at_ + 1) m (v / 256)

/-- MODE of a capture configuration: ring (R512). -/
def capRing (c : Nat) : Bool := c.testBit 25

/-- Sample `v` is recorded (R504): a full linear buffer takes nothing more, a ring overwrites its oldest sample. -/
def CapBuf.record (x : CapBuf) (ring : Bool) (v : Nat) : CapBuf :=
  let n := x.room
  let b := packBytes x.packing
  if n = 0 ∨ (!ring ∧ n ≤ x.count) then { x with full := !ring }
  else
    let y := x.store (x.count % n * b) b v
    { y with count := x.count + 1, length := min (x.count + 1) n * b, full := !ring && decide (n ≤ x.count + 1) }

/-- What a late capture write records (R500). -/
def lateWord (packing : Nat) : Nat := if packing = 1 then 0x20 else 0

/-- A transfer of class 3 waits a free time of at most 1 ms, and `BG_WAIT_MAX` keeps the longest (R500). [DESIGN CHOICE, log 83] -/
def State.bgWait (s : State) : State :=
  let r := s.draw 10
  r.2.wr 0x3B00 0x0A (max (r.2.rd 0x3B00 0x0A) (r.1 % 1001))

/-- A memory-late sample (R500). [DESIGN CHOICE, log 83] -/
def State.memLate (s : State) : State := (s.bump 0x3B00 9).event 0xC1 0x3B00

/-! ## Channels -/

/-- Whether capture or playback may start (R508). -/
def State.capReady (s : State) (f : Func) : Bool := s.domReady f && s.mem.ready

/-- Capture channel `c` starts with an empty buffer (R508). -/
def State.startCap (s : State) (c : Nat) : State :=
  let g := s.capCfg c
  let s := s.setCap c { CapBuf.none with pages := capPages g, packing := capPacking g }
  s.setFn (.cap c) ((s.fn (.cap c)).begin (bits g 24 23) 0 0)

/-- Capture channel `c` has stopped: its pages are free (R499). -/
def State.restCap (s : State) (c : Nat) : State := s.setCap c .none

/-- Playback channel `c` starts (R508). -/
def State.startPlay (s : State) (c : Nat) : State :=
  let s := s.setPlay c .off
  s.setFn (.play c) ((s.fn (.play c)).begin (bits (s.playCfg c) 24 23) 0 0)

/-- Whether transport `tr` moves the channels of domain `d` now. -/
def State.rolls (s : State) (tr : Nat) : Bool := (s.transport tr).running

/-- One tick of capture channel `c` (R500, R503 to R506). -/
def State.tickCap (s : State) (late : List Nat) (c : Nat) : State :=
  let f := s.fn (.cap c)
  let g := s.capCfg c
  let s := if f.active && s.rolls (cfgTransport g) then
      let x := s.cap c
      if x.full then s
      else if late.contains c then
        s.memLate.setCap c { x.record (capRing g) (lateWord x.packing) with lateAt := some s.now }
      else
        let y := if (s.fn (.route (0x500 + c))).active then s.sinkSample (0x500 + c) else .quiet
        s.setCap c (x.record (capRing g) (pack x.packing y).1)
    else s
  s.setFn (.cap c) f.frame

/-- SOURCE_CH of a playback configuration (R512). -/
def playSource (c : Nat) : Nat := c % 256

/-- Whether the buffer of channel `k` is being recorded. -/
def State.recording (s : State) (k : Nat) : Bool :=
  (s.fn (.cap k)).active && s.rolls (cfgTransport (s.capCfg k)) && !(s.cap k).full

/-- The sample that playback channel `c` takes at a tick, and the channel after it (R500, R506). [DEDUCED, log 65] -/
def State.playSample (s : State) (late : Bool) (c : Nat) : Sample × PlayCh :=
  let x := s.play c
  let g := s.playCfg c
  let y := s.cap (playSource g)
  let b := packBytes y.packing
  let n := y.length / b
  let gap : Sample := { Sample.off with s := true, q := false }
  if !x.playing then (.quiet, x)
  else if s.recording (playSource g) && decide (y.count ≤ x.pos) then (gap, x)
  else
    let pos := if n ≤ x.pos ∧ g.testBit 25 ∧ 0 < n ∧ !s.recording (playSource g) then 0 else x.pos
    if n ≤ pos ∧ !s.recording (playSource g) then (.quiet, { x with atEnd := true })
    else
      let slot := if y.room = 0 then 0 else pos % y.room
      let v := unpack y.packing (y.bytes (slot * b) b)
      if late then (gap, { x with pos := pos + 1, lateAt := some s.now }) else (v, { x with pos := pos + 1 })

/-- Playback channel `c` presents its sample at a tick (R506, R508). -/
def State.tickPlay (s : State) (late : List Nat) (c : Nat) : State :=
  let f := s.fn (.play c)
  let s := if f.active then
      let isLate := late.contains c && (s.play c).playing
      let (v, x) := s.playSample isLate c
      let v := if x.gain.live then v.times x.gain.gain else v
      let gain := x.gain.step
      let done := x.gain.live && !gain.live && gain.g1 == none
      let x := { x with gain := gain, playing := x.playing && !done }
      let v := if f.fading then { v.times f.fade.gain with q := true } else v
      let s := (s.setPlay c x).setSrc (0x500 + c) v
      if isLate then s.memLate else s
    else s
  s.setFn (.play c) f.frame

/-! ## Transports -/

/-- The capture channels that name transport `tr` and are enabled. -/
def State.transCaps (s : State) (tr : Nat) : List Nat :=
  (List.range 256).filter fun c => s.wants (.cap c) && cfgTransport (s.capCfg c) == tr

/-- The playback channels that name transport `tr` and are enabled. -/
def State.transPlays (s : State) (tr : Nat) : List Nat :=
  (List.range 256).filter fun c => s.wants (.play c) && cfgTransport (s.playCfg c) == tr

/-- The domains of a transport's enabled channels (R505). -/
def State.transDoms (s : State) (tr : Nat) : List Nat :=
  (((s.transCaps tr).map fun c => bits (s.capCfg c) 24 23) ++ (s.transPlays tr).map fun c => bits (s.playCfg c) 24 23).dedup

/-- The domain of a transport; the first where it has no channel. -/
def State.transDom (s : State) (tr : Nat) : Nat := (s.transDoms tr).headD 0

/-- The checks of a commit on the channels (R503, R505): one domain for each transport, and a playback channel and its
source at one rate. -/
def State.capturesOk (s : State) : Bool :=
  ((List.range 8).all fun tr => decide ((s.transDoms tr).length ≤ 1)) &&
    (List.range 256).all fun c =>
      !s.wants (.play c) ||
        s.confRate (bits (s.playCfg c) 24 23) == s.confRate (bits (s.capCfg (playSource (s.playCfg c))) 24 23)

/-- The transport starts at the tick with frame count `frame` (R504 to R506): every channel from its first sample. -/
def State.startTransport (s : State) (tr frame : Nat) : State :=
  let s := s.setTransport tr { running := true, armed := false, stopping := false, pos := 0 }
  let s := (s.wr (0x3B60 + tr) 4 frame).wr (0x3B60 + tr) 5 s.ptp
  let s := (s.transCaps tr).foldl (fun s c => s.setCap c { s.cap c with count := 0, length := 0, full := false }) s
  (s.transPlays tr).foldl (fun s c =>
    s.setPlay c { s.play c with playing := true, pos := 0, atEnd := false, gain := .rest (some 0) }) s

/-- The transport stops at a tick (R506): the playback channels ramp to silence. -/
def State.stopTransport (s : State) (tr : Nat) : State :=
  let s := s.setTransport tr { s.transport tr with running := false, stopping := false }
  let len := rampLen (s.rd 0x3B50 2) (s.rate (s.transDom tr))
  (s.transPlays tr).foldl (fun s c =>
    let x := s.play c
    if x.playing then s.setPlay c { x with gain := x.gain.to none len } else s) s

/-- Whether an armed transport's time has come (R66, R505). -/
def State.transDue (s : State) (tr : Nat) : Bool :=
  (s.transport tr).armed && decide (s.rd (0x3B60 + tr) 2 ≤ s.ptp)

/-- The transports of domain `d` at its tick, whose frame count is `frame`. [DEDUCED, log 65] -/
def State.tickTransports (s : State) (d frame : Nat) : State :=
  (List.range 8).foldl (fun s tr =>
    if s.transDom tr ≠ d then s
    else
      let s := if (s.transport tr).stopping then s.stopTransport tr else s
      if s.transDue tr then s.startTransport tr frame else s) s

/-- `POSITION` counts the samples since the start tick (R505). -/
def State.countTransports (s : State) (d : Nat) : State :=
  (List.range 8).foldl (fun s tr =>
    let x := s.transport tr
    if s.transDom tr = d ∧ x.running then s.setTransport tr { x with pos := (x.pos + 1) % 2 ^ 32 } else s) s

/-- TRANSPORT_START (R505): the tick that is due now is the first at or after `START_AT`. -/
def execTransportStart (t tr : Nat) (s : State) : Host.Outcome State Fault Refusal :=
  let s := s.clock t
  let x := s.dom (s.transDom tr)
  if tr < 8 ∧ s.transDue tr ∧ x.running ∧ (x.fresh ∨ x.tickAt < s.now) then
    .next (s.startTransport tr (x.tick s.now).frame)
  else .next s

/-- A written `COMMAND` (R505, R506). [DEDUCED, log 65] -/
def State.applyTransport (s : State) (tr : Nat) : State :=
  let x := s.transport tr
  if s.rd (0x3B60 + tr) 1 = 1 then s.setTransport tr { x with armed := true, stopping := false }
  else s.setTransport tr { x with armed := false, stopping := x.running }

/-- `T_STATE` (R513). -/
def State.transState (s : State) (tr : Nat) : Nat :=
  let x := s.transport tr
  if x.armed then 1
  else if !x.running then 0
  else if !(s.transCaps tr).isEmpty && (s.transCaps tr).all fun c => (s.cap c).full then 3 else 2

/-- The computed subs of a transport (R513). -/
def State.readTransport (s : State) (tr sub : Nat) : Nat :=
  match sub with
  | 3 => s.transState tr
  | 6 => (s.transport tr).pos
  | _ => s.rd (0x3B60 + tr) sub

/-! ## Faults of the interface -/

/-- The bit of a cause in `FAULT_CAUSE` (R511). -/
def causeBit (c : MemCause) : Nat :=
  match c with
  | .train => 0 | .clock => 1 | .supply => 2 | .thermal => 3 | .power => 4

/-- Whether every cause that a training does not itself clear has gone (R510). -/
def State.memClear (s : State) : Bool := s.mem.held.all fun c => c == .train

/-- A cause has gone; the time without a cause counts from the last one's end (R510, R511). [DEDUCED, log 64] -/
def State.memEase (s : State) (c : MemCause) : State :=
  if s.mem.held.contains c then
    let l := s.mem.held.filter fun x => x != c
    s.mapMem fun m => { m with held := l, since := if l.all (fun x => x == .train) then s.now else m.since }
  else s

/-- A channel or line of the memory enters FAULT (R294, R509). -/
def State.memFaultFn (s : State) (f : Func) : State :=
  match f, s.phase f with
  | _, .off => s
  | _, .quiesced => s
  | _, .fault => s
  | .delayLine d, _ => s.faultLine d
  | .cap c, _ => ((s.faultFn (.cap c)).setCap c { CapBuf.none with pages := (s.cap c).pages }).bump 0x3B40 3
  | .play c, _ => ((s.faultFn (.play c)).setPlay c .off).bump 0x3B50 3
  | _, _ => s

/-- A requester's open block buffer is emptied and released (R501, R509). -/
def ReqState.dropBuffer (x : ReqState) : ReqState := { x with buffer := none }

/-- Every open block buffer is emptied (R509). -/
def State.dropBuffers (s : State) : State :=
  let s := { s with internal := s.internal.dropBuffer, hspi := s.hspi.dropBuffer, twb0 := s.twb0.dropBuffer,
                    chain := s.chain.map fun (x : Nat × ReqState) => (x.1, x.2.dropBuffer) }
  s.mapMem fun m => { m with chipBuf := none }

/-- A channel or line of the memory is gated, without a fault (R144, R550). -/
def State.memGateFn (s : State) (f : Func) : State :=
  match f with
  | .delayLine d => (s.cutLine d).gateFn f
  | .cap c => (s.setCap c { CapBuf.none with pages := (s.cap c).pages }).gateFn f
  | .play c => (s.setPlay c .off).gateFn f
  | _ => s

/-- The interface stops at once (R509): its classes, by a fault or gated, the mirror and the recipe store. -/
def State.memStop (s : State) (fault : Bool) : State :=
  if s.mem.ready then
    let s := s.mapMem fun m => { m with ready := false, training := false }
    let s := s.funcList.foldl (fun s f => if fault then s.memFaultFn f else s.memGateFn f) s
    let s := (List.range 8).foldl (fun s tr => s.setTransport tr .off) s
    let s := { s with journal := { s.journal with mirrorOn := false } }
    s.dropBuffers
  else s.mapMem fun m => { m with training := false }

/-- A fault cause arises (R509): POWER only stops the interface; any other puts it to FAULT. -/
def State.memFault (s : State) (c : MemCause) : State :=
  if s.mem.held.contains c then s
  else
    let busy := s.mem.ready || s.mem.training || s.phase .mem == .fault
    if !busy then s
    else
      let s := (s.mapMem fun m => { m with held := c :: m.held, since := s.now }).memStop true
      match c with
      | .power => s.offFn .mem
      | _ => ((s.faultFn .mem).bump 0x3B00 8).event 0xC2 0x3B00

/-- The interface stops while SYN_S is acquired again with another reference scale, which is no fault (R144); it trains again after the
lock. -/
def State.memPause (s : State) : State :=
  if s.mem.ready || s.mem.training then (s.memStop false).offFn .mem else s

/-- MEM_FAULT (R509): the cause is present. -/
def execMemFault (t : Nat) (cause : MemCause) (s : State) : Host.Outcome State Fault Refusal :=
  let s := s.clock t
  let present := match cause with
    | .train => false
    | .clock => !s.synRuns .s
    | .supply => s.ms.low.contains .vdd2
    | .thermal => true
    | .power => !s.pdOn 10
  .next (if present then s.memFault cause else s)

/-! ## Training -/

/-- A training begins, with the down-spread that is set now (R133, R495, R510). [DEDUCED, log 64] -/
def State.beginTraining (s : State) : State :=
  let s := s.mapMem fun m =>
    { m with training := true, tries := 0, held := m.held.filter fun c => c != .train, depth := s.rd 0x2101 3,
             attemptAt := s.now }
  s.setFn .mem { s.fn .mem with phase := .starting, startPending := false }

/-- Whether the interface has its power and its clock (R495). -/
def State.memPowered (s : State) : Bool := s.pdOn 10 && s.synRuns .s

/-- MEM_TRAINING_START (R495). -/
def execMemTrainingStart (t : Nat) (s : State) : Host.Outcome State Fault Refusal :=
  let s := s.clock t
  if s.memPowered && s.phase .mem == .off && !s.mem.training then .next s.beginTraining else .next s

/-- MEM_TRAIN_FAIL (R496): the training is retried from step 2, which is 50 µs from its beginning; the third failure is a fault. -/
def execMemTrainFail (t : Nat) (s : State) : Host.Outcome State Fault Refusal :=
  let s := s.clock t
  if !s.mem.training then .next s
  else if s.mem.tries + 1 < 3 then
    .next (s.mapMem fun m => { m with tries := m.tries + 1, attemptAt := s.now - 50000 })
  else .next ((s.event 0xC0 0x3B00).memFault .train)

/-- ZQ_CALIBRATION (R497): every 256 ms. -/
def execZqCalibration (t : Nat) (s : State) : Host.Outcome State Fault Refusal :=
  let s := s.clock t
  if s.mem.ready && decide (s.mem.zqAt + 256000000 ≤ s.now) then .next (s.mapMem fun m => { m with zqAt := s.now })
  else .next s

/-- DQS_CHECK (R497): every 100 ms; the retraining of the read delay stalls the interface for at most 2 µs. -/
def execDqsCheck (t : Nat) (_drift : Bool) (s : State) : Host.Outcome State Fault Refusal :=
  let s := s.clock t
  if s.mem.ready && decide (s.mem.dqsAt + 100000000 ≤ s.now) then .next (s.mapMem fun m => { m with dqsAt := s.now })
  else .next s

/-- MR4_POLL (R497, R509): every 16 ms; a poll beyond the high-temperature limit is a fault. [DESIGN CHOICE, log 11] -/
def execMr4Poll (t code : Nat) (overTemp : Bool) (s : State) : Host.Outcome State Fault Refusal :=
  let s := s.clock t
  if (s.mem.ready || s.mem.held.contains .thermal) && decide (s.mem.mr4At + 16000000 ≤ s.now) then
    let s := (s.mapMem fun m => { m with mr4At := s.now }).wr 0x3B00 0x0B (code % 256)
    .next (if overTemp then s.memFault .thermal else s.memEase .thermal)
  else .next s

/-- AUTO_RETRAIN (R510): the causes have been clear for 100 ms, and the last automatic retrain was 10 s ago. -/
def execAutoRetrain (t : Nat) (s : State) : Host.Outcome State Fault Refusal :=
  let s := s.clock t
  let ok : Bool := match s.mem.trainAt with
    | some a => decide (a + 10000000000 ≤ s.now)
    | none => true
  if s.rd 0x3B00 0x0C = 1 ∧ s.phase .mem = .fault ∧ s.memClear ∧ s.memPowered ∧ s.mem.since + 100000000 ≤ s.now ∧ ok then
    .next (s.mapMem fun m => { m with trainAt := some s.now }).beginTraining
  else .next s

/-- Whether a write of 01h to `RETRAIN` is allowed (R511). -/
def State.retrainOk (s : State) : Bool := s.memClear && s.memPowered

/-- A write of 01h to `RETRAIN` (R510). [DEDUCED, log 64] -/
def State.doRetrain (s : State) : State := if s.phase .mem = .fault ∧ s.retrainOk then s.beginTraining else s

/-- The time from the beginning of a training to MEM_READY in ns (R495): 11 ms, and 0.7 ms for each GB that is cleared. -/
def trainTime (sizeMiB : Nat) : Nat := 11000000 + 700000 * (sizeMiB / 1024)

/-- The sizes of R494 in MiB. -/
def memSizes : List Nat := [1024, 2048, 3072, 4096, 6144, 8192]

/-- The interface is trained (R495); the classes start with it. An open block stays open in the recipe store (R501, R502). [DEDUCED, log 24] -/
def State.memUp (s : State) (sizeMiB ranks : Nat) : State :=
  let s := s.mapMem fun m =>
    { m with ready := true, training := false, tries := 0, zqAt := s.now, dqsAt := s.now, mr4At := s.now }
  let s := (((s.wr 0x3B00 2 sizeMiB).wr 0x3B00 3 ranks).bump 0x3B00 7).mapMem fun m => { m with chipBuf := none }
  s.setFn .mem { s.fn .mem with phase := .running, forced := false }

/-! ## Objects -/

/-- `FAULT_CAUSE` (R511). -/
def State.memCauses (s : State) : Nat := (s.mem.held.map fun c => 2 ^ causeBit c).sum

/-- The computed subs of 3B00h (R511). -/
def State.read3B00 (s : State) (sub : Nat) : Nat :=
  match sub with
  | 1 => s.stateByte .mem
  | 2 => s.memSize
  | 3 => if s.mem.ready then s.rd 0x3B00 3 else 0
  | 4 => s.memSize
  | 5 => s.pagesFree
  | 6 => s.memCauses
  | _ => s.rd 0x3B00 sub

/-- Whether a phase counts in `RUNNING` of 3B40h and 3B50h (R512). -/
def Phase.counts (p : Phase) : Bool :=
  match p with
  | .starting => true | .running => true | .draining => true | .ramping => true
  | _ => false

/-- Whether a late sample lies in the last 10 ms. -/
def State.lately (s : State) (a : Option Nat) : Bool :=
  match a with
  | some a => decide (s.now < a + 10000000)
  | none => false

/-- The computed subs of the capture and playback indices (R512). -/
def State.readCapture (s : State) (i sub : Nat) : Nat :=
  if i = 0x3B40 then
    match sub with
    | 1 => (s.funcList.filter fun f => match f with
        | .cap _ => (s.phase f).counts
        | _ => false).length
    | 2 => s.capsHeld
    | _ => s.rd i sub
  else if i = 0x3B50 then
    match sub with
    | 1 => (s.funcList.filter fun f => match f with
        | .play _ => (s.phase f).counts
        | _ => false).length
    | _ => s.rd i sub
  else if sub = 0 then s.rd i sub
  else
    let c := (i - 1) % 2 * 128 + sub - 1
    let v := s.rd i sub
    let strip := v - bits v 22 21 * 2 ^ 21
    if i ≤ 0x3B42 then strip + bit (s.cap c).full 22 + bit (s.lately (s.cap c).lateAt) 21
    else if i ≤ 0x3B44 then s.stateByte (.cap c)
    else if i ≤ 0x3B52 then strip + bit (s.play c).atEnd 22 + bit (s.lately (s.play c).lateAt) 21
    else s.stateByte (.play c)

/-- Whether an index is one of the capture windows (R507). -/
def isWindow (i : Nat) : Bool := decide (0x5200 ≤ i) && decide (i ≤ 0x52FF)

/-- `n` bytes of the buffer of capture channel `c` from the place `at_`. [DEDUCED, log 65] -/
def State.capBytes (s : State) (c at_ n : Nat) : List Byte :=
  (List.range n).map fun k => BitVec.ofNat 8 (look 0 (s.cap c).data (at_ + k))

/-- The end of the buffer of channel `c` in bytes. [DEDUCED, log 65] -/
def State.capEnd (s : State) (c : Nat) : Nat := (s.cap c).pages * 1048576

/-- A window's block is loaded (R507): `LENGTH` rises to the end of the window if that is later. [DEDUCED, log 65] -/
def State.loadWindow (s : State) (c window : Nat) (l : List Byte) : State :=
  let base := window * 262144
  let x := s.cap c
  let y := (l.foldl (fun (p : Nat × CapBuf) b => (p.1 + 1, if p.1 < s.capEnd c then p.2.store p.1 1 b.toNat else p.2))
    (base, x)).2
  s.setCap c { y with length := max x.length (min (base + 262144) (s.capEnd c)) }

/-- Whether the transport of capture channel `c` runs, so that its buffer may not be written (R507). -/
def State.capBusy (s : State) (c : Nat) : Bool := s.rolls (cfgTransport (s.capCfg c))

end Sys2Proof.Machine
end

