-- ==== Sys2Proof/Machine/Lifecycle.lean ====
section
/-!
DEFINITION. The life of a function (01_architecture.md, R35 to R44, R550) as one set of operations over every family: its start,
its disabling, the end of its drain and ramp, the forced stop, and the loss of its power or its ticks.
-/

set_option autoImplicit false

namespace Sys2Proof.Machine

/-! ## Starts -/

/-- Whether a function is one of the fabric that a VCORE failure gates (R94). -/
def fabricFn (f : Func) : Bool :=
  match f with
  | .lane _ => true | .bus _ => true | .route _ => true
  | _ => false

/-- The functions that a descent from IVORY, COBALT or PEARL to TEAL stops (R85): the outputs and what transmits. -/
def drivingFn (f : Func) : Bool :=
  match f with
  | .output _ => true | .hp _ => true | .pwm _ => true | .link _ => true | .sapTx _ => true | .flowTx _ => true
  | _ => false

/-- Whether a mode keeps power domain `i` on, where a transition leads to it (R82). -/
def Mode.keeps (m : Mode) (i : Nat) : Bool :=
  match m with
  | .slate => i == 0
  | .indigo => i == 0 || i == 1
  | .ash => i == 0
  | _ => true

/-- Whether a transition in progress, CRIMSON, or a layout change holds the start of a function (R85, R86, R131, R213). -/
def State.heldBack (s : State) (f : Func) : Bool :=
  (match s.ms.trans with
    | .descent target _ begun => begun && !Mode.keeps target f.pdom
    | .leave _ => drivingFn f
    | _ => false) || (s.ms.mode == .crimson && (s.fn f).gated) || (s.router.relayout && (s.fdom f).isSome)

/-- Whether a resource that function `f` claims is still held by a function that gives it up (R32). -/
def State.startShort (s : State) (f : Func) : Bool :=
  match f with
  | .lane n => s.pagesShort n
  | .bus b => decide (16384 < s.weightedUsed s) ||
      s.channelsShort ((s.contributed.filter fun x => x.1 == b).flatMap fun x => s.pathClaims x.2 none (s.rd (0x3500 + b) 3))
  | .route p => s.channelsShort (s.pathClaims (s.routeSource p) (some p) (s.sinkDom p))
  | .cap _ => decide (s.memSize < 18 + (s.linesHeld + s.capsHeld))
  | .delayLine _ => decide (s.memSize < 18 + (s.linesHeld + s.capsHeld))
  | .flowTx n => (s.aesBound n).isNone &&
      decide (s.rd 0x4003 2 ≤ ((List.range 16).filter fun m => (s.aesBound m).isNone && s.busyFn (.flowTx m)).length)
  | _ => false

/-- The conditions under which an enabled function starts, as its owner chapter states them. A self-test holds every
function (R524). -/
def State.startReady (s : State) (f : Func) : Bool :=
  !s.testing && !s.heldBack f && !s.startShort f && !(fabricFn f && s.ms.low.contains .vcore) && s.phase (.pd f.pdom) != .draining &&
    (match f with
    | .lane n => s.laneReady n
    | .input n => s.inputReady n
    | .output n => s.outputReady n
    | .hp h => s.hpReady h
    | .pwm n => s.pwmReady n
    | .sapTx p => s.sapReady p .tx
    | .sapRx p => s.sapReady p .rx
    | .flowTx n => s.txReady n
    | .flowRx r => s.rxReadyFlow r && (s.inChain || (s.aesBound (0x10 + r)).isSome)
    | .aes a => s.aesReady a
    | .cap c => s.capReady (.cap c)
    | .play c => s.capReady (.play c)
    | .delayLine d => s.capReady (.delayLine d)
    | .link l => s.linkReady l
    | .scan => s.hk.on
    | .listen => s.listenWanted
    | .reader r => Mode.runs s.ms.mode && s.pdOn 3 && s.readerOk r && !(s.reader r).atEnd
    | .bus _ => s.domReady f
    | .route p => s.domReady f && (s.dom (s.routeDom p)).running
    | _ => false)

/-- The function starts (R43), as its owner chapter states. -/
def State.beginFn (s : State) (f : Func) : State :=
  match f with
  | .lane n => s.startLane n
  | .bus b => s.startBus b
  | .route p => s.startRoute p
  | .input n => s.startInput n
  | .output n => s.startOutput n
  | .hp h => s.startHp h
  | .pwm n => s.startPwm n
  | .sapTx p => s.startSap p .tx true
  | .sapRx p => s.startSap p .rx true
  | .flowTx n => s.startTx n
  | .flowRx r => s.startRx r
  | .aes a => s.startAes a
  | .cap c => s.startCap c
  | .play c => s.startPlay c
  | .delayLine d => s.startLine d
  | .link l => s.startLink l
  | .scan => s.startHkScan
  | .listen => s.startListen
  | .reader r => s.startReader r
  | _ => s

/-- Whether a function whose cause of FAULT has ended restarts by itself: an input (R176), a flow in a chain again (R388), and what
uses the external memory (R294, R510). [DEDUCED, log 42] -/
def recoversFn (f : Func) : Bool :=
  match f with
  | .input _ => true
  | .flowTx _ => true | .flowRx _ => true | .aes _ => true | .cap _ => true | .play _ => true | .delayLine _ => true
  | _ => false

/-- Whether a function that an enable or a released resource lets start may do so at this instant: at a tick of its rate domain, and
at once if it lies in none (R32, R40). -/
def State.startsNow (s : State) (f : Func) : Bool :=
  match f, s.fdom f with
  | .hp _, some d => s.talking || s.atTick d
  | .route p, _ => s.atTick (s.routeDom p)
  | _, some d => s.atTick d
  | _, none => true

/-- Whether the function may start now: it is stopped, wanted and ready, and one that was held starts at its tick. -/
def State.canStart (s : State) (f : Func) : Bool :=
  s.wants f && s.startReady f && (!s.waitsToStart f || s.startsNow f) &&
    (match s.phase f with
    | .off => true
    | .quiesced => true
    | .fault => recoversFn f
    | _ => false)

/-- The function starts if it may. -/
def State.tryStart (s : State) (f : Func) : State := if s.canStart f then s.beginFn f else s

/-- Every enabled function that may start does, and the pool's channels are granted (R214). -/
def State.startAll (s : State) : State := (s.enabledList.foldl State.tryStart s).grantAll

/-- Functions that were gated and are not wanted read QUIESCED once their clock, ticks and power are there again
(R550). [DEDUCED, log 40] -/
def State.ungate (s : State) : State :=
  s.funcList.foldl (fun s f =>
    let x := s.fn f
    if x.gated && !s.wants f && s.pdOn f.pdom && !(fabricFn f && s.ms.low.contains .vcore) && (match s.fdom f with
      | some d => (s.dom d).running
      | none => true)
    then s.setFn f { x with phase := .quiesced, gated := false } else s) s

/-- A clock, ticks, power or a mode has returned: what waits for it starts. -/
def State.resume (s : State) : State := s.ungate.startAll

/-! ## Stops -/

/-- A serial-port direction that is stopped has its multiplexer switch to the bit clock of its role (R116, R343). [DEDUCED, log 54] -/
def State.settleSapMux (s : State) (p : Nat) (dir : SapDir) : State :=
  let x := s.mux (muxKey (.sap p dir))
  let src := if cfgMaster (s.sapCfg p dir) then 0 else 1
  let rests : Bool := match s.phase (sapFunc p dir) with
    | .off => true
    | .quiesced => true
    | .fault => true
    | _ => false
  if rests && x.active != src && !(x.st == 1 && x.want == src) then s.askMux (.sap p dir) src else s

/-- Every serial-port multiplexer that has to switch. -/
def State.settleSapMuxes (s : State) : State :=
  (List.range 16).foldl (fun s p => (s.settleSapMux p .tx).settleSapMux p .rx) s

/-- What a function gives up when it has stopped (R38). -/
def State.restFn (s : State) (f : Func) : State :=
  match f with
  | .lane n => s.restLane n
  | .output n => s.restOutput n
  | .hp h => s.restHp h
  | .pwm n => s.setPwm n { PwmCh.reset with clipAt := (s.pwm n).clipAt }
  | .sapTx p => (s.restSap p .tx).settleSapMux p .tx
  | .sapRx p => (s.restSap p .rx).settleSapMux p .rx
  | .input n => s.haltInput n
  | .delayLine d => s.restLine d
  | .cko n => if (s.fn f).startPending then s.settleCko n else s
  | .cap c => if s.wants f then s else s.restCap c
  | .play c => s.setPlay c { s.play c with playing := false, gain := .rest none }
  | .link l => s.setLink l .none
  | .flowTx n => s.setTx n { FlowTxSt.off with noSlot := (s.txFlow n).noSlot }
  | .flowRx r => s.setRx r .off
  | .bus b => (s.setBus b .none).sweep
  | .route p => (s.setRoute p .none).sweep
  | _ => s

/-- The stop ramp of a drained function (R37): its own gains ramp to silence. -/
def State.rampFn (s : State) (f : Func) : State :=
  match f with
  | .input n => s.rampInput n
  | .output n => s.rampOutput n
  | .hp h => s.rampHp h
  | .pwm n => s.rampPwm n
  | .bus b => s.rampBus b
  | .link l => s.rampLink l
  | _ => s

/-- A function that is disabled (R35, R36, R41). An output in FAULT keeps to its fault (R318). [DEDUCED, log 42] -/
def State.disableFn (s : State) (f : Func) : State :=
  match f, s.phase f with
  | .output _, .fault => s
  | .hp _, .fault => s
  | .scan, _ => s.stopHkScan
  | .listen, _ => s.stopListen
  | .reader r, _ => (s.setReader r { s.reader r with atEnd := false }).stopFn f
  | .cko n, _ => s.applyCko n
  | _, .starting => ((s.stopFn f).rampFn f).discardStaged f
  | _, .running => (s.stopFn f).discardStaged f
  | _, _ => s.stopFn f

/-- An enabled function starts, or is held with START_PENDING until it may (R32, R40). [DEDUCED, log 42] -/
def State.startOrHold (s : State) (f : Func) : State :=
  let s := s.tryStart f
  if s.phase f == .off || s.phase f == .quiesced then s.setFn f { s.fn f with startPending := true } else s

/-- An enable, of a function that was not wanted (R32, R40): it starts, or is held until it has stopped or until what it claims has
been given up. [DEDUCED, log 42] -/
def State.enableFn (s : State) (f : Func) : State :=
  match f, s.phase f with
  | .cko n, _ => s.applyCko n
  | _, .draining => s.setFn f { s.fn f with startPending := true }
  | _, .ramping => s.setFn f { s.fn f with startPending := true }
  | _, _ => if s.startShort f then s.startOrHold f else s.tryStart f

/-- A setting that acts as a disable followed by an enable (R40). -/
def State.restartFn (s : State) (f : Func) : State :=
  match s.phase f with
  | .off => s.tryStart f
  | .quiesced => s.tryStart f
  | .fault => s
  | _ =>
    let s := s.disableFn f
    s.setFn f { s.fn f with startPending := true }

/-- What happens when a function has stopped (R38): it gives up what it holds; a lane whose recipe is replaced starts afresh
(R253). -/
def State.stoppedFn (s : State) (f : Func) : State :=
  match f with
  | .lane n => if (s.lane n).replacing && s.wants f then (s.restLane n).startOrHold f else s.restLane n
  | _ => s.restFn f

/-- A drained function enters its ramp, or reads QUIESCED at once where it has none (R36 to R38). -/
def State.drainFn (s : State) (f : Func) : State :=
  let len := s.framp f
  let s := s.setFn f ((s.fn f).drained len)
  if len = 0 then s.stoppedFn f else s.rampFn f

/-- DRAIN_COMPLETE (R36). [DESIGN CHOICE, log 6] -/
def execDrainComplete (t : Nat) (f : Func) (s : State) : Host.Outcome State Fault Refusal :=
  let s := s.clock t
  let x := s.fn f
  if x.phase = .draining ∧ x.wait = 0 ∧ f ≠ .scan then .next (s.drainFn f) else .next s

/-- The ramp of a disabled function has ended (R38). -/
def State.endRamp (s : State) (f : Func) : State :=
  match f with
  | .pwm n => s.pwmFall n
  | _ => (s.setFn f ((s.fn f).quiesce (s.fframe f))).stoppedFn f

/-- Whether nothing is left of the ramp of a disabled function: a transmit direction has also sent the frames of its buffer (R356). -/
def State.rampOver (s : State) (f : Func) : Bool :=
  !(s.fn f).fade.live && (match f with
    | .sapTx p => (s.sapDir p .tx).buf.isEmpty
    | _ => true)

/-- FUNCTION_RAMP_END (R38). [DESIGN CHOICE, log 6; DEDUCED, log 40] -/
def execFunctionRampEnd (t : Nat) (f : Func) (s : State) : Host.Outcome State Fault Refusal :=
  let s := s.clock t
  if (s.fn f).phase = .ramping ∧ s.rampOver f then .next (s.endRamp f) else .next s

/-- QUIESCE_FORCED (R39): the bound has passed. -/
def execQuiesceForced (t : Nat) (f : Func) (s : State) : Host.Outcome State Fault Refusal :=
  let s := s.clock t
  let x := s.fn f
  if (x.phase = .draining ∨ x.phase = .ramping) ∧ x.bound ≤ s.now then
    let s := s.setFn f (x.force (s.fframe f))
    .next ((s.stoppedFn f).event 0x03 f.index)
  else .next s

/-- START_PENDING_START (R32, R40): of a function in a rate domain, at its tick. -/
def execStartPendingStart (t : Nat) (f : Func) (s : State) : Host.Outcome State Fault Refusal :=
  let s := s.clock t
  if s.waitsToStart f then .next ((s.tryStart f).grantAll) else .next s

/-! ## Gains -/

/-- GAIN_RAMP_END (R260): the gain rests at its goal; the end of a pair's release follows R415. -/
def execGainRampEnd (t : Nat) (site : RampSite) (s : State) : Host.Outcome State Fault Refusal :=
  let s := s.clock t
  match site with
  | .input n => .next (s.setInp n { s.inp n with gain := (s.inp n).gain.finish })
  | .output n => .next (s.setOut n { s.out n with gain := (s.out n).gain.finish })
  | .hp h => .next (s.setHp h { s.hp h with gain := (s.hp h).gain.finish })
  | .pwm n => .next (s.setPwm n { s.pwm n with gain := (s.pwm n).gain.finish })
  | .bus b => .next (s.setBus b { s.bus b with gain := (s.bus b).gain.finish })
  | .contrib b c =>
    let x := s.bus b
    let y := look .unused x.contribs c
    .next ((s.setBus b { x with contribs := put .unused x.contribs c { y with ramp := y.ramp.finish } }).sweep)
  | .link l => .next (s.setLink l { s.dlink l with gain := (s.dlink l).gain.finish, routed := (s.dlink l).routed.finish })
  | .gen g => .next (s.setGen g { s.gen g with level := (s.gen g).level.finish })
  | .block n b =>
    let x := s.lane n
    .next (s.setLane n { x with st := x.st.mapIdx fun i y => if i = b then { y with ramp := y.ramp.finish } else y })
  | .pair => .next (if s.pair.leaving && !s.pair.ramp.live then s.finishRelease else s)

/-! ## Power and ticks -/

/-- A function loses its power: it reads OFF and keeps nothing (R43). -/
def State.dropFn (s : State) (f : Func) : State :=
  match f with
  | .lane n => (s.setLane n .empty).offFn f
  | .scan => s
  | .listen => s.cutListen
  | .pd _ => s
  | .syn _ => s
  | .selftest => s
  | _ => ((s.setFn f { s.fn f with phase := .off }).restFn f).offFn f

/-- The functions of power domain `i` lose their power. -/
def State.dropDomain (s : State) (i : Nat) : State :=
  let s := s.funcList.foldl (fun s f => if f.pdom = i then s.dropFn f else s) s
  if i = 5 ∨ i = 6 then s.refsOff else s

/-- A rate domain stops (R550): each of its functions is gated, and gives up what a stopped function gives up. [DEDUCED, log 44] -/
def State.haltDom (s : State) (d : Nat) : State :=
  let l := s.funcList.filter fun f => s.runsIn f d && s.phase f != .fault
  ((l.foldl (fun s f => match f with
    | .sapTx p => s.cutSap p .tx
    | .sapRx p => s.cutSap p .rx
    | .delayLine n => s.cutLine n
    | .cap _ => s
    | .play c => s.setPlay c .off
    | _ => s.restFn f) s).stopDom d).refsOff

/-- The fabric is gated by force for a VCORE failure (R94). -/
def State.gateFabric (s : State) : State :=
  s.funcList.foldl (fun s f => if fabricFn f && s.phase f != .fault then (s.restFn f).gateFn f else s) s

/-- The rate domains that the layout has and a locked synthesizer serves start; the others stop (R127, R137, R213). While a
layout change waits for its functions, none starts, and those that run go on. [DEDUCED, log 44] -/
def State.settleDoms (s : State) : State :=
  let s := (List.range 3).foldl (fun s d =>
    let x := s.dom d
    let there := if s.router.relayout then x.running else decide (d < s.domCount)
    let syn : Syn := if x.running then (if family441 x.rate then .b else .a) else s.domSyn d
    let on := there && s.synRuns syn && s.pdOn 2 && s.pdOn 3 && Mode.runs s.ms.mode
    if on && !x.running then s.startDom d
    else if !on && x.running then (s.abandonParts d).haltDom d else s) s
  s.resume

/-! ## Layout changes -/

/-- The functions in the fabric and in the analog I/O, which a layout change stops (R213). -/
def layoutFn (f : Func) : Bool :=
  match f with
  | .lane _ => true | .bus _ => true | .route _ => true | .input _ => true | .output _ => true | .hp _ => true
  | .pwm _ => true | .link _ => true
  | _ => false

/-- Whether every function that a layout change stops has stopped (R213). -/
def State.layoutQuiet (s : State) : Bool := s.funcList.all fun f => !(layoutFn f && s.busyFn f)

/-- A commit has changed `LAYOUT`, `SPLIT` or a rate (R213): the fabric and the analog I/O are disabled, and the new domains
wait for them. [DEDUCED, log 39] -/
def State.beginLayout (s : State) : State :=
  let s := (s.funcList.filter layoutFn).foldl State.disableFn s
  { s with router := { s.router with relayout := !s.layoutQuiet || (List.range 3).any fun d => (s.dom d).running } }

/-- LAYOUT_RESTART (R213): once the functions have stopped, every domain halts and the new ones start at frame 0. [DEDUCED, log 39] -/
def execLayoutRestart (t : Nat) (s : State) : Host.Outcome State Fault Refusal :=
  let s := s.clock t
  if s.router.relayout && s.layoutQuiet then
    let s := (List.range 3).foldl (fun s d => if (s.dom d).running then s.haltDom d else s) s
    let s := ((List.range 3).filter fun d => decide (s.domCount ≤ d)).foldl State.abandonParts s
    .next ({ s with router := { s.router with relayout := false } }).settleDoms
  else .next s

end Sys2Proof.Machine
end

