-- ==== Sys2Proof/Machine/Avs.lean ====
section
/-!
DEFINITION. The adaptive core voltage (03_modes_power.md, R104 to R106; 08_fabric.md, R245): the requests over TWB1, their
retries, the evaluation of the slack, and the fabric parts that wait for the voltage.
-/

set_option autoImplicit false

namespace Sys2Proof.Machine

/-- A change of the core-voltage record. -/
def State.mapAvs (s : State) (g : Avs → Avs) : State := { s with avs := g s.avs }

/-- A bit of `AVS_STATUS` (R106). -/
def State.avsFlag (s : State) (n : Nat) (b : Bool) : State := s.wrBit 0x2004 8 n b

/-- Whether the device may make a request: it has not lost its regulator, and the regulator is linear (R105). -/
def State.avsCan (s : State) : Bool := s.rd 0x2004 1 == 1 && !s.avs.lost && !s.rdBit 0x2004 8 3

/-- A transfer starts on TWB1, or waits for the present one. [DEDUCED, log 51] -/
def State.avsStart (s : State) (op : PmbusOp) : State :=
  let s := s.mapAvs fun a => { a with requestAt := s.now }
  if s.avs.op.isSome then s.mapAvs fun a => { a with next := some op }
  else s.mapAvs fun a => { a with op := some op, waiting := false, tries := 0 }

/-- The data word of a VOUT_COMMAND for `mV` (R105): LINEAR16, round(V × 2^−N) with the exponent N of VOUT_MODE, five bits
signed (R477). -/
def linear16 (exponent mV : Nat) : Nat :=
  if exponent < 16 then (mV + 500 * 2 ^ exponent) / (1000 * 2 ^ exponent) % 2 ^ 16
  else (mV * 2 ^ (32 - exponent) * 2 + 1000) / 2000 % 2 ^ 16

/-- The VOUT_COMMAND for `mV` (R105). -/
def State.voutCommand (s : State) (mV : Nat) (preRaise : Bool) : PmbusOp :=
  .request mV (linear16 s.avs.exponent mV) preRaise

/-- The bytes of a PMBus transfer (R477): what the device sends and, of a read, the address with read; then the PEC over what it sends
with a write, where `PMBUS_PEC` is 01h. The PEC of a read comes from the regulator. -/
def State.pmbusBytes (s : State) (op : PmbusOp) : List Byte :=
  let a := 2 * s.rd 0x2004 7
  match op with
  | .voutMode => leBytes 1 a ++ leBytes 1 0x20 ++ leBytes 1 (a + 1)
  | .request _ word _ =>
    let l := leBytes 1 a ++ leBytes 1 0x21 ++ leBytes 2 word
    if s.rd 0x2301 3 = 1 then l ++ leBytes 1 (crc8 l) else l

/-- A request made by the device (R104). -/
def State.avsRequest (s : State) (mV : Nat) : State := if s.avsCan then s.avsStart (s.voutCommand mV false) else s

/-- TEAL entry (R104, R106, R245): VOUT_MODE is read first, then `CEILING`, or `FIXED`, is requested. [DEDUCED, log 51] -/
def State.avsEntry (s : State) : State :=
  let s := { s with avs := { Avs.reset with op := some .voutMode, first := s.rd 0x2004 1 == 1, requestAt := s.now,
                                            exponent := s.avs.exponent } }
  s.mapMs fun m => { m with avsOk := false }

/-- The core regulator is left alone: the device leaves the modes in which it requests. -/
def State.avsStop (s : State) : State :=
  ({ s with avs := { Avs.reset with exponent := s.avs.exponent } }).mapMs fun m => { m with avsOk := false }

/-- The next transfer, if one waits. -/
def State.avsNext (s : State) : State :=
  s.mapAvs fun a => { a with op := a.next, next := none, waiting := false, tries := 0 }

/-- Whether an operation is one that a fabric part waits for (R245). -/
def Avs.holds (a : Avs) : Bool :=
  let raise (o : Option PmbusOp) : Bool := match o with
    | some (.request _ _ p) => p
    | _ => false
  a.first || raise a.op || raise a.next

/-- Whether the fabric part of a commit may apply now, as far as the core voltage goes (R245). [DEDUCED, log 51] -/
def State.fabricOpen (s : State) : Bool := !s.avs.holds && decide (s.avs.fabricAt ≤ s.now)

/-- The pre-raise of an accepted commit that needs the voltage `need` (R245): whether its fabric part waits. [DEDUCED, log 57] -/
def State.preRaise (s : State) (need : Nat) : State × Bool :=
  if s.avs.first then (s, true)
  else if s.avsCan && decide (s.rd 0x2004 4 < need) then
    (((s.avsStart (s.voutCommand need true)).bump 0x3820 3), true)
  else (s, false)

/-- An operation without its claim on the fabric parts. -/
def PmbusOp.plain (o : PmbusOp) : PmbusOp :=
  match o with
  | .request mV w _ => .request mV w false
  | .voutMode => .voutMode

/-- An attempt has failed (R105): it is retried twice, and the third failure loses the regulator. -/
def State.avsFail (s : State) : State :=
  let a := s.avs
  if !a.lost && decide (a.tries < 2) then
    s.mapAvs fun a => { a with waiting := true, tries := a.tries + 1, triedAt := s.now }
  else
    let was := s.rdBit 0x2004 8 1
    let s := s.mapAvs fun a =>
      { a with waiting := true, triedAt := s.now, lost := true, first := false, op := a.op.map PmbusOp.plain, next := none,
               fabricAt := if a.holds then s.now else a.fabricAt }
    if was then s else (s.avsFlag 1 true).event 0x0A 0x2004

/-- The regulator has answered the read of VOUT_MODE (R105): with a linear format its exponent is in bits 4:0. [DEDUCED, log 51] -/
def State.avsFormat (s : State) (data : Nat) : State :=
  if bits data 7 5 = 0 then
    let s := (s.avsFlag 3 false).mapAvs fun a => { a with exponent := data % 32, op := none, waiting := false, tries := 0 }
    s.avsStart (s.voutCommand (if s.rd 0x2004 1 = 1 then s.rd 0x2004 2 else s.rd 0x2004 6) false)
  else
    let s := s.avsFlag 3 true
    s.mapAvs fun a => { a with op := none, next := none, waiting := false, first := false, fabricAt := s.now }

/-- A VOUT_COMMAND has been acknowledged (R105, R106, R245). -/
def State.avsAcked (s : State) (mV : Nat) : State :=
  let s := s.wr 0x2004 4 mV
  let s := s.mapAvs fun a =>
    { a with first := false, ackAt := s.now, check := true,
             fabricAt := if a.holds then s.now + 1000000 else a.fabricAt }
  s.avsNext

/-- PMBUS_ACK (R105): the transfer in progress ends. -/
def execPmbusAck (t : Nat) (res : PmbusResult) (s : State) : Host.Outcome State Fault Refusal :=
  let s := s.clock t
  match s.avs.op, s.avs.waiting, res with
  | none, _, _ => .next s
  | some _, true, _ => .next s
  | some _, false, .nack => .next (s.bump 0x2301 7).avsFail
  | some op, false, .ack data =>
    let s := (s.avsFlag 1 false).mapAvs fun a => { a with lost := false }
    match op with
    | .voutMode => .next (s.avsFormat data)
    | .request mV _ _ => .next (s.avsAcked mV)

/-- PMBUS_RETRY (R105): 1 ms after a failed attempt. -/
def execPmbusRetry (t : Nat) (s : State) : Host.Outcome State Fault Refusal :=
  let s := s.clock t
  if s.avs.op.isSome && s.avs.waiting && !s.avs.lost && decide (s.avs.triedAt + 1000000 ≤ s.now) then
    .next (s.mapAvs fun a => { a with waiting := false })
  else .next s

/-- AVS_LOST_RETRY (R105): once every 1 s while LOST. [DEDUCED, log 70] -/
def execAvsLostRetry (t : Nat) (s : State) : Host.Outcome State Fault Refusal :=
  let s := s.clock t
  if s.avs.op.isSome && s.avs.waiting && s.avs.lost && decide (s.avs.triedAt + 1000000000 ≤ s.now) then
    .next (s.mapAvs fun a => { a with waiting := false })
  else .next s

/-- AVS_HOLD_END (R104): IVORY has run for 1 s. -/
def execAvsHoldEnd (t : Nat) (s : State) : Host.Outcome State Fault Refusal :=
  let s := s.clock t
  if s.ms.mode = .ivory ∧ s.ms.changedAt + 1000000000 ≤ s.now ∧ !s.avs.evaluating ∧ !s.avs.first then
    .next (s.mapAvs fun a => { a with evaluating := true, evalAt := s.now, highSince := none })
  else .next s

/-- The lowest cluster slack of the last complete 1 ms window, in 0.1 % (R246). -/
def State.lowSlack (s : State) : Nat := ((List.range 8).map fun c => look 1000 s.slack.ms c).foldl min 1000

/-- The evaluation of a millisecond (R104, R106). -/
def State.avsEval (s : State) : State :=
  let s := s.rollSlack
  let low := s.lowSlack
  let req := s.rd 0x2004 4
  let ceil := s.rd 0x2004 2
  let floor := s.rd 0x2004 3
  let under := decide (low < s.rd 0x2004 9 * 10)
  let high := decide (s.rd 0x2004 0x0A * 10 ≤ low)
  let since : Option Nat := if !high then none else match s.avs.highSince with
    | some x => some x
    | none => some s.now
  let s := s.mapAvs fun a => { a with evalAt := s.now, highSince := since }
  let at_ := under && decide (ceil ≤ req)
  let s := if at_ && !s.rdBit 0x2004 8 0 then (s.avsFlag 0 true).event 0x0B 0x2004 else if at_ then s else s.avsFlag 0 false
  if s.avs.op.isSome then s
  else if under then (if req < ceil then s.avsRequest (min ceil (req + 20)) else s)
  else match since with
    | some x =>
      if x + 1000000000 ≤ s.now ∧ s.avs.requestAt + 1000000000 ≤ s.now ∧ floor < req then
        s.avsRequest (max floor (req - 10))
      else s
    | none => s

/-- AVS_EVALUATE (R104): every 1 ms from the end of the hold on. -/
def execAvsEvaluate (t : Nat) (s : State) : Host.Outcome State Fault Refusal :=
  let s := s.clock t
  if s.avs.evaluating && s.avsCan && decide (s.avs.evalAt + 1000000 ≤ s.now) then .next s.avsEval else .next s

/-- A valid measurement of VCORE in mV, of a conversion started at `at_` (R105, R106, R458). MISMATCH follows the first comparison
after each acknowledged request: one within 15 mV clears it. [DESIGN CHOICE, log 91] -/
def State.avsMeasured (s : State) (mV at_ : Nat) : State :=
  let s := s.wr 0x2004 5 (mV % 2 ^ 16)
  let good := decide (mV ≤ s.rd 0x2004 4 + 15) && decide (s.rd 0x2004 4 ≤ mV + 15)
  if s.avs.ackAt ≤ at_ ∧ s.rd 0x2004 4 ≠ 0 ∧ !s.avs.first then
    let s := if s.avs.check then (s.avsFlag 2 (!good)).mapAvs fun a => { a with check := false } else s
    if good && s.avs.op.all (fun o => o != .voutMode) then s.mapMs fun m => { m with avsOk := true } else s
  else s

end Sys2Proof.Machine
end

