-- ==== Sys2Proof/Machine/Domains.lean ====
section
/-!
DEFINITION. The power domains and the inrush governor (03_modes_power.md, R96 to R98): requests, admission, power-good, faults and
what switching a domain off does; and talkback (R91).
-/

set_option autoImplicit false

namespace Sys2Proof.Machine

/-! ## Talkback -/

/-- Talkback follows its conditions (R91, R315): AMBER, `TALKBACK`, its two domains and the bias of the headphones. The reference of IN1
and IN2 is on while it runs, and HP1 ramps in at its start and out at its end. [DEDUCED, log 43] -/
def State.settleTalkback (s : State) : State :=
  let on := s.ms.mode == .amber && s.ms.booted && s.rd 0x2000 0x0B == 1 && s.pdOn 5 && s.pdOn 9 && s.outs.hpBias.st == 2
  if on == s.outs.talkback then s
  else
    let s := { s with outs := { s.outs with talkback := on } }
    if on then (s.refOn 0).enableFn (.hp 1)
    else (if s.talks 1 then s.disableFn (.hp 1) else s).refsOff

/-- A clock, a power domain or the mode has changed: the rate domains, the multiplexers, the clock outputs, talkback and every
function that waits follow. -/
def State.refresh (s : State) : State := ((s.settleDoms.autoMux.refreshCko).settleTalkback).settleSapMuxes

/-! ## Requests -/

/-- The domains fed by a rail that a failure of it switches off (R94, R107). -/
def railDomains (r : Rail) : List Nat :=
  match r with
  | .avddHv => [5, 6, 7, 8, 9]
  | .avdd18 => [2, 5, 6, 7, 8, 9]
  | .vcore => [4]
  | .vserdes => [11]
  | .vdd2 => [10]
  | _ => []

/-- The domains that the thermal cause switches off (R94). -/
def thermalDomains : List Nat := [4, 7, 8, 9]

/-- Whether a supply or the temperature keeps domain `i` off (R94, R107). -/
def State.pdBlocked (s : State) (i : Nat) : Bool :=
  (s.ms.low.any fun r => (railDomains r).contains i) || (s.ms.thermal && thermalDomains.contains i) ||
    s.ms.low.contains .avdd33

/-- `KEEP_OFF` of domain `i` (R96). -/
def State.keptOff (s : State) (i : Nat) : Bool := s.rd (0x2010 + i) 4 == 1

/-- The phase of domain `i` set. -/
def State.setPd (s : State) (i : Nat) (p : Phase) : State := s.setFn (.pd i) { s.fn (.pd i) with phase := p }

/-- A change of the governor's record. -/
def State.mapGov (s : State) (g : Governor → Governor) : State := { s with gov := g s.gov }

/-- The start of domain `i` is requested (R96, R97): it waits for the governor. [DEDUCED, log 50] -/
def State.requestDomain (s : State) (i : Nat) : State :=
  match s.phase (.pd i) with
  | .running => s
  | .starting => s
  | .fault => s
  | .draining => (s.setPd i .running).startAll
  | _ =>
    if s.pdBlocked i then s
    else (s.setPd i .starting).mapGov fun g => { g with queue := g.queue ++ [(i, s.now)] }

/-- Every domain that is not kept off (R82, R96), PD_AO apart. -/
def State.unkept (s : State) : List Nat := [1, 2, 3, 4, 5, 6, 7, 8, 9, 10, 11].filter fun i => !s.keptOff i

/-- The domains that AMBER powers (R82, R91, R99): those of talkback, and, once XO and the boot are ready, every one not kept off
but PD_LISTEN. -/
def State.amberDomains (s : State) : List Nat :=
  let talk : List Nat := if s.rd 0x2000 0x0B = 1 then [3, 5, 9] else [3]
  if s.clk.stable && s.ms.booted then [2, 3, 4, 5, 6, 7, 8, 9, 10, 11].filter fun i => talk.contains i || !s.keptOff i else talk

/-- The domains that the present mode powers (R82); CRIMSON those of the mode it was entered from. -/
def State.wantedDomains (s : State) : List Nat :=
  match s.ms.mode with
  | .amber => s.amberDomains
  | .teal => s.unkept
  | .ivory => s.unkept
  | .cobalt => s.unkept
  | .pearl => s.unkept
  | .crimson => if s.ms.entered = .amber then s.amberDomains else s.unkept
  | .indigo => [1]
  | _ => []

/-- Every domain that the present mode powers is requested, once PD_CORE0 is up. In CRIMSON nothing is: the domains that are off
wait until the device leaves it (R94, R95). -/
def State.requestWanted (s : State) : State :=
  if (s.pdOn 3 && s.ms.mode != .crimson) || s.ms.mode == .indigo then s.wantedDomains.foldl State.requestDomain s else s

/-! ## Loss of power -/

/-- The staging set that a requester loses with PD_CORE0 (R69). -/
def lostSet (who : Requester) (x : ReqState) : List (Requester × Nat × Nat × Nat) :=
  match x.staged with
  | [] => []
  | w :: _ => [(who, x.node, x.staged.length, w.seq)]

/-- PD_CORE0 loses its power: the control plane is lost, with every setting that PD_AO does not hold and every block but the
templates (R69, R236, R431). [DEDUCED, log 52, 80, 88] -/
def State.loseCore (s : State) : State :=
  let l := lostSet .internal s.internal ++ lostSet .hspi s.hspi ++ lostSet .twb0 s.twb0 ++
    s.chain.flatMap fun (x : Nat × ReqState) => lostSet (.chain x.1) x.2
  let s := s.mapMs fun m => { m with discards := m.discards ++ l, booted := false, recipesLoaded := false, noStart := false }
  let s := { s with internal := .fresh, hspi := .fresh, twb0 := .fresh, chain := [], turn := 0, parts := [],
                    test := .idle,
                    objs := s.objs.filter fun x => objAo x.1,
                    blocks := s.blocks.filter fun x => decide (0x5100 ≤ x.1) && decide (x.1 ≤ 0x5107),
                    router := { s.router with relayout := false } }
  let s := { s with boot := { s.boot with pushWait := false, failed := false, pushed := [], records := [] },
                    mem := { s.mem with chipBuf := none },
                    clk := { s.clk with loopA := .off, loopB := .off },
                    pair := { PairMember.reset with role := s.pair.role, peerHigh := s.pair.peerHigh, peerLowAt := s.pair.peerLowAt },
                    arb := [],
                    host := { HostPorts.reset with addr := s.host.addr, lanes := s.host.lanes } }
  s.clearLanes 0 7

/-- A synthesizer without power reads OFF and keeps nothing but its settings; its loop is held. [DEDUCED, log 52] -/
def State.cutSyn (s : State) (x : Syn) : State := ((s.setSyn x SynState.off).offFn (.syn x)).holdSyn x

/-- What the loss of power domain `i` does beside its functions' (R96, R137, R236, R313, R315, R388, R509). -/
def State.lostDomain (s : State) (i : Nat) : State :=
  let s := s.dropDomain i
  match i with
  | 1 => s.cutListen.autoMux
  | 2 => ((((s.cutSyn .a).cutSyn .b).cutSyn .s).memFault .clock).faultFlows.refresh
  | 3 => s.loseCore
  | 4 => s.clearLanes 4 7
  | 7 => s.cmFall 0
  | 8 => s.cmFall 1
  | 9 => [1, 2].foldl (fun s h => s.setHp h { s.hp h with jack := 0, loadL := 0xFFFF, loadR := 0xFFFF, absentAt := none }) s.biasFall
  | 10 => s.memFault .power
  | 11 =>
    let s := (((s.dropLink .cha).dropLink .chb).leaveChain).mapNet fun n => { n with st := 0, claimAt := none, best := none }
    [Mux.chaRx, .chbRx].foldl (fun s m => s.setMux (muxKey m) { active := 0, want := 0, st := 0 }) s
  | _ => s

/-- Domain `i` is switched off; one that waits for the governor leaves the queue without charge (R98). A domain in FAULT stays as
it is until the next start from ASH. -/
def State.switchOff (s : State) (i : Nat) : State :=
  match s.phase (.pd i) with
  | .off => s
  | .fault => s
  | p =>
    let s := s.mapGov fun g => { g with queue := g.queue.filter (fun x => x.1 != i), admitted := put 0 g.admitted i 0 }
    let s := s.setPd i .off
    if p = .starting then s else s.lostDomain i

/-- Whether the switch-off of domain `i` stops a function (R42, R86): it lies in it, or takes its ticks from PD_SYN. [DEDUCED, log 47, 48] -/
def State.endsWith (s : State) (i : Nat) (f : Func) : Bool :=
  match f with
  | .pd _ => false | .syn _ => false | .mem => false | .selftest => false | .cko _ => false | .scan => false
  | _ => f.pdom == i || (i == 2 && (s.fdom f).isSome)

/-- Whether every function that the switch-off of domain `i` stops has stopped. -/
def State.pdQuiet (s : State) (i : Nat) : Bool := s.funcList.all fun f => !(s.endsWith i f && s.busyFn f)

/-- What a written `KEEP_OFF` does (R42, R96): the domain's functions are disabled and it goes off once they have stopped, or it
is requested again. [DEDUCED, log 48] -/
def State.applyKeepOff (s : State) (i : Nat) : State :=
  if s.keptOff i && !s.wantedDomains.contains i then
    match s.phase (.pd i) with
    | .starting => s.switchOff i
    | .running =>
      let s := (s.funcList.filter fun f => s.endsWith i f && s.busyFn f).foldl State.disableFn (s.setPd i .draining)
      if s.pdQuiet i then s.switchOff i else s
    | _ => s
  else if s.wantedDomains.contains i then s.requestDomain i else s

/-! ## The governor -/

/-- A start put into the order of priority; equal priorities keep their order (R96, R97). -/
def insertStart (prio : Nat → Nat) (x : Nat × Nat) : List (Nat × Nat) → List (Nat × Nat)
  | [] => [x]
  | y :: l => if prio x.1 < prio y.1 then x :: y :: l else y :: insertStart prio x l

/-- The queued starts in the order of admission. -/
def orderStarts (prio : Nat → Nat) (l : List (Nat × Nat)) : List (Nat × Nat) :=
  l.foldl (fun acc x => insertStart prio x acc) []

/-- The starts admitted in one window from a balance (R97), and the balance after them. `first` says that none has been admitted
yet. -/
def admitStarts (budget : Int) : Int → Bool → List (Nat × Nat) → List (Nat × Nat) × Int
  | bal, _, [] => ([], bal)
  | bal, first, x :: l =>
    let cost : Int := pdCost x.1
    if cost ≤ bal ∨ (bal = budget ∧ first) then
      let r := admitStarts budget (bal - cost) false l
      (x :: r.1, r.2)
    else ([], bal)

/-- The balance after the windows that have begun since the last one (R97). -/
def State.balanceAt (s : State) (windows : Nat) : Int :=
  let b : Int := s.rd 0x2002 1
  min (s.gov.balance + b * windows) b

/-- `BALANCE` (R98). -/
def State.balance (s : State) : Int := s.balanceAt ((s.now - s.gov.window) / 100000)

/-- Domain `i`, requested at `at_`, is admitted (R97, R98). [DEDUCED, log 49] -/
def State.startNext (s : State) (i at_ : Nat) : State :=
  let wait := (s.now - at_) / 1000
  let s := (s.wr (0x2010 + i) 5 (wait % 2 ^ 32)).bump (0x2010 + i) 6
  let s := if s.rd 0x2002 5 < wait then s.wr 0x2002 5 (wait % 2 ^ 32) else s
  let s := if s.rd 0x2002 4 < wait then s.event 0x05 (0x2010 + i) else s
  s.mapGov fun g => { g with queue := g.queue.filter (fun x => x.1 != i), admitted := put 0 g.admitted i (max 1 s.now) }

/-- GOVERNOR_WINDOW (R97): a window begins. [DESIGN CHOICE, log 6; DEDUCED, log 49] -/
def execGovernorWindow (t : Nat) (s : State) : Host.Outcome State Fault Refusal :=
  let s := s.clock t
  if s.gov.window ≠ 0 ∧ s.now < s.gov.window + 100000 then .next s
  else
    let bal := s.balanceAt (max 1 ((s.now - s.gov.window) / 100000))
    let r := admitStarts (s.rd 0x2002 1) bal true (orderStarts (fun i => s.rd (0x2010 + i) 3) s.gov.queue)
    let s := s.mapGov fun g => { g with balance := r.2, window := max 1 s.now }
    .next (r.1.foldl (fun s x => s.startNext x.1 x.2) s)

/-- The governor is full again and its windows begin with RCO (R97, R99). [DEDUCED, log 49] -/
def State.fillGov (s : State) : State :=
  s.mapGov fun g => { g with balance := s.rd 0x2002 1, window := 0 }

/-- DOMAIN_FAULT (R96): power-good is not reached within 1 ms of admission. [DEDUCED, log 50] -/
def execDomainFault (t pd : Nat) (s : State) : Host.Outcome State Fault Refusal :=
  let s := s.clock t
  let a := look 0 s.gov.admitted pd
  if s.phase (.pd pd) = .starting ∧ a ≠ 0 ∧ a + 1000000 ≤ s.now then
    let s := s.mapGov fun g => { g with admitted := put 0 g.admitted pd 0 }
    .next ((s.faultFn (.pd pd)).event 0x04 (0x2010 + pd))
  else .next s

/-- A domain in FAULT is tried again at a start from ASH. [DEDUCED, log 50] -/
def State.forgetFaults (s : State) : State :=
  (List.range 12).foldl (fun s i => if s.phase (.pd i) = .fault then s.setPd i .off else s) s

end Sys2Proof.Machine
end

