-- ==== Sys2Proof/Machine/Power.lean ====
section
/-!
DEFINITION. The modes and their transitions (03_modes_power.md, R82 to R95, R99 to R103): advancing, descents, wakes, reset, CRIMSON
and the power-good of each domain.
-/

set_option autoImplicit false

namespace Sys2Proof.Machine

/-! ## Entering a mode -/

/-- XO stops: its detectors are disarmed, PTP time goes on from LPO, and the multiplexers that take XO pass their start sources again
(R109, R116, R126). [DEDUCED, log 52] -/
def State.stopXo (s : State) : State :=
  let s := { s with clk := { s.clk with amp := false, stable := false, lost := false, armed := false, countAt := 0,
                                        lpoAt := if s.clk.stable then s.now else s.clk.lpoAt } }
  (s.setMux (muxKey .control) { active := 0, want := 0, st := 0 }).setMux (muxKey .ptp) { active := 0, want := 0, st := 0 }

/-- The device enters a mode (R84, R85, R104, R407): everything that follows the mode does. [DEDUCED, log 88] -/
def State.enterMode (s : State) (m : Mode) (cause : Nat) : State :=
  let s := s.changeMode m cause
  let s := match m with
    | .teal => ((List.range 12).filter s.keptOff).foldl State.applyKeepOff s.avsEntry.requestWanted
    | .cobalt => s.takeGrant
    | .amber => { s with clk := { s.clk with amberAt := s.now } }
    | _ => s
  s.refresh

/-! ## Self-test -/

/-- The running self-test is abandoned (R526): its result reads ABORTED, and the tests that have not started keep theirs. [DEDUCED, log 75] -/
def State.abortTest (s : State) : State :=
  match s.test.left with
  | [] => s
  | t :: _ =>
    let s := if s.testQuiet then s.wr 0x2461 (t + 1) 0xC000FFFF else s
    { s.setFn .selftest { FuncState.off with phase := .quiesced } with test := .idle }

/-! ## CRIMSON -/

/-- The modes from which CRIMSON is entered (R85). -/
def Mode.trips (m : Mode) : Bool :=
  match m with
  | .amber => true | .teal => true | .ivory => true | .cobalt => true | .pearl => true
  | _ => false

/-- Entry into CRIMSON (R94, R129): the safe states, and every transition abandoned. -/
def State.enterCrimson (s : State) : State :=
  let s := s.abortTest.mapMs fun m => { m with trans := .none, entered := m.mode, ack := false }
  let s := (List.range 12).foldl (fun s i => if s.phase (.pd i) = .draining then s.setPd i .running else s) s
  let s := (s.changeMode .crimson s.crimsonCause).safeOutputs
  ((s.cutSaps (s.causes.testBit 0)).cutPair).refresh

/-- The switch-offs of the causes present in CRIMSON (R94); with AVDD_HV gone the control-voltage pairs hold no code. -/
def State.crimsonCuts (s : State) : State :=
  let s := ((List.range 12).filter fun i => decide (0 < i) && s.pdBlocked i).foldl State.switchOff s
  if s.ms.low.contains .avddHv then s.loseAvddHv else s

/-- The causes of CRIMSON after a change of one of them (R93, R94). -/
def State.settleCauses (s : State) : State :=
  let s := s.noteCauses
  if s.causes ≠ 0 ∧ Mode.trips s.ms.mode then s.enterCrimson.crimsonCuts
  else if s.ms.mode = .crimson then s.crimsonCuts
  else s

/-- What a written `CRIMSON_ACK` of 01h does (R95). -/
def State.applyAck (s : State) : State :=
  if s.ms.mode = .crimson ∧ s.causes = 0 then s.mapMs fun m => { m with ack := true } else s

/-! ## The goal -/

/-- The status of a write of `v` to `TARGET_MODE` (R85). [DEDUCED, log 45] -/
def State.targetStatus (s : State) (v : Nat) : Nat :=
  if s.ms.trans ≠ .none then 9
  else if v = s.rd 0x2000 2 ∨ v = s.ms.mode.code then 0
  else
    let awake := v == 4 || v == 5 || v == 8
    let ok : Bool := match s.ms.mode with
      | .amber => true
      | .teal => true
      | .crimson => awake
      | .ivory => v != 5
      | .cobalt => v != 5
      | .pearl => v == 4 || v == 1 || v == 2
      | _ => false
    if ok then 0 else 7

/-- A function that a transition stops is disabled. -/
def State.disableAll (s : State) (p : Func → Bool) : State :=
  (s.funcList.filter fun f => p f && s.busyFn f).foldl State.disableFn s

/-- The ramp-out toward TEAL begins (R85); a self-test ends (R526). -/
def State.beginLeave (s : State) : State :=
  let s := s.abortTest.mapMs fun m => { m with trans := .leave s.now }
  let s := if s.paired then s.beginRelease 0 else s
  s.disableAll drivingFn

/-- What the goal asks for at once in the present mode (R85, R86): a descent, the ramp-out toward TEAL, or the release of an
active member. [DEDUCED, log 45] -/
def State.applyTarget (s : State) : State :=
  let v := s.rd 0x2000 2
  if !Mode.trips s.ms.mode || s.ms.trans != .none then s
  else if v = 1 ∨ v = 2 then
    let s := s.mapMs fun m => { m with trans := .descent (if v = 1 then .slate else .indigo) s.now false }
    if s.paired then s.beginRelease 0 else s
  else match s.ms.mode with
    | .ivory => if v = 4 then s.beginLeave else if v = 8 ∧ s.paired then s.beginRelease 0 else s
    | .cobalt => if v = 4 then s.beginLeave else s
    | .pearl => if v = 4 then s.beginLeave else s
    | _ => s

/-- Whether the member is to wait in COBALT (R85, R406): it is in a pair and not active. -/
def State.standsBy (s : State) : Bool := s.paired && (s.pair.role == 1 || s.pair.role == 3)

/-- The next mode that the present one may step to, if the trigger of its step holds (R85, R88). -/
def State.nextMode (s : State) : Option Mode :=
  let v := s.rd 0x2000 2
  match s.ms.trans, s.ms.mode with
  | .leave a, m =>
    if !s.pair.driving && (s.funcList.all fun f => !(drivingFn f && s.busyFn f)) &&
        (m != .pearl || decide (a + 1000000 ≤ s.now)) then some .teal
    else none
  | .none, .amber => if s.tealReady then some .teal else none
  | .none, .teal =>
    if v = 8 then some .pearl
    else if v = 5 ∧ s.ready % 128 = 127 then some (if s.standsBy then .cobalt else .ivory)
    else none
  | .none, .ivory =>
    if v = 8 then (if s.pair.driving then none else some .pearl) else if s.standsBy then some .cobalt else none
  | .none, .cobalt => if v = 8 then some .pearl else if s.paired then none else some .ivory
  | _, _ => none

/-- MODE_ADVANCE (R85): the trigger of a step holds. -/
def execModeAdvance (t : Nat) (s : State) : Host.Outcome State Fault Refusal :=
  let s := s.clock t
  match s.nextMode with
  | some m => .next (((s.mapMs fun x => { x with trans := .none }).enterMode m 0).applyTarget).settleCauses
  | none => .next s

/-- CRIMSON_RESUME (R95): 10 ms without a cause, and resumption permitted. -/
def execCrimsonResume (t : Nat) (s : State) : Host.Outcome State Fault Refusal :=
  let s := (s.clock t).noteCauses
  let m := s.ms
  if m.mode = .crimson ∧ s.causes = 0 ∧ m.clear ∧ m.clearAt + 10000000 ≤ s.now ∧ (s.rd 0x2000 5 = 1 ∨ m.ack) ∧ !m.ctlHeld then
    let s := s.mapMs fun m => { m with ack := false, trans := .none }
    let s := { s with outs := { s.outs with safe := false } }
    let s := s.enterMode (if s.tealReady then .teal else .amber) 0
    let s := (if m.entered = .amber then s.wantedDomains else s.unkept).foldl State.requestDomain s
    .next s.applyTarget.settleCauses
  else .next s

/-! ## Descents -/

/-- The domains that a descent switches off, one after another (R86): the reverse of their priority, PD_CORE0 last. -/
def State.descentOrder (s : State) (target : Mode) : List Nat :=
  let l := [1, 2, 4, 5, 6, 7, 8, 9, 10, 11].filter fun i => !Mode.keeps target i
  ((orderStarts (fun i => s.rd (0x2010 + i) 3) (l.map fun i => (i, 0))).map (·.1)).reverse

/-- Whether a descent to `target` stops a function. -/
def descentStops (target : Mode) (f : Func) : Bool :=
  match f with
  | .pd _ => false | .syn _ => false | .mem => false | .selftest => false | .cko _ => false | .scan => false
  | _ => !Mode.keeps target f.pdom

/-- IN1 and IN2, whose disabling the pre-arm puts off (R436). -/
def prearmInput (f : Func) : Bool := f == .input 1 || f == .input 2

/-- The functions of a begun descent that must stop are disabled (R86, R436). -/
def State.stopForDescent (s : State) (target : Mode) : State :=
  s.disableAll fun f => descentStops target f && !(target == .indigo && s.prearmHolds && prearmInput f)

/-- DESCENT_BEGIN (R86): 1 ms after the response. [DEDUCED, log 46] -/
def execDescentBegin (t : Nat) (s : State) : Host.Outcome State Fault Refusal :=
  let s := s.clock t
  match s.ms.trans with
  | .descent target a false =>
    if a + 1000000 ≤ s.now then
      let s := s.abortTest.mapMs fun m => { m with trans := .descent target a true }
      let s := (s.descentOrder target).foldl (fun s i => match s.phase (.pd i) with
        | .starting => s.switchOff i
        | .running => s.setPd i .draining
        | _ => s) s
      let s := if target = .indigo then (s.requestDomain 1).listenDescent else s
      .next (s.stopForDescent target)
    else .next s
  | _ => .next s

/-- Whether every function of a begun descent has stopped. -/
def State.descentQuiet (s : State) (target : Mode) : Bool :=
  !s.pair.driving && !(target == .indigo && s.prearmHolds) &&
    s.funcList.all fun f => !(descentStops target f && s.busyFn f)

/-- The listening path runs in INDIGO whatever its enable (R422). -/
def State.settleListen (s : State) : State :=
  match s.phase .listen with
  | .off => if s.listenWanted then s.startListen else s
  | .quiesced => if s.listenWanted then s.startListen else s
  | _ => s

/-- The end of a descent (R84, R86, R102): the domains go off, the SYSTEM entry is written, and PD_CORE0 goes last. [DEDUCED, log 47] -/
def State.endDescent (s : State) (target : Mode) : State :=
  let s := s.wr 0x2003 3 s.net.node
  let s := (s.descentOrder target).foldl State.switchOff s
  let s := (s.mapMs fun m => { m with trans := .none }).phClear
  let s := ((s.changeMode target 0).switchOff 3).stopXo
  (s.avsStop.refresh).settleListen

/-- DOMAIN_SWITCH_OFF (R42, R86, R96): the last function that had to stop has stopped. [DEDUCED, log 47] -/
def execDomainSwitchOff (t : Nat) (s : State) : Host.Outcome State Fault Refusal :=
  let s := s.clock t
  match s.ms.trans with
  | .descent target _ true => if s.descentQuiet target then .next (s.endDescent target) else .next s
  | _ =>
    .next (((List.range 12).filter fun i => s.phase (.pd i) == .draining && s.pdQuiet i).foldl State.switchOff s)

/-! ## Wake -/

/-- The code of a wake source in `LAST_WAKE`, which is also its bit of `WAKE_ENABLE` (R89, R101). -/
def wakeCode (w : WakeSource) : Nat :=
  match w with
  | .acoustic => 1 | .beacon _ _ => 2 | .twb0 => 3 | .hspi => 4 | .pin => 5

/-- PD_CORE0 is started (R101): RCO runs again, and the governor with it. -/
def State.powerUp (s : State) : State :=
  ((s.mapMs fun m => { m with trans := .wake }).fillGov).requestDomain 3

/-- The stagger in 100 µs (R102). -/
def State.stagger (s : State) (hops : Nat) : Nat :=
  let n := if s.rd 0x2003 3 = 0xFFFF then hops else s.rd 0x2003 3
  n % s.rd 0x2003 1 * s.rd 0x2003 2

/-- A wake begins in SLATE or INDIGO (R101, R102). -/
def State.beginWake (s : State) (w : WakeSource) : State :=
  let s := s.wr 0x2000 7 (wakeCode w)
  let (d, target) : Nat × Nat := match w with
    | .beacon hops target => (s.stagger hops, target)
    | _ => (0, 0)
  let s := (s.wr 0x2003 4 (d * 100)).mapMs fun m => { m with wakeBoot := true, wakeTarget := target }
  let s := s.listenWake
  if d = 0 then s.powerUp else s.mapMs fun m => { m with trans := .stagger (s.now + d * 100000) }

/-- What is enabled and drains is to restart when it has stopped (R87). -/
def State.restartDraining (s : State) : State :=
  s.funcList.foldl (fun s f => match f, s.phase f with
    | .cko _, _ => s
    | .pd _, _ => s
    | _, .draining => if s.wants f then s.setFn f { s.fn f with startPending := true } else s
    | _, .ramping => if s.wants f then s.setFn f { s.fn f with startPending := true } else s
    | _, _ => s) s

/-- A descent is cancelled (R87): nothing more is switched off, and what drains restarts when it has stopped. Where nothing has
been disabled yet and the outputs still run, they ramp out as on every way to TEAL. [DEDUCED, log 46] -/
def State.cancelDescent (s : State) (w : WakeSource) (begun : Bool) : State :=
  let s := (s.wr 0x2000 7 (wakeCode w)).wr 0x2000 2 (s.rd 0x2000 9)
  let s := (s.mapMs fun m => { m with trans := .none }).listenWake
  if !begun then (if Mode.drives s.ms.mode then s.beginLeave else s.applyTarget)
  else
    let s := s.restartDraining
    let goal : Mode := if s.tealReady then .teal else .amber
    let s := if s.ms.mode = goal ∨ s.ms.mode = .amber then s else s.enterMode goal (wakeCode w)
    (s.requestWanted).startAll

/-- A wake source fires (R87, R101); one whose bit of `WAKE_ENABLE` is 0 does not act. [DEDUCED, log 46] -/
def State.wake (s : State) (w : WakeSource) : State :=
  if !(s.rd 0x2000 8).testBit (wakeCode w) then s
  else match s.ms.mode, s.ms.trans, w with
    | .slate, .none, _ => s.beginWake w
    | .indigo, .none, _ => s.beginWake w
    | _, .descent _ _ _, .beacon _ _ => s
    | _, .descent _ _ begun, _ => s.cancelDescent w begun
    | _, _, _ => s

/-- WAKE_SOURCE_FIRE (R101). -/
def execWakeSourceFire (t : Nat) (src : WakeSource) (s : State) : Host.Outcome State Fault Refusal :=
  let s := s.clock t
  match src with
  | .acoustic => if s.phase .listen = .running ∨ s.phase .listen = .starting then .next (s.wake src) else .next s
  | .beacon _ target => if target = 4 ∨ target = 5 then .next (s.wake src) else .next s
  | _ => .next (s.wake src)

/-- STAGGER_END (R102). -/
def execStaggerEnd (t : Nat) (s : State) : Host.Outcome State Fault Refusal :=
  let s := s.clock t
  match s.ms.trans with
  | .stagger u => if u ≤ s.now then .next s.powerUp else .next s
  | _ => .next s

/-- BEACON_RECEIVE (R103, R399): a beacon is relayed, and acted on when its check holds. [DEDUCED, log 46] -/
def execBeaconReceive (t : Nat) (port : ChPort) (target hops : Nat) (checkOk : Bool) (s : State) :
    Host.Outcome State Fault Refusal :=
  let s := s.clock t
  let asleep := s.ms.mode == .slate || s.ms.mode == .indigo
  let fresh := match s.net.beaconAt with
    | some a => decide (a + 1000000000 ≤ s.now)
    | none => true
  if !asleep || s.portMode port == 3 || s.portMode port == 0 then .next s
  else
    let s := s.mapNet fun n => { n with beaconAt := some s.now }
    if !fresh then .next s
    else
      let o := otherPort port
      let relays := s.rd 0x2003 5 == 1 && s.portMode o != 3 && s.portMode o != 0 && s.rd (portIndex o) 3 != 2
      let s := if relays then s.send (.beacon o target (min 1023 (hops + 1)) checkOk) else s
      if checkOk && (target == 4 || target == 5) then .next (s.wake (.beacon hops target)) else .next s

/-! ## Reset and power -/

/-- Every domain but PD_AO goes off (R100), PD_CORE0 last. -/
def State.allOff (s : State) : State :=
  ((s.descentOrder .slate).foldl State.switchOff s).switchOff 3

/-- The sequencer starts the device (R99): a domain that failed is tried again, and PD_CORE0 is requested into a full window. -/
def State.startUp (s : State) : State := (s.forgetFaults.fillGov).requestDomain 3

/-- Entry into ASH (R84, R100, R129): the outputs are made safe, and nothing runs on but the drains of the soft clamp. -/
def State.enterAsh (s : State) (cause : Nat) : State :=
  let s := { s.abortTest with parts := [] }
  let s := s.mapMs fun m => { m with trans := .none, ashCause := cause, booted := false, recipesLoaded := false, ack := false,
                                     wakeBoot := false, noStart := false }
  let s := (((s.changeMode .ash 0).safeOutputs).cutSaps true).cutPair
  let s := ((s.avsStop.cutSyn .a).cutSyn .b).cutSyn .s
  s.stopXo.refresh

/-- Whether the RESET_N ball is ignored (R107): VDDIO_C is out of tolerance, or has not yet been within it for 10 ms. [DEDUCED, log 53] -/
def State.resetIgnored (s : State) : Bool := s.ms.low.contains .vddioC || decide (s.now < s.ms.ioRearm)

/-- RESET_N_LOW (R52, R100). -/
def execResetNLow (t : Nat) (s : State) : Host.Outcome State Fault Refusal :=
  let s := s.clock t
  if s.resetIgnored || !s.ms.resetHigh then .next s
  else
    let s := s.mapMs fun m => { m with resetHigh := false }
    if s.ms.low.contains .avdd33 then
      .next ({ s with rights := .default, boot := { s.boot with resetBoot := true } }.wr 0x2000 2 4)
    else
      let s := ({ s with rights := .default, boot := { s.boot with resetBoot := true } }).enterAsh 2
      .next ((s.wr 0x2000 2 4).mapMs fun m => { m with resetAt := s.now, clamping := true })

/-- RESET_CLAMP_END (R100): the soft clamp has completed. [DEDUCED, log 53] -/
def execResetClampEnd (t : Nat) (s : State) : Host.Outcome State Fault Refusal :=
  let s := s.clock t
  if s.ms.clamping ∧ s.ms.resetAt + 12000000 ≤ s.now then
    let s := s.allOff.mapMs fun m => { m with clamping := false }
    .next (if s.ms.resetHigh then s.startUp else s)
  else .next s

/-- RESET_N_HIGH (R99, R538): the levels of the banks and the address bits are sampled. [DESIGN CHOICE, log 3; DEDUCED, log 53] -/
def execResetNHigh (t banks addr : Nat) (s : State) : Host.Outcome State Fault Refusal :=
  let s := s.clock t
  if s.resetIgnored || s.ms.resetHigh || s.ms.mode != .ash then .next s
  else
    let s := (s.wr 0x2006 1 (banks % 16)).mapMs fun m => { m with resetHigh := true }
    let s := { s with host := { s.host with addr := 0x48 + addr % 4 } }
    if s.ms.low.contains .avdd33 then .next s
    else
      let s := s.startHk
      .next (if s.ms.clamping then s else s.startUp)

/-- AVDD33 below 2.85 V, or the always-on rail out of regulation (R100, R107). -/
def State.loseAvdd33 (s : State) : State :=
  if s.ms.low.contains .avdd33 then s
  else
    let s := (s.mapMs fun m => { m with low := .avdd33 :: m.low }).wrBit 0x2005 1 0 true
    ((s.enterAsh 3).allOff.cutHk).mapMs fun m => { m with clamping := false }

/-- AVDD33_LOW (R84, R100). -/
def execAvdd33Low (t : Nat) (s : State) : Host.Outcome State Fault Refusal := .next (s.clock t).loseAvdd33

/-- AVDD33_RETENTION_LOSS (R551): AVDD33 has fallen below 2.0 V, so that PD_AO is lost; fuses
(R486) and flash stay. -/
def execAvdd33RetentionLoss (t : Nat) (s : State) : Host.Outcome State Fault Refusal :=
  let s := s.clock t
  if s.ms.low.contains .avdd33 then
    let r : State :=
      { State.reset with now := s.now, freeCtr := s.freeCtr, pending := s.pending,
                         boot := { Boot.reset with keyHash := s.boot.keyHash, flash := s.boot.flash },
                         ms := { ModeState.reset with low := s.ms.low, changedAt := s.now, resetHigh := s.ms.resetHigh } }
    .next (r.wr 0x2303 5 (s.rd 0x2303 5))
  else .next s

/-- POWER_ON (R84, R99, R551): AVDD33 has risen. [DESIGN CHOICE, log 3] -/
def execPowerOn (t epoch : Nat) (s : State) : Host.Outcome State Fault Refusal :=
  let s := s.clock t
  if s.ms.mode ≠ .ash then .next s
  else
    let was := s.ms.low.contains .avdd33
    let s := s.mapMs fun m => { m with low := m.low.filter fun r => r != .avdd33 }
    let s := if s.journal.drawn then s else { s with journal := { s.journal with epoch := epoch % 2 ^ 32, drawn := true } }
    .next (if was && s.ms.resetHigh then s.startHk.startUp else s)

/-! ## Power-good -/

/-- The DISCARD entries of the staging sets that PD_CORE0 lost (R69). -/
def State.flushDiscards (s : State) : State :=
  let l := s.ms.discards
  let s := s.mapMs fun m => { m with discards := [] }
  l.foldl (fun s x => s.setEntry .discard x.1 x.2.1 0 x.2.2.1 2 x.2.2.2) s

/-- A boot starts at `now` (R490, R493): what the boots before found is kept until one of them has succeeded and reported it. -/
def Boot.start (b : Boot) (now : Nat) : Boot :=
  let b := { b with startAt := now, retryAt := 0 }
  if b.reported then { b with noFlash := false, slot0Bad := false, slot1Bad := false, pushErr := false, reported := false } else b

/-- PD_CORE0 is up (R84, R85, R99): the device is in AMBER, the entries that waited are written, and the boot ROM runs. -/
def State.coreUp (s : State) : State :=
  let cause := if s.ms.mode = .ash then s.ms.ashCause else s.rd 0x2000 7
  let s := s.mapMs fun m => { m with trans := .none }
  let s := { s with outs := { s.outs with safe := false },
                    boot := s.boot.start s.now }
  let s := (s.enterMode .amber cause).flushLate.flushDiscards
  s.requestWanted.settleCauses

/-- DOMAIN_POWER_GOOD (R96). -/
def execDomainPowerGood (t pd : Nat) (s : State) : Host.Outcome State Fault Refusal :=
  let s := s.clock t
  if 12 ≤ pd ∨ s.phase (.pd pd) ≠ .starting ∨ look 0 s.gov.admitted pd = 0 then .next s
  else
    let s := (s.setPd pd .running).mapGov fun g => { g with admitted := put 0 g.admitted pd 0 }
    match pd with
    | 1 => .next s.refresh.settleListen
    | 3 => .next s.coreUp
    | 7 => .next (s.cmRise 0).refresh
    | 8 => .next (s.cmRise 1).refresh
    | 9 => .next s.biasRise.refresh
    | 10 => .next (s.memEase .power).refresh
    | _ => .next s.refresh

/-- CM_READY (R313): 100 ms after the rise began. -/
def execCmReady (t bank : Nat) (s : State) : Host.Outcome State Fault Refusal :=
  let s := s.clock t
  if bank < 2 ∧ (s.cm bank).st = 1 ∧ (s.cm bank).at_ + 100000000 ≤ s.now then
    .next (s.setCm bank { st := 2, at_ := s.now }).startAll
  else .next s

/-- HP_BIAS_READY (R315): 250 ms after the rise began; a plug found then is taken as inserted (R324). -/
def execHpBiasReady (t : Nat) (s : State) : Host.Outcome State Fault Refusal :=
  let s := s.clock t
  if s.outs.hpBias.st = 1 ∧ s.outs.hpBias.at_ + 250000000 ≤ s.now then
    let s := { s with outs := { s.outs with hpBias := { st := 2, at_ := s.now } } }
    let s := [1, 2].foldl (fun s h => if (s.hp h).present && (s.hp h).jack == 0 && s.rd (0x3200 + h) 8 == 1 then
      s.beginJack h else s) s
    .next (s.settleTalkback).startAll
  else .next s

end Sys2Proof.Machine
end

