-- ==== Sys2Proof/Machine/ClockEvents.lean ====
section
/-!
DEFINITION. What the events of the oscillators, the multiplexers and the synthesizers do to the device (04_clocks.md, R110, R117 to
R131; 05_synthesizers.md, R141 to R144), the events of listening that can wake it, the events of the chain after which flows
may start (12_chain.md), and the end of a memory training.
-/

set_option autoImplicit false

namespace Sys2Proof.Machine

/-! ## XO -/

/-- XO_NO_START (R92): 100 ms of AMBER without an amplitude. -/
def execXoNoStart (t : Nat) (s : State) : Host.Outcome State Fault Refusal :=
  let s := s.clock t
  if s.ms.mode = .amber ∧ !s.clk.amp ∧ !s.clk.stable ∧ !s.ms.noStart ∧ s.clk.amberAt + 100000000 ≤ s.now then
    .next ((s.mapMs fun m => { m with noStart := true }).event 0x20 0x2100)
  else .next s

/-- XO_STABILITY_COUNT_DONE (R110): 8192 XO cycles in `rcoCount` cycles of RCO, which runs at 32.64 MHz at most (R111). What `XO_STARTS`
shows after 65535 the spec leaves open; it wraps. [DESIGN CHOICE, log 91] -/
def execXoStabilityCountDone (t rcoCount : Nat) (s : State) : Host.Outcome State Fault Refusal :=
  let s := s.clock t
  if !Mode.xoOn s.ms.mode || !s.clk.amp || s.clk.stable ||
      decide (s.now * 32640000 < s.clk.countAt * 32640000 + rcoCount * 1000000000) then .next s
  else if 10133 ≤ rcoCount ∧ rcoCount ≤ 11200 then
    let s := { s with clk := { s.clk with stable := true, lost := false, freqBad := false, armed := true } }
    let s := s.wr 0x2100 3 ((s.rd 0x2100 3 + 1) % 2 ^ 16)
    let s := s.mapMs fun m => { m with noStart := false }
    let s := (s.askMux .control 1).askMux .ptp 1
    .next s.requestWanted.refresh.settleCauses
  else .next ({ s with clk := { s.clk with freqBad := true, countAt := s.now } }.event 0x21 0x2100)

/-- What the loss of SYN_S stops (R127, R129, R388, R509). [DEDUCED, log 52] -/
def State.loseSynS (s : State) : State := (s.memFault .clock).faultFlows

/-- The missing-edge detector of XO fires (R121, R126, R127, R130). -/
def State.missXo (s : State) : State :=
  if !s.clk.armed then s
  else
    let s := ((s.wr 0x2100 7 s.ptp).bump 0x2100 8).event 0x22 0x2100
    let s := { s with clk := { s.clk with lost := true, stable := false, armed := false, countAt := s.now, lpoAt := s.now } }
    let s := (s.forceMux .control 2).forceMux .ptp 3
    let s := [Syn.a, .b, .s].foldl (fun s x => s.gateSyn x true) s
    (s.loseSynS.settleCauses).refresh

/-! ## Synthesizers -/

/-- Whether the selected method declares lock (R141). -/
def lockedBy (method : Nat) (pin window : Bool) : Bool :=
  match method with
  | 0 => pin
  | 1 => window
  | _ => pin && window

/-- Whether the selected method has lost a lock that the methods now declare as `pin` and `window` (R141): under 02h, either loss. -/
def lostBy (method : Nat) (pin window : Bool) : Bool :=
  match method with
  | 0 => !pin
  | 1 => !window
  | _ => !pin || !window

/-- Synthesizer `x` locks (R137): its output is ungated, and what waited for its clock goes on. -/
def State.lockSyn (s : State) (x : Syn) : State :=
  let y := s.syn x
  let s := s.wr (0x2104 + x.num) 0x0B ((s.now - y.acqAt) / 1000 % 2 ^ 32)
  let s := s.setSyn x { s.syn x with acqAt := 0, gatedAt := 0, fails := 0, refLost := false, lockAt := s.now }
  let s := s.setFn (.syn x) { s.fn (.syn x) with phase := .running }
  let s := if x = .s then s.memEase .clock else s
  let s := s.refresh.settleCauses
  if s.ms.mode = .crimson then s else s.startAll

/-- A running synthesizer loses its lock or its reference (R142). -/
def State.unlockSyn (s : State) (x : Syn) (refLost : Bool) : State :=
  let s := s.gateSyn x refLost
  let s := if x = .s then s.loseSynS else s
  s.settleCauses.refresh

/-- What the two lock methods declare (R137, R138, R140, R141, R143). In an acquisition the pin can declare lock 300 µs after its
start, of which the pin is held at AGND for 200 µs, and the window after `WINDOW_N` cycles; a lock counts within 2 ms. While the
synthesizer runs, the declarations are shown, and the loss of the selected one gates it. -/
def State.declareSyn (s : State) (x : Syn) (pin window : Bool) : State :=
  let y := s.syn x
  let pin := pin && decide (y.tryAt + 300000 ≤ s.now)
  let window := window && decide (y.tryAt + refTime y.scale y.winN ≤ s.now)
  let s' := s.setSyn x { y with pin := pin, window := window }
  if y.acqAt ≠ 0 then
    if y.acqAt + 2000000 < s.now then s
    else if lockedBy y.method pin window then s'.lockSyn x
    else s'
  else if s.phase (.syn x) = .running then
    if lostBy y.method pin window then s'.unlockSyn x false else s'
  else s

/-- A loss that a synthesizer declares (R140, R141, R142): the selected method declares the loss of lock, the window alone no sooner than `UNLOCK_COUNT` cycles after
the lock; or the reference is gone. -/
def State.declareLoss (s : State) (x : Syn) (refLost : Bool) : State :=
  let y := s.syn x
  if s.phase (.syn x) ≠ .running then s
  else if refLost then (if s.clk.stable then s else s.unlockSyn x true)
  else if y.method = 1 ∧ s.now < y.lockAt + refTime y.scale y.unlockN then s
  else s.unlockSyn x false

/-- What SYN_S serves is stopped without a fault while it is acquired again (R144, R550): the memory, and the flows. -/
def State.pauseSynS (s : State) : State :=
  (chainFlows ++ (List.range 16).map Func.aes).foldl (fun s f => if s.busyFn f then (s.restFn f).gateFn f else s) s.memPause

/-- What a written `REF_SCALE` does (R144): in PEARL the synthesizer is acquired again, whether it runs, acquires or is in FAULT, and
what it serves stops meanwhile. -/
def State.applyRefScale (s : State) (x : Syn) : State :=
  if s.ms.mode = .pearl ∧ s.synReady ∧ (s.synRuns x ∨ (s.syn x).acqAt ≠ 0 ∨ s.phase (.syn x) = .fault) then
    let s := ((s.setSyn x { s.syn x with stopAt := s.now }).acquireSyn x).holdSyn x
    (if x = .s then s.pauseSynS else s).refresh
  else s

/-! ## Multiplexers -/

/-- The source that a switch of a multiplexer is for. -/
def MuxState.goal (x : MuxState) (m : Mux) : Nat :=
  match m with
  | .sap _ _ => x.want
  | _ => if x.want = 0 then x.active else x.want

/-- A serial-port direction has its bit clock again (R119, R120, R343): one in FAULT for its clock is stopped, and starts if it
is enabled. -/
def State.sapSwitched (s : State) (p : Nat) (dir : SapDir) : State :=
  let f := sapFunc p dir
  let s := if s.phase f = .fault ∧ !(s.sapDir p dir).supply then
      (s.setSap p dir { s.sapDir p dir with clockLost := false }).setFn f { s.fn f with phase := .quiesced }
    else s
  s.tryStart f

/-- MUX_SWITCH_COMPLETE (R117, R119): the new input passes. -/
def execMuxSwitchComplete (t : Nat) (m : Mux) (s : State) : Host.Outcome State Fault Refusal :=
  let s := s.clock t
  let x := s.mux (muxKey m)
  if (x.st = 1 ∨ x.st = 2) ∧ s.mayRun m then
    let s := s.setMux (muxKey m) { active := x.goal m, want := 0, st := 0 }
    match m with
    | .hk => .next s.hkInvalidate
    | .sap p dir => .next (s.sapSwitched p dir)
    | _ => .next s.settleCauses
  else .next s

/-- The old input of a multiplexer has stopped during a switch (R119). -/
def State.hangMux (s : State) (m : Mux) : State :=
  let x := s.mux (muxKey m)
  if x.st = 1 ∧ s.mayStop m then
    let s := (s.setMux (muxKey m) { x with st := 2 }).event 0x23 (muxIndex m)
    match m with
    | .sap p dir =>
      let s := s.faultSap p dir
      s.setSap p dir { s.sapDir p dir with clockLost := true, good := 0 }
    | _ => s.settleCauses
  else s

/-- The multiplexer whose `FORCE_SWITCH` stands at an index and sub (R114, R359). -/
def forceOf (i sub : Nat) : Option Mux :=
  if 0x2110 ≤ i ∧ i ≤ 0x211F ∧ sub = 4 then cdMux (i - 0x2110)
  else if 0x3301 ≤ i ∧ i ≤ 0x3310 ∧ sub = 0x18 then some (.sap (i - 0x3301) .tx)
  else if 0x3301 ≤ i ∧ i ≤ 0x3310 ∧ sub = 0x19 then some (.sap (i - 0x3301) .rx)
  else none

/-- Whether the outputs of a multiplexer's scope are safe (R120); a multiplexer without a scope has none that could be unsafe, so that its
force-switch is accepted. [DESIGN CHOICE, log 91] -/
def State.scopeSafe (s : State) (m : Mux) : Bool :=
  match m with
  | .sap p dir => s.phase (sapFunc p dir) == .fault
  | .hk => true | .listen => true | .chaRx => true | .chbRx => true
  | .control => s.ms.mode == .crimson && s.causes.testBit 0
  | .ptp => s.ms.mode == .crimson && s.causes.testBit 0
  | .pwm => s.ms.mode == .crimson && s.causes.testBit 0

/-- A force-switch (R120): it acts only on a multiplexer that reads SOURCE_LOST. -/
def State.forceSwitch (s : State) (m : Mux) : State :=
  let x := s.mux (muxKey m)
  if x.st = 2 then
    let src := x.goal m
    let s := (s.setMux (muxKey m) { active := src, want := src, st := 3 }).event 0x25 (muxIndex m)
    match m with
    | .sap p dir => s.sapSwitched p dir
    | _ => s.settleCauses
  else s

/-! ## Listening -/

/-- The disabling of IN1 and IN2 that the pre-arm put off (R436), once the feed has switched. -/
def State.settlePrearm (s : State) : State :=
  match s.ms.trans with
  | .descent target _ true => if target = .indigo ∧ s.listen.prearm = 2 then s.stopForDescent target else s
  | _ => s

/-- LISTEN_FRAME (R426): a detection of stage 1 or 2 can wake the device from INDIGO. -/
def execListenFrame (t : Nat) (env : ListenEnv) (s : State) : Host.Outcome State Fault Refusal :=
  let r := (s.clock t).listenFrame env
  let s := r.1.settlePrearm
  .next (if r.2 && s.ms.mode == .indigo then s.wake .acoustic else s)

/-- Whether a match can fire the acoustic source now (R101, R437): in INDIGO, or during a descent to it. -/
def State.matchWakes (s : State) : Bool :=
  (s.rd 0x3A00 4).testBit 3 && (s.ms.mode == .indigo || (match s.ms.trans with
    | .descent target _ begun => begun && target == .indigo
    | _ => false))

/-- MATCHER_FRAME (R428, R437): a match can wake the device, or cancel its descent. -/
def execMatcherFrame (t : Nat) (energies scores : List Nat) (energy : Nat) (s : State) :
    Host.Outcome State Fault Refusal :=
  let r := (s.clock t).matcherFrame energies scores energy
  .next (if r.2 && r.1.matchWakes then r.1.wake .acoustic else r.1)

/-! ## The chain -/

/-- The chain flows and AES67 flows that may start do (R388, R397): a node has joined, slots or an edge port have come, or the cause of
a FAULT has ended. [DEDUCED, log 42] -/
def State.startFlows (s : State) : State := (chainFlows ++ (List.range 16).map Func.aes).foldl State.tryStart s

/-- SHARE (R371): a request at the head, or its answer at the node. -/
def execShare (t : Nat) (msg : ShareMsg) (s : State) : Host.Outcome State Fault Refusal :=
  let s := s.clock t
  match msg with
  | .request u k => .next (if s.net.st = 4 then s.answerShare u k else s)
  | .grant u k free => .next (if u = uid ∧ s.net.st = 3 then (s.granted371 k free).startFlows else s.wr 0x4003 5 free)
  | .refuse u free => .next (if u = uid ∧ s.net.st = 3 then (s.wr 0x4003 3 2).wr 0x4003 5 free else s)

/-- LINK_UP (R365). -/
def execLinkUp (t : Nat) (port : ChPort) (s : State) : Host.Outcome State Fault Refusal :=
  let s := s.clock t
  if s.pdOn 11 && s.portMode port != 0 && !(s.port port).up then
    let s := s.setPort port { PortSt.down with st := if s.rd (portIndex port) 3 = 2 then 4 else 2, up := true,
                                               upAt := s.now }
    .next (s.askMux (rxMux port) 8).startFlows
  else .next s

/-- EDGE_TIMEOUT (R365). -/
def execEdgeTimeout (t : Nat) (port : ChPort) (s : State) : Host.Outcome State Fault Refusal :=
  let s := s.clock t
  let x := s.port port
  if x.up && x.helloAt.isNone && s.rd (portIndex port) 3 == 0 && decide (x.upAt + 1000000000 ≤ s.now) then
    .next (s.setPort port { x with st := 4 }).startFlows
  else .next s

/-- HEAD_ELECTION (R373). -/
def execHeadElection (t : Nat) (s : State) : Host.Outcome State Fault Refusal :=
  let s := s.clock t
  match s.net.claimAt with
  | some a =>
    if s.net.st = 1 ∧ a + 50000000 ≤ s.now then
      match s.net.best with
      | some b => .next (if b.1 = uid then s.becomeHead.startFlows else s.mapNet fun n => { n with claimAt := none, best := none })
      | none => .next ((s.setFlag 2 true).mapNet fun n => { n with claimAt := none })
    else .next s
  | none => .next s

/-- TOPOLOGY (R374). -/
def execTopology (t : Nat) (port : ChPort) (msg : TopoMsg) (s : State) : Host.Outcome State Fault Refusal :=
  let s := s.clock t
  if s.chainLink port then .next (s.takeTopology port msg).startFlows else .next s

/-- CHAIN_JOIN (R375, R380): the offset has stayed within ±500 ns for 1 s. [DEDUCED, log 77] -/
def execChainJoin (t : Nat) (s : State) : Host.Outcome State Fault Refusal :=
  let s := s.clock t
  let waits := !s.net.flags.testBit 0 || s.net.st == 2 || s.chainLinks.any fun p => (s.port p).st == 2
  if (s.net.st = 2 ∨ s.net.st = 3) ∧ s.net.node ≠ 0xFFFF ∧ waits ∧ s.net.csAt ≠ 0 ∧ !s.net.flags.testBit 1 ∧
      -500 ≤ s.net.offset ∧ s.net.offset ≤ 500 ∧ s.net.goodSince + 1000000000 ≤ s.now then .next s.joined.startFlows
  else .next s

/-- CYCLE_START (R379): it is forwarded, steers the node and opens its cycle. -/
def execCycleStart (t : Nat) (port : ChPort) (f : CycleStartFrame) (s : State) : Host.Outcome State Fault Refusal :=
  let s := s.clock t
  if !s.chainLink port || f.hdr.version != 1 || (f.hdr.srcNode == s.net.node && s.net.node != 0xFFFF) then .next s
  else
    let s := s.forwardCs port f
    if s.net.st = 4 ∨ s.net.st = 5 ∨ s.net.st = 0 then .next s
    else if f.time / 125000 = s.net.cycle ∧ s.net.csAt ≠ 0 then .next s
    else
      let s := if s.net.st = 1 then s.mapNet fun n => { n with st := 2, headId := f.headId, claimAt := none, best := none } else s
      .next (((s.takeCs port f).sendAudio).tellChange).startFlows

/-- CYCLE_START_SEND (R370): the head opens a cycle. -/
def execCycleStartSend (t : Nat) (s : State) : Host.Outcome State Fault Refusal :=
  let s := s.clock t
  let n := s.ptp / 125000
  if s.net.st = 4 ∧ s.net.cycle ≠ n then
    let s := s.mapNet fun x => { x with cycle := n, csAt := s.now }
    let f : CycleStartFrame :=
      { hdr := s.header 1 n 0xFFFF 0 false, time := n * 125000, correction := 0, presentation := s.net.presentation,
        nodes := s.net.nodes, topology := s.net.topology, rate := s.chainRate, headId := uid }
    .next (s.chainLinks.foldl (fun s p => s.send (.cycleStart p { f with hdr := s.header 1 n 0xFFFF 0 (p == .chb) })) s).sendAudio.tellChange
  else .next s

/-! ## Memory -/

/-- MEM_READY (R495): training is complete, and the classes start. -/
def execMemReady (t sizeMiB ranks : Nat) (s : State) : Host.Outcome State Fault Refusal :=
  let s := s.clock t
  if s.mem.training && memSizes.contains sizeMiB && (ranks == 1 || ranks == 2) && s.memPowered &&
      decide (s.mem.attemptAt + trainTime sizeMiB ≤ s.now) then
    .next (s.memUp sizeMiB ranks).startAll
  else .next s

end Sys2Proof.Machine
end

