-- ==== Sys2Proof/Machine/Supervision.lean ====
section
/-!
DEFINITION. The supervision of the supplies and of the temperature (03_modes_power.md, R107, R108), and what it does with the valid
results of the housekeeping converter (15_housekeeping.md, R456, R458).
-/

set_option autoImplicit false

namespace Sys2Proof.Machine

/-! ## Rails -/

/-- The bit of a rail in `SUPPLY_FLAGS`, in the order of the table of R107. -/
def railBit (r : Rail) : Nat :=
  match r with
  | .avdd33 => 0 | .avddHv => 1 | .avdd18 => 2 | .vcore => 3 | .vserdes => 4 | .vdd2 => 5 | .vddioA => 6 | .vddioB => 7
  | .vddioC => 8 | .vddioD => 9

/-- The PWM outputs stop at their safe level, without ramp, and read FAULT (R107). -/
def State.faultPwm (s : State) : State :=
  (List.range 16).foldl (fun s j =>
    let n := j + 1
    let x := s.phase (.pwm n)
    if x = .off ∨ x = .quiesced ∨ x = .fault then s
    else (s.setPwm n { PwmCh.reset with clipAt := (s.pwm n).clipAt }).faultFn (.pwm n)) s

/-- The PWM outputs that VDDIO_D stopped restart, or read QUIESCED where they are not wanted (R107). -/
def State.recoverPwm (s : State) : State :=
  (List.range 16).foldl (fun s j =>
    let f := Func.pwm (j + 1)
    if s.phase f = .fault then (s.setFn f { s.fn f with phase := .quiesced }).tryStart f else s) s

/-- A rail is beyond its limit (R94, R107). -/
def State.trip (s : State) (r : Rail) : State :=
  if s.ms.low.contains r then s
  else
    let s := (s.mapMs fun m => { m with low := r :: m.low }).wrBit 0x2005 1 (railBit r) true
    match r with
    | .avdd33 => s
    | .avddHv => s.settleCauses
    | .avdd18 =>
      let s := s.settleCauses
      { s with clk := { s.clk with amp := false } }.refreshCko
    | .vcore => ((s.mapMs fun m => { m with ctlHeld := true }).settleCauses).gateFabric
    | .vserdes => (s.event 0x07 0x2005).switchOff 11
    | .vdd2 => ((s.event 0x08 0x2005).memFault .supply).switchOff 10
    | .vddioA => (s.event 0x09 0x2005).faultBank .vddioA
    | .vddioB => (s.event 0x09 0x2005).faultBank .vddioB
    | .vddioC => (s.event 0x09 0x2005).settleCauses
    | .vddioD => (s.event 0x09 0x2005).faultPwm

/-- A rail is within its limit again (R95, R107). -/
def State.untrip (s : State) (r : Rail) : State :=
  if !s.ms.low.contains r || r == .avdd33 then s
  else
    let s := s.mapMs fun m => { m with low := m.low.filter fun x => x != r }
    match r with
    | .vcore => ((s.mapMs fun m => { m with ctlHeld := false }).settleCauses).flushLate.resume
    | .vserdes => if s.wantedDomains.contains 11 && s.pdOn 3 then s.requestDomain 11 else s
    | .vdd2 => (if s.wantedDomains.contains 10 && s.pdOn 3 then s.requestDomain 10 else s).memEase .supply
    | .vddioA => s.recoverBank .vddioA
    | .vddioB => s.recoverBank .vddioB
    | .vddioC => (s.mapMs fun m => { m with ioRearm := s.now + 10000000 }).settleCauses
    | .vddioD => s.recoverPwm.startAll
    | _ => s.settleCauses

/-- A rail is beyond its limit, AVDD33 among them (R107). -/
def State.tripAny (s : State) (r : Rail) : State := if r = .avdd33 then s.loseAvdd33 else s.trip r

/-- SUPPLY_CLEAR (R107); the rise of AVDD33 is POWER_ON. -/
def execSupplyClear (t : Nat) (rail : Rail) (s : State) : Host.Outcome State Fault Refusal := .next ((s.clock t).untrip rail)

/-! ## The shadow table -/

/-- A rail watched through the shadow table (R107): it trips outside ±10 % of its nominal level and clears within ±8 %. [DESIGN CHOICE, log 11] -/
def State.judge (s : State) (r : Rail) (nominal : Rat) (v : Option Rat) : State :=
  match v with
  | none => s
  | some x =>
    let d := if nominal ≤ x then x - nominal else nominal - x
    if nominal / 10 < d then s.trip r else if d ≤ nominal * 8 / 100 then s.untrip r else s

/-- The level sampled for a bank (R538). -/
def State.bankLevel (s : State) (n : Nat) : Rat := if s.rdBit 0x2006 1 n then 33 / 10 else 18 / 10

/-- The junction temperature in units of 2^-14 °C: the highest of the four sensors (R108, R444). -/
def State.junction (s : State) : Option Int :=
  ([10, 11, 12, 13].filterMap s.hkCode).foldl (fun m x => match m with
    | none => some x
    | some y => some (max x y)) none

/-- The temperature supervision (R108). -/
def State.judgeHeat (s : State) : State :=
  match s.junction with
  | none => s
  | some x =>
    let s := s.wr 0x2005 2 (unsigned 2 (roundRat ((x : Rat) * 10 / 16384)))
    let limit : Int := (if Config.gradeI then 125 else 105) * 16384
    let k : Int := 16384
    let warn := decide (limit - 10 * k ≤ x)
    let s := if warn && !s.ms.thermalWarn then s.event 0x06 0x2005 else s
    let s := s.mapMs fun m => { m with thermalWarn := warn }
    if !s.ms.thermal && decide (limit + 5 * k ≤ x) then
      let s := (s.mapMs fun m => { m with thermal := true }).settleCauses
      if s.ms.mode = .crimson then
        (s.mapAvs fun a => { a with evaluating := false }).avsRequest (s.rd 0x2004 3)
      else s
    else if s.ms.thermal && decide (x < limit - 15 * k) then
      (s.mapMs fun m => { m with thermal := false }).settleCauses
    else s

/-- What the supervision does with a valid result of channel `ch`, of a conversion started at `at_` (R458). -/
def State.supervise (s : State) (ch at_ : Nat) : State :=
  match ch with
  | 2 => s.hvMeasured
  | 5 => match s.volts 5 1 with
    | some v => s.avsMeasured (roundRat (v * 1000)).toNat at_
    | none => s
  | 6 => s.judge .vserdes (9 / 10) (s.volts 6 1)
  | 7 => s.judge .vdd2 (11 / 10) (s.volts 7 2)
  | 8 => s.judge .vddioA (s.bankLevel 0) (s.volts 8 4)
  | 9 => s.judge .vddioB (s.bankLevel 1) (s.volts 9 4)
  | 10 => s.judgeHeat
  | 11 => s.judgeHeat
  | 12 => s.judgeHeat
  | 13 => s.judgeHeat
  | _ => s

/-- Slice `slice` has its code (R456, R458). -/
def State.conversionDone (s : State) (slice : Nat) (code : Int) : State :=
  match s.slice slice with
  | none => s
  | some c =>
    if c.at_ + c.len ≤ s.now then
      let s := s.finishConv slice c code
      if c.invalid then s else s.supervise c.ch c.at_
    else s

end Sys2Proof.Machine
end

