-- ==== Sys2Proof/Machine/Diag.lean ====
section
/-!
DEFINITION. Event counters, snapshots and the self-test (18_diagnostics.md): the event table, a counter's source, the ways a
snapshot is taken, and the run of the selected tests.
-/

set_option autoImplicit false

namespace Sys2Proof.Machine

/-! ## Event counters -/

/-- The indices at which a function can be stopped by force: the raising indices of QUIESCE_FORCED (R514). -/
def functionIndex (i : Nat) : Bool :=
  between 0x3001 0x3030 i || between 0x3101 0x3130 i || between 0x3201 0x3202 i || between 0x3210 0x321F i ||
    between 0x3301 0x3310 i || between 0x3420 0x342F i || between 0x3450 0x345F i || between 0x3500 0x35FF i ||
    between 0x3600 0x367F i || between 0x3A10 0x3A17 i || i == 0x3A00 || i == 0x3B00 || between 0x3B25 0x3B26 i ||
    between 0x3B43 0x3B44 i || between 0x3B53 0x3B54 i || between 0x4010 0x404F i || between 0x2104 0x2106 i ||
    between 0x2120 0x2123 i || between 0x2010 0x201B i || i == 0x2200 || i == 0x2460

/-- Whether the event with a code is present and has `i` as a raising index (R514): of the outputs row and the host row, the kinds of
output and the bus that raise it. [DEDUCED, log 74] -/
def raises (code i : Nat) : Bool :=
  if code = 3 then functionIndex i
  else if code = 4 ∨ code = 5 then between 0x2011 0x201B i
  else if 6 ≤ code ∧ code ≤ 9 then i == 0x2005
  else if code = 0x0A ∨ code = 0x0B then i == 0x2004
  else if code = 0x0C then i == 0x1F00
  else if code = 0x0D then i == 0x2460
  else if code = 1 ∨ code = 2 then i == 0x2000
  else if 0x20 ≤ code ∧ code ≤ 0x22 then i == 0x2100
  else if 0x23 ≤ code ∧ code ≤ 0x25 then between 0x2110 0x211F i || between 0x3301 0x3310 i
  else if 0x26 ≤ code ∧ code ≤ 0x27 then between 0x2104 0x2106 i
  else if 0x28 ≤ code ∧ code ≤ 0x29 then between 0x2108 0x2109 i
  else if code = 0x33 then i == 0x3001 || i == 0x3009 || i == 0x3011 || i == 0x3019 || i == 0x3021 || i == 0x3029
  else if 0x30 ≤ code ∧ code ≤ 0x34 then between 0x3001 0x3030 i
  else if 0x40 ≤ code ∧ code ≤ 0x41 then between 0x3600 0x367F i
  else if 0x42 ≤ code ∧ code ≤ 0x43 then between 0x3500 0x35FF i
  else if code = 0x44 then i == 0x3401
  else if 0x50 ≤ code ∧ code ≤ 0x52 then between 0x3101 0x3130 i || between 0x3201 0x3202 i
  else if code = 0x53 then between 0x3101 0x3130 i
  else if 0x54 ≤ code ∧ code ≤ 0x56 then between 0x3201 0x3202 i
  else if code = 0x57 then between 0x3210 0x321F i
  else if 0x60 ≤ code ∧ code ≤ 0x62 then between 0x3301 0x3310 i
  else if 0x63 ≤ code ∧ code ≤ 0x64 then between 0x3830 0x3837 i
  else if 0x70 ≤ code ∧ code ≤ 0x71 then between 0x4001 0x4002 i
  else if 0x72 ≤ code ∧ code ≤ 0x74 then i == 0x4000
  else if 0x75 ≤ code ∧ code ≤ 0x76 then between 0x4020 0x403F i
  else if 0x80 ≤ code ∧ code ≤ 0x89 then i == 0x4100 || between 0x4110 0x411F i
  else if 0x90 ≤ code ∧ code ≤ 0x93 then i == 0x3A00
  else if 0xA0 ≤ code ∧ code ≤ 0xA3 then i == 0x2200
  else if 0xB0 ≤ code ∧ code ≤ 0xB4 then i == 0x2300
  else if code = 0xB8 then i == 0x2302
  else if 0xB5 ≤ code ∧ code ≤ 0xB7 then i == 0x2300 || i == 0x2301
  else if 0xC0 ≤ code ∧ code ≤ 0xC2 then i == 0x3B00
  else if code = 0xC3 then i == 0x3B20
  else false

/-- Whether the event with a code is present (R514). -/
def eventPresent (code : Nat) : Bool :=
  between 1 0x0D code || between 0x20 0x29 code || between 0x30 0x34 code || between 0x40 0x44 code ||
    between 0x50 0x57 code || between 0x60 0x64 code || between 0x70 0x76 code || between 0x80 0x89 code ||
    between 0x90 0x93 code || between 0xA0 0xA3 code || between 0xB0 0xB8 code || between 0xC0 0xC3 code

/-- Whether `v` is a `SOURCE` that R515 allows; code 00h is an unused counter. [DEDUCED, log 74] -/
def counterSourceOk (v : Nat) : Bool :=
  let code := v / 0x10000
  code == 0 || (eventPresent code && (v % 0x10000 == 0xFFFF || raises code (v % 0x10000)))

/-- Counter `n` is claimed for a source and starts from 0 (R516). -/
def State.claimCounter (s : State) (n v : Nat) : State := s.setCounter n { s.counter n with source := v, count := 0 }

/-- Counter `n` is cleared (R515, R516). -/
def State.clearCounter (s : State) (n : Nat) : State := s.setCounter n { s.counter n with count := 0 }

/-- `COUNTERS_USED` (R518). -/
def State.countersUsed (s : State) : Nat := (s.counters.filter fun x => x.2.source / 0x10000 != 0).length

/-! ## Snapshots -/

/-- A snapshot is taken (R519): every `COUNT` is copied to `SNAP`, with the tag, the time and the status of the take. [DEDUCED, log 76] -/
def State.takeSnap (s : State) (tag : Nat) (chain late : Bool) : State :=
  let s := { s with counters := s.counters.map fun (x : Nat × Counter) => (x.1, { x.2 with snap := x.2.count }) }
  ((s.wr 0x2400 5 tag).wr 0x2400 6 s.ptp).wr 0x2400 7 (bit chain 3 + bit (!s.timeSynced) 2 + bit late 1)

/-- A snapshot is armed (R519, R520), or taken at once with LATE if its time has passed. [DEDUCED, log 76] -/
def State.armSnap (s : State) (at_ tag : Nat) (chain : Bool) : State :=
  if at_ < s.ptp then { s with snap := none }.takeSnap tag chain true
  else { s with snap := some { at_ := at_, tag := tag, chain := chain, late := false } }

/-- A write of 01h to `SNAP_CHAIN` (R520). [DEDUCED, log 76] -/
def State.snapChain (s : State) : State :=
  let s := if s.inChain then s.send (.snapshot (s.rd 0x2400 2) (s.rd 0x2400 3)) else s
  s.armSnap (s.rd 0x2400 2) (s.rd 0x2400 3) false

/-- The computed subs of 2400h (R521). -/
def State.read2400 (s : State) (sub : Nat) : Nat :=
  match sub with
  | 7 => s.rd 0x2400 7 + bit s.snap.isSome 0
  | 8 => s.countersUsed
  | _ => s.rd 0x2400 sub

/-- The computed subs of counter `n` (R515). -/
def State.readCounter (s : State) (n sub : Nat) : Nat :=
  match sub with
  | 1 => (s.counter n).source
  | 2 => (s.counter n).count
  | 3 => (s.counter n).snap
  | _ => s.rd (0x2410 + n) sub

/-- SNAPSHOT (R520): a frame arms the same snapshot on a node whose PD_CHAIN is on. -/
def execSnapshot (t snapAt tag : Nat) (s : State) : Host.Outcome State Fault Refusal :=
  let s := s.clock t
  if s.pdOn 11 then .next (s.armSnap (snapAt % 2 ^ 64) (tag % 2 ^ 32) true) else .next s

/-- SNAP_AT_REACHED (R519): the local PTP time has reached the time of the armed snapshot. [DEDUCED, log 76] -/
def execSnapAtReached (t : Nat) (s : State) : Host.Outcome State Fault Refusal :=
  let s := s.clock t
  match s.snap with
  | some x => if x.at_ ≤ s.ptp then .next ({ s with snap := none }.takeSnap x.tag x.chain x.late) else .next s
  | none => .next s

/-! ## Self-test -/

/-- What the start of a test does (R524): test 5 takes the node out of its chain. [DEDUCED, log 75] -/
def State.enterTest (s : State) : State :=
  match s.test.left with
  | 5 :: _ => (((s.dropLink .cha).dropLink .chb).leaveChain).mapNet fun n => { n with st := 0, claimAt := none, best := none }
  | _ => s

/-- The selection ends (R524, R525): the functions restart, and with `TEST_RETURN` 01h the device moves to TEAL. [DEDUCED, log 75] -/
def State.endTests (s : State) : State :=
  let s := { s.setFn .selftest { FuncState.off with phase := .quiesced } with test := .idle }
  if s.rd 0x2460 4 = 1 then ((s.wr 0x2000 2 4).beginLeave).startAll else s.startAll.refreshCko

/-- A write of 01h to `TEST_RUN` (R525): every running function is disabled, and the selected tests wait for that. [DEDUCED, log 75] -/
def State.runTests (s : State) : State :=
  let l := (List.range 9).filter fun t => (s.rd 0x2460 2).testBit t
  if l.isEmpty then s.endTests
  else
    let s := { s with test := { left := l, waiting := true, stopping := false } }
    (s.disableAll testStops).enterTest

/-- `TEST_NOW` and the other subs of 2460h (R527). -/
def State.read2460 (s : State) (sub : Nat) : Nat :=
  match sub with
  | 1 => s.stateByte .selftest
  | 5 => match s.test.left with
    | t :: _ => if s.testing && s.testQuiet then t else 0xFF
    | [] => 0xFF
  | _ => s.rd 0x2460 sub

/-- TEST_ITEM_COMPLETE (R524, R527): the running test ends with its result, whose reserved bits are 0; one
that passes has no failing item, and a failed one is an event. [DEDUCED, log 75] -/
def execTestItemComplete (t result : Nat) (s : State) : Host.Outcome State Fault Refusal :=
  let s := s.clock t
  match s.test.left with
  | n :: rest =>
    if s.testing && s.testQuiet && (bits result 31 30 == 1 || bits result 31 30 == 2) then
      let s := s.wr 0x2461 (n + 1) (if bits result 31 30 = 1 then 0x4000FFFF else result % 2 ^ 24 + 2 * 2 ^ 30)
      let s := { s with test := { s.test with left := rest, waiting := false } }
      let s := if bits result 31 30 = 2 then s.event 0x0D 0x2460 else s
      .next (if rest.isEmpty then s.endTests else s.enterTest)
    else .next s
  | [] => .next s

end Sys2Proof.Machine
end

