-- ==== Sys2Proof/Machine/Dictionary.lean ====
section
/-!
DEFINITION. Reading the object dictionary (02_dictionary_journal.md, R46 to R58, R71 to R80): range rows and rights, the journal's
bytes and cursors, the DOMAIN block in force, and the value of every readable sub.
-/

set_option autoImplicit false

namespace Sys2Proof.Machine

/-! ## Rows and rights -/

/-- The range row of an index (R47); 22 for an index outside every row. -/
def rangeRow (i : Nat) : Nat :=
  if between 0x1000 0x10FF i then 0 else if between 0x1100 0x11FF i then 1 else if between 0x1F00 0x1F0F i then 2
  else if between 0x2000 0x20FF i then 3 else if between 0x2100 0x21FF i then 4 else if between 0x2200 0x22FF i then 5
  else if between 0x2300 0x23FF i then 6 else if between 0x2400 0x24FF i then 7 else if between 0x3001 0x3030 i then 8
  else if between 0x3101 0x3130 i then 9 else if between 0x3200 0x32FF i then 10 else if between 0x3301 0x3310 i then 11
  else if between 0x3400 0x34FF i then 12 else if between 0x3500 0x35FF i then 13 else if between 0x3600 0x367F i then 14
  else if between 0x3800 0x38FF i then 15 else if between 0x3900 0x39FF i then 16 else if between 0x3A00 0x3AFF i then 17
  else if between 0x3B00 0x3BFF i then 18 else if between 0x4000 0x40FF i then 19 else if between 0x4100 0x41FF i then 20
  else if between 0x5000 0x5FFF i then 21 else 22

/-- The mask of an origin, for writes or for reads (R51, R52). -/
def Rights.mask (r : Rights) (w : Requester) (write : Bool) : BitVec 32 :=
  match w with
  | .internal => BitVec.allOnes 32
  | .chain _ => if write then r.chainWrite else r.chainRead
  | .twb0 => if write then r.twb0Write else r.twb0Read
  | .hspi => if write then r.hspiWrite else r.hspiRead

/-- Whether a requester may access index `i` (R51). -/
def State.mayAccess (s : State) (w : Requester) (write : Bool) (i : Nat) : Bool :=
  (s.rights.mask w write).getLsbD (rangeRow i)

/-- A sub of 1020h (R52). [DEDUCED, log 19] -/
def Rights.get (r : Rights) (sub : Nat) : Nat :=
  match sub with
  | 1 => r.chainWrite.toNat | 2 => r.twb0Write.toNat | 3 => r.hspiWrite.toNat
  | 4 => r.chainRead.toNat | 5 => r.twb0Read.toNat | 6 => r.hspiRead.toNat
  | 7 => bit r.lock 0
  | _ => 7

/-- A written sub of 1020h (R51, R52): bits 31:22 of a mask read as 0, and bits 0 and 2 of a read mask are fixed at 1. [DEDUCED, log 19] -/
def Rights.set (r : Rights) (sub v : Nat) : Rights :=
  let m : BitVec 32 := BitVec.ofNat 32 (v % 2 ^ 22)
  let n : BitVec 32 := m ||| 5
  match sub with
  | 1 => { r with chainWrite := m } | 2 => { r with twb0Write := m } | 3 => { r with hspiWrite := m }
  | 4 => { r with chainRead := n } | 5 => { r with twb0Read := n } | 6 => { r with hspiRead := n }
  | 7 => { r with lock := v == 1 }
  | _ => r

/-! ## The journal -/

/-- The code of an entry's kind (R74). -/
def EntryKind.code : EntryKind → Nat
  | .write => 0 | .stage => 1 | .commit => 2 | .discard => 3 | .system => 4

/-- Bytes 0 to 27 of an entry (R74). -/
def Entry.head (e : Entry) : List Byte :=
  leBytes 4 e.seq ++ leBytes 1 (e.kind.code * 16 + e.origin) ++ leBytes 1 e.status ++ leBytes 2 e.node ++ leBytes 8 e.time ++
    leBytes 2 e.index ++ leBytes 1 e.sub ++ leBytes 1 (bit e.synced 7 + bit e.hashed 6) ++ leBytes 8 e.value

/-- The 32 bytes of an entry, with its CHECK (R74). -/
def Entry.bytes (e : Entry) : List Byte := e.head ++ leBytes 4 (crc32 e.head)

/-- `HEAD_SEQ` + 1 (R79). -/
def Journal.nextSeq (j : Journal) : Nat := (j.head + 1) % 2 ^ 32

/-- `OLDEST_ONCHIP` (R79): the next sequence number while the ring is empty. -/
def Journal.oldestOnChip (j : Journal) : Nat := (j.nextSeq + 2 ^ 32 - j.ring.length) % 2 ^ 32

/-- `OLDEST_MIRROR` (R79): how far the mirror continues the on-chip ring without a gap. -/
def Journal.oldest (j : Journal) : Nat :=
  if !j.mirrorOn || j.mirrorNext != j.nextSeq then j.oldestOnChip
  else j.mirror.foldl (fun o e => if (e.seq + 1) % 2 ^ 32 = o then e.seq else o) j.oldestOnChip

/-- `MIRROR_STATE` (R77, R79). -/
def Journal.mirrorState (j : Journal) : Nat :=
  if !j.mirrorOn then 0
  else if j.mirrorNext != j.nextSeq then 1
  else match j.mirrorGap with
    | some g => if (j.nextSeq + 2 ^ 32 - g) % 2 ^ 32 < 65536 then 3 else 2
    | none => 2

/-- The entry with a sequence number, on chip or in the mirror. -/
def Journal.find (j : Journal) (seq : Nat) : Option Entry :=
  match j.ring.find? fun e => e.seq == seq with
  | some e => some e
  | none => if j.mirrorOn then j.mirror.find? fun e => e.seq == seq else none

/-- The entries that a read of `n` from a cursor returns (R80). -/
def Journal.take (j : Journal) (cursor n : Nat) : List Entry :=
  let avail := (j.nextSeq + 2 ^ 32 - cursor) % 2 ^ 32
  (List.range (min n avail)).filterMap fun k => j.find ((cursor + k) % 2 ^ 32)

/-- A requester's `READ_FROM` (R79). -/
def State.readFrom (s : State) (w : Requester) : Nat := (s.req w).cursor.getD s.journal.nextSeq

/-- The computed subs of 1F00h (R79). -/
def State.read1F00 (s : State) (w : Requester) (sub : Nat) : Nat :=
  match sub with
  | 1 => s.journal.head
  | 2 => s.journal.epoch
  | 3 => s.journal.oldestOnChip
  | 4 => s.journal.oldest
  | 5 => s.journal.mirrorState
  | 7 => s.readFrom w
  | 9 => s.journal.pushAcked
  | _ => s.rd 0x1F00 sub

/-- The computed subs of 1010h, for the requester that reads (R71, R72). -/
def State.read1010 (s : State) (w : Requester) (sub : Nat) : Nat :=
  let x := s.req w
  match sub with
  | 2 => x.staged.length
  | 3 => x.lastStatus
  | 4 => x.lastSeq
  | 5 => x.applied0
  | 6 => x.applied1
  | 7 => x.applied2
  | 8 => x.appliedMask + bit (s.parts.any fun p => p.tracked && p.who == w && p.seq == x.commitId) 7
  | 9 => x.commitAt
  | 0x0A => x.stageTimeout
  | _ => s.rd 0x1010 sub

/-! ## DOMAIN blocks -/

/-- The capture window that a requester has selected (R507). -/
def State.window (s : State) (w : Requester) (i : Nat) : Nat := look 0 (s.req w).windows i

/-- The block in force at a DOMAIN index (R58, R252, R486, R507): of a capture channel, what is recorded in the window. -/
def State.blockInForce (s : State) (w : Requester) (i : Nat) : List Byte :=
  if isWindow i then
    let c := i - 0x5200
    let base := s.window w i * 262144
    s.capBytes c base (min 262144 ((s.cap c).length - base))
  else if i < 0x5080 then s.laneRecipe (i - 0x5000)
  else if i = 0x5F01 then s.boot.keyHash.getD []
  else s.block i

/-- The computed subs of a DOMAIN index (R58, R504, R507). -/
def State.readDomain (s : State) (w : Requester) (i sub : Nat) : Nat :=
  match sub with
  | 2 => if isWindow i then (s.cap (i - 0x5200)).length else (s.blockInForce w i).length
  | 3 => let l := s.blockInForce w i
         if l.isEmpty then 0 else crc32 l
  | 4 => s.window w i
  | _ => objDefault (key i sub)

/-! ## The host ports -/

/-- The attention word (R473): latched bits, and those that follow the state they report. -/
def State.attention (s : State) : Nat :=
  s.host.latched + bit (s.hk.result.testBit 28) 6 + bit (!s.hspi.out.isEmpty) 1 + bit (!s.twb0.out.isEmpty) 0

/-- Whether ATTN is driven low (R473, R490): never without PD_CORE0. -/
def State.attnLow (s : State) : Bool := s.pdOn 3 && ((s.attention &&& s.rd 0x2300 5) != 0 || s.boot.pushWait)

/-- Whether transactions execute and the host ports answer (R83, R94). [DEDUCED, log 73] -/
def State.hostUp (s : State) : Bool := s.pdOn 3 && s.ms.booted && !s.ms.ctlHeld

/-- The bits of the attention word that start a Host Notify (R474). -/
def State.notifyBits (s : State) : Nat := s.attention &&& s.rd 0x2300 4

/-- Whether a bit has set that no notify has carried yet (R474). -/
def State.notifyDue (s : State) : Bool := s.notifyBits != s.notifyBits &&& s.host.masked

/-- A bit of the attention word that has cleared may start a notify again (R474). -/
def State.settleNotify (s : State) : State :=
  { s with host := { s.host with masked := s.host.masked &&& s.attention } }

/-- The attention word is read (R473, R474): its latched bits clear, and notifies may be sent again. [DEDUCED, log 70] -/
def State.attnRead (s : State) : State :=
  ({ s with host := { s.host with latched := 0, notify := if s.host.notify = 3 then 0 else s.host.notify } }).settleNotify

/-- The computed subs of 2300h to 2303h (R491 to R493). -/
def State.readHost (s : State) (i sub : Nat) : Nat :=
  if i = 0x2300 ∧ sub = 1 then s.host.addr
  else if i = 0x2300 ∧ sub = 6 then s.attention
  else if i = 0x2300 ∧ sub = 0x0F then (if s.host.notify = 0 ∧ s.hostUp ∧ s.notifyDue then 1 else s.host.notify) + bit s.host.stuck0 2
  else if i = 0x2301 ∧ sub = 5 then
    s.rd i sub + bit s.host.stuck1 2 +
      bit (match s.host.arbAt with
        | some a => decide (s.now < a + 1000000000)
        | none => false) 1 +
      bit (s.avs.op.isSome && !s.avs.waiting) 0
  else if i = 0x2303 ∧ sub = 7 then
    s.rd i sub + bit s.boot.pushErr 4 + bit s.boot.noFlash 3 + bit s.boot.slot1Bad 2 + bit s.boot.slot0Bad 1 +
      bit s.boot.keyHash.isNone 0
  else s.rd i sub

/-! ## Functions and values -/

/-- The value of a readable sub of the control, power, clock and diagnostic indices, for a requester. -/
def State.readControl (s : State) (w : Requester) (i sub : Nat) : Nat :=
  if i = 0x1000 then (if sub = 5 then w.origin else s.rd i sub)
  else if i = 0x1010 then s.read1010 w sub
  else if i = 0x1020 then s.rights.get sub
  else if i = 0x1F00 then s.read1F00 w sub
  else if i = 0x2000 then s.read2000 sub
  else if i = 0x2002 then
    (if sub = 2 then unsigned 2 s.balance else if sub = 3 then s.gov.queue.length else s.rd i sub)
  else if i = 0x2100 then s.read2100 sub
  else if between 0x2104 0x2106 i then s.readSyn (i - 0x2104) sub
  else if between 0x2108 0x2109 i then s.readLoop (i - 0x2108) sub
  else if between 0x2110 0x211F i then s.readCd (i - 0x2110) sub
  else if i = 0x2200 then s.read2200 sub else if i = 0x2210 then s.readResult sub
  else if i = 0x2220 then s.readShadow sub
  else if between 0x2300 0x2303 i then s.readHost i sub
  else if i = 0x2400 then s.read2400 sub
  else if between 0x2410 0x244F i then s.readCounter (i - 0x2410) sub
  else if i = 0x2460 then s.read2460 sub
  else s.rd i sub

/-- The value of a readable sub of the data-plane indices. -/
def State.readPlane (s : State) (i sub : Nat) : Nat :=
  if between 0x3001 0x3030 i then s.readInput (i - 0x3000) sub
  else if between 0x3101 0x3130 i then
    (if sub = 2 ∨ sub = 0x12 ∨ sub = 0x13 then s.rd (pairIndex (i - 0x3100)) sub else s.readOutput (i - 0x3100) sub)
  else if i = 0x3200 then s.read3200 sub
  else if between 0x3201 0x3202 i then s.readHp (i - 0x3200) sub
  else if between 0x3210 0x321F i then s.readPwm (i - 0x320F) sub
  else if between 0x3301 0x3310 i then s.readSap (i - 0x3301) sub
  else if i = 0x3400 then s.read3400 sub else if i = 0x3401 then s.read3401 sub
  else if between 0x3430 0x343F i ∧ 1 ≤ sub then s.readPath ((i - 0x3430) * 128 + sub - 1)
  else if between 0x3500 0x35FF i then s.readBus (i - 0x3500) sub
  else if between 0x3600 0x367F i then s.readLane (i - 0x3600) sub
  else if i = 0x3800 then s.read3800 sub else if i = 0x3820 then s.read3820 sub
  else if between 0x3821 0x3828 i then s.readCluster (i - 0x3821) sub
  else if i = 0x3829 then s.read3829 sub
  else if between 0x3830 0x3837 i then s.readGroup (i - 0x3830) sub
  else if between 0x3910 0x3943 i ∧ 1 ≤ sub then s.readMeter i sub
  else if i = 0x3A00 then s.read3A00 sub else if i = 0x3A01 then s.read3A01 sub
  else if between 0x3A10 0x3A17 i then s.readReader (i - 0x3A10) sub
  else if between 0x3A20 0x3A27 i then s.readTemplate (i - 0x3A20) sub
  else if i = 0x3B00 then s.read3B00 sub else if i = 0x3B20 then s.read3B20 sub
  else if between 0x3B40 0x3B44 i ∨ between 0x3B50 0x3B54 i then s.readCapture i sub
  else if between 0x3B60 0x3B67 i then s.readTransport (i - 0x3B60) sub
  else if i = 0x4000 then s.read4000 sub else if i = 0x4001 then s.readPort .cha sub
  else if i = 0x4002 then s.readPort .chb sub else if i = 0x4003 then s.read4003 sub
  else if between 0x4010 0x401F i then s.readTx (i - 0x4010) sub
  else if between 0x4020 0x403F i then s.readRx (i - 0x4020) sub
  else if i = 0x4100 then s.read4100 sub else if i = 0x4101 then s.read4101 sub
  else if between 0x4110 0x411F i then s.readArb (i - 0x4110) sub
  else s.rd i sub

/-- The value that a sub reads as, for a requester. -/
def State.readVal (s : State) (w : Requester) (i sub : Nat) : Nat :=
  match stateFunc i sub with
  | some f => s.stateByte f
  | none => if 0x5000 ≤ i then s.readDomain w i sub else if i < 0x3000 then s.readControl w i sub else s.readPlane i sub

/-! ## Accesses to a gated block -/

/-- The function whose block holds the measured values of an index (R125). [DEDUCED, log 81] -/
def blockFunc (i sub : Nat) : Option Func :=
  if between 0x3430 0x343F i then some (.route ((i - 0x3430) * 128 + sub - 1))
  else if between 0x3301 0x3310 i ∧ (sub = 0x0F ∨ sub = 0x11 ∨ sub = 0x13 ∨ sub = 0x15 ∨ sub = 0x17 ∨ sub = 0x1B) then
    some (.sapRx (i - 0x3301))
  else if between 0x3910 0x392F i then srcFunc ((i - 0x3910) * 128 + sub - 1)
  else if i = 0x3930 then linkOutput (sub - 1)
  else if between 0x3940 0x3943 i then some (.lane ((i - 0x3940) * 32 + (sub - 1) / 4))
  else if i = 0x3A00 ∨ i = 0x2200 ∨ i = 0x2460 ∨ i = 0x3B00 ∨ i < 0x3000 then none
  else stateFunc i 1

/-- Whether the clock of a function's block has been gated by force and has not returned (R124, R125): the function was gated,
or another of its rate domain was while that domain issues no ticks. [DEDUCED, log 23, 81] -/
def State.blockGated (s : State) (f : Func) : Bool :=
  (s.fn f).gated ||
    (match s.fdom f with
     | some d => !(s.dom d).running && s.funcs.any fun x => x.2.gated && x.2.dom == d
     | none => false)

/-- The clock domain whose `ABORTED` counts an access to a function's block (R124). [DEDUCED, log 81] -/
def State.clockOf (s : State) (f : Func) : Nat :=
  match f with
  | .flowTx _ => 5 | .flowRx _ => 5 | .aes _ => 5 | .listen => 12 | .pwm _ => 7 | .scan => 11 | .mem => 6
  | .cap _ => 6 | .play _ => 6 | .delayLine _ => 6
  | .sapTx p => if cfgMaster (s.sapCfg p .tx) then s.familyCd (s.sapDomain p .tx) else 13
  | .sapRx p => if cfgMaster (s.sapCfg p .rx) then s.familyCd (s.sapDomain p .rx) else 13
  | _ => match s.fdom f with
    | some d => if s.domSyn d = .b then 4 else 3
    | none => 3

/-- Whether the receiver of a chain port runs from the local reference of SYN_S, and that is gated for a loss (R113, R124, R142). -/
def State.portGated (s : State) (port : ChPort) : Bool :=
  s.pdOn 11 && s.clk.synS.gatedAt != 0 && s.muxActive (rxMux port) == 6

/-- The clock domain whose forced gate makes an access to an index abort (R124); the memory interface is gated with SYN_S, and a port's
receiver with it while it runs from the local reference. The housekeeping converter and the listening path never are: no forced
gate stops RCO, LPO or the listening oscillator. [DEDUCED, log 81] -/
def State.gatedCd (s : State) (i sub : Nat) : Option Nat :=
  if i = 0x3B00 then (if s.mem.held.contains .clock then some 6 else none)
  else if i = 0x4001 then (if s.portGated .cha then some 8 else none)
  else if i = 0x4002 then (if s.portGated .chb then some 9 else none)
  else match blockFunc i sub with
    | some f => if s.blockGated f then some (s.clockOf f) else none
    | none => none

/-- Whether a readable sub comes from its block's own registers, not from the control processor (R125): every RO sub but `STATE`, and of
the memory interface and a chain port the counts and measurements. [DEDUCED, log 81] -/
def ownRegister (i sub : Nat) : Bool :=
  if i = 0x3B00 then sub == 9 || sub == 0x0A || sub == 0x0B
  else if i = 0x4001 ∨ i = 0x4002 then sub == 6 || sub == 8
  else (stateFunc i sub).isNone

/-- The clock domain that makes a read of a sub complete with ABORTED_GATED (R124, R125). [DEDUCED, log 23] -/
def State.gatedRead (s : State) (i sub : Nat) (r : Row) : Option Nat :=
  if r.acc = .ro ∧ ownRegister i sub then s.gatedCd i sub else none

/-- What a read leaves behind (R93, R107, R275, R456, R473): bits that a read clears, and held peaks. -/
def State.afterRead (s : State) (i sub : Nat) : State :=
  if i = 0x2000 ∧ sub = 4 then s.mapMs fun m => { m with seen := 0 }
  else if i = 0x2005 ∧ sub = 1 then s.wr 0x2005 1 0
  else if i = 0x2210 ∧ sub = 1 then s.clearFresh.settleNotify
  else if i = 0x2300 ∧ sub = 6 then s.attnRead
  else if between 0x3910 0x3943 i ∧ 1 ≤ sub then s.afterMeterRead i sub
  else s

end Sys2Proof.Machine
end

