-- ==== Sys2Proof/Machine/Checks.lean ====
section
/-!
DEFINITION. The checks of a write, a stage and a commit (02_dictionary.md, R31 to R34, R48, R49, R60, R63 to R67): what a
written object holds afterwards, the settings that a commit would leave in effect, and the first status that applies to them.
-/

set_option autoImplicit false

namespace Sys2Proof.Machine

/-! ## Items -/

/-- The write of a value to an index and sub; the pair settings of a line output are one object (R297). -/
def itemOf (i sub v : Nat) : WItem := { key := pairKey (key i sub), val := v, block := [], seq := 0 }

/-- Whether a write is of an action: a WO object, whose value is not kept (R49). -/
def WItem.action (x : WItem) : Bool :=
  match rowOf x.index x.sub with
  | some r => r.acc == .wo
  | none => true

/-- The subs that each requester has for itself (R71, R80, R507): `COMMIT`, `COMMIT_AT`, `STAGE_TIMEOUT`, `READ_FROM` and `WINDOW`. [DEDUCED, log 27] -/
def ownSub (i sub : Nat) : Bool :=
  (i == 0x1010 && (sub == 1 || sub == 9 || sub == 0x0A)) || (i == 0x1F00 && sub == 7) || (isDomain i && 3 < sub)

/-- Whether a write is of a per-requester sub. -/
def WItem.own (x : WItem) : Bool := ownSub x.index x.sub

/-- The value that an object takes from a write: fields that the device sets are left out (R48), and a noise generator keeps no
`FREQ` (R221). [DEDUCED, log 60] -/
def storedVal (i sub v : Nat) : Nat :=
  if i = 0x3B41 ∨ i = 0x3B42 ∨ i = 0x3B51 ∨ i = 0x3B52 then v - bits v 22 21 * 2 ^ 21
  else if between 0x3449 0x344F i ∧ sub = 2 then 0
  else v

/-- The dictionary with a write in force (R49, R52, R173, R516); a write of the present mode to `TARGET_MODE` has no effect
(R85). -/
def State.store (s : State) (x : WItem) : State :=
  let i := x.index
  let sub := x.sub
  if x.action || isDomain i || x.own then s
  else if i = 0x1020 then { s with rights := s.rights.set sub x.val }
  else if between 0x3001 0x3030 i ∧ sub = 0x0A then s.wr i sub (s.rd i sub - (s.rd i sub &&& x.val))
  else if between 0x2410 0x244F i then s.claimCounter (i - 0x2410) x.val
  else if i = 0x2000 ∧ sub = 2 ∧ x.val = s.ms.mode.code then s
  else s.wr i sub (storedVal i sub x.val)

/-- The subs of index `i` that a list of writes names. -/
def subsOf (l : List WItem) (i : Nat) : List Nat := (l.filter fun x => x.index == i).map WItem.sub

/-- The block that a list of writes closes at index `i`, the last one. -/
def blockOf (l : List WItem) (i : Nat) : Option (List Byte) := ((l.filter fun x => x.index == i).getLast?).map WItem.block

/-- The lanes that a list of writes gives a recipe, with it. -/
def newRecipes (l : List WItem) : List (Nat × List Byte) :=
  (List.range 128).filterMap fun n => (blockOf l (0x5000 + n)).map fun b => (n, b)

/-- The settings that a list of writes leaves in effect (R200): patches, then recipes, then values. -/
def State.overlay (s : State) (l : List WItem) : State :=
  let s := l.foldl (fun s x =>
    if between 0x5080 0x50FF x.index then
      match patchOf x.block with
      | some es => s.setBlock (x.index - 0x80) (patchRecipe (s.block (x.index - 0x80)) es)
      | none => s
    else s) s
  let s := (newRecipes l).foldl (fun s x => s.placeRecipe x.1 (subsOf l (0x3600 + x.1)) x.2) s
  l.foldl State.store s

/-- Every write of a commit that waits for a tick. -/
def State.pendingWrites (s : State) : List WItem := s.parts.flatMap Part.writes

/-! ## Mode -/

/-- Whether the device's mode, or a condition of the same kind, shuts out a write (R49, R85, R95, R120, R398, R489, R510,
R525). [DEDUCED, log 34] -/
def State.itemMode (s : State) (x : WItem) : Bool :=
  let i := x.index
  let sub := x.sub
  let m := s.ms.mode
  if i = 0x5F00 then m != .teal && m != .pearl
  else if i = 0x5F01 then m != .pearl
  else
    (match rowOf i sub with
     | some r => (match r.acc with
        | .rwm ms => !ms.contains m
        | _ => false)
     | none => false) ||
      (i == 0x2000 && sub == 2 && s.targetStatus x.val == 7) ||
      (x.val == 1 &&
        ((i == 0x2000 && sub == 6 && s.causes != 0) ||
         (match forceOf i sub with
          | some mux => !s.scopeSafe mux
          | none => false) ||
         (i == 0x2460 && sub == 3 && m != .pearl) || (i == 0x3B00 && sub == 0x0D && !s.retrainOk))) ||
      (i == 0x4000 && sub == 0x0D && !Mode.awake m)

/-! ## Range -/

/-- A `COMMIT_AT`, `SNAP_AT` or `START_AT` more than 10 s ahead (R66, R505, R519). [DEDUCED, log 36] -/
def State.tooFar (s : State) (v : Nat) : Bool := decide (s.ptp + 10000000000 < v)

/-- The values of an object that its own description shuts out beyond the range of its row. [DEDUCED, log 36, 60] -/
def State.itemBad (s : State) (i sub v : Nat) : Bool :=
  if between 0x2410 0x244F i ∧ sub = 1 then !counterSourceOk v
  else if i = 0x2200 ∧ (sub = 0x14 ∨ sub = 0x15) then !urgentOk v
  else if i = 0x2006 ∧ sub = 3 then (List.range 4).any fun b => bits v (2 * b + 1) (2 * b) == 3
  else if between 0x3410 0x341F i then
    !(v % 0x1000 == 0xFFF || sourcePresent (v % 0x1000)) || decide (200 < bits v 27 16)
  else if between 0x3500 0x35FF i ∧ 0x10 ≤ sub then !contribOk v
  else if between 0x3301 0x3310 i ∧ (sub = 5 ∨ sub = 6) then bits v 31 30 == 3 || bits v 27 26 == 3
  else if i = 0x3B41 ∨ i = 0x3B42 then bits v 27 26 == 3
  else if i = 0x3B21 ∨ i = 0x3B22 then bits v 29 28 == 3 || lineMax v == 0 || decide (2000 < lineMax v)
  else if (i = 0x2400 ∧ sub = 2) ∨ (between 0x3B60 0x3B67 i ∧ sub = 2) ∨ (i = 0x1010 ∧ sub = 9) then s.tooFar v
  else if between 0x3101 0x3130 i ∧ sub = 2 then v != 0 && s.hvTooLow
  else if i = 0x4100 ∧ sub = 6 then v != 0 && v == uid
  else false

/-- Whether the value of a write lies outside the object's range (R48). -/
def State.itemRange (s : State) (x : WItem) : Bool :=
  if isDomain x.index && !x.own then false
  else
    match rowOf x.index x.sub with
    | some r => (!r.rng.ok r.ty x.val && !(x.index == 0x2000 && x.sub == 2 && x.val == s.ms.mode.code)) || s.itemBad x.index x.sub x.val
    | none => false

/-- Whether the layout is one that R211 and R212 allow. -/
def State.layoutOk (s : State) : Bool :=
  (s.domCount != 1 || s.confRate 0 == 48000 || s.confRate 0 == 96000) &&
    (List.range 6).all (fun g => decide (s.inDom (8 * g + 1) < s.domCount) && decide (s.outDom (8 * g + 1) < s.domCount)) &&
    decide (s.hpwmDom < s.domCount) && decide (s.listenDom < s.domCount)

/-- Whether every capture and playback channel lies in a domain that the layout has (R213). -/
def State.capDomsOk (s : State) : Bool :=
  (List.range 256).all fun c =>
    decide (bits (s.capCfg c) 24 23 < s.domCount) && decide (bits (s.playCfg c) 24 23 < s.domCount)

/-- Whether a write of a `BLOCK_` sub suits the recipe that the commit leaves installed (R251). -/
def State.blockWordOk (s : State) (x : WItem) : Bool :=
  match (recipeOf (s.block (0x5000 + (x.index - 0x3600))))[x.sub - 0x10]? with
  | some b => liveOk b.ty b.size (x.val % 0x10000)
  | none => false

/-- The range checks of a commit that look at more than one object: `s'` are the settings that the commit leaves in effect over
those of `s`. [DEDUCED, log 37, 38] -/
def State.crossRange (s s' : State) (l : List WItem) : Bool :=
  let t (lo hi : Nat) : Bool := l.any fun x => between lo hi x.index
  let lay := t 0x3800 0x3800
  (lay && !s'.layoutOk) ||
  ((lay || t 0x3301 0x3310) && (List.range 16).any fun p =>
    (lay || t (0x3301 + p) (0x3301 + p)) && !(s'.sapOk p .tx && s'.sapOk p .rx)) ||
  ((lay || t 0x3830 0x3837 || t 0x3301 0x3310 || t 0x4000 0x404F || t 0x2108 0x2109) &&
    (List.range 8).any fun g => !s'.groupOk g) ||
  ((lay || t 0x4010 0x403F) &&
    ((List.range 16).any (fun f => (lay || t (0x4010 + f) (0x4010 + f)) && !s'.flowOk (.flowTx f)) ||
     (List.range 32).any (fun r => (lay || t (0x4020 + r) (0x4020 + r)) && !s'.flowOk (.flowRx r)))) ||
  ((lay || t 0x4010 0x404F) && !s'.aesOk) ||
  l.any (fun x => between 0x4040 0x404F x.index && x.sub == 4 && !s'.isEdge (if x.val = 1 then .cha else .chb)) ||
  ((lay || t 0x3450 0x345F || t 0x3101 0x3130) && (List.range 16).any fun n => !s'.linkOk n) ||
  ((lay || t 0x3B21 0x3B24 || t 0x3301 0x3310 || t 0x4010 0x401F || t 0x3B41 0x3B42) && (List.range 256).any fun d => !s'.lineOk d) ||
  ((lay || t 0x2117 0x2117) && !s'.pwmClockOk) ||
  ((lay || t 0x3B41 0x3B42 || t 0x3B51 0x3B52) && !(s'.capturesOk && s'.capDomsOk)) ||
  l.any (fun x => between 0x2108 0x2109 x.index && x.sub == 1 && !s'.leaderOk (x.index - 0x2108) x.val) ||
  (t 0x2120 0x2123 && (List.range 4).any fun n => t (0x2120 + n) (0x2120 + n) && !s'.ckoOk n) ||
  l.any (fun x => between 0x3A10 0x3A17 x.index && x.sub == 3 && !s'.readerOk (x.index - 0x3A10)) ||
  ((lay || t 0x3440 0x344F) && (List.range 16).any fun g =>
    (lay || t (0x3440 + g) (0x3440 + g)) && decide (s'.domCount ≤ s'.rd (0x3440 + g) 1)) ||
  ((lay || t 0x3440 0x344F) && (List.range 8).any fun g =>
    (lay || t (0x3441 + g) (0x3441 + g)) &&
      decide (100 * s'.confRate (s'.rd (0x3441 + g) 1) ≤ 2 * s'.rd (0x3441 + g) 2)) ||
  (t 0x2004 0x2004 && (decide (s'.rd 0x2004 2 < s'.rd 0x2004 3) || decide (s'.rd 0x2004 0x0A ≤ s'.rd 0x2004 9))) ||
  l.any (fun x => x.index == 0x4100 && x.sub == 6 && s'.arbiterIdBad x.val) ||
  ((lay || t 0x3500 0x35FF) && (List.range 256).any fun b =>
    (lay || t (0x3500 + b) (0x3500 + b)) && decide (s'.domCount ≤ s'.rd (0x3500 + b) 3)) ||
  l.any (fun x => between 0x3600 0x367F x.index && decide (0x10 ≤ x.sub) && !s'.blockWordOk x) ||
  ((lay || t 0x3600 0x367F || t 0x5000 0x507F || t 0x2004 0x2004) && (s.fabricCheck s' (newRecipes l) (t 0x2004 0x2004 && !(subsOf l 0x2004).all fun n => n != 2)).2)

/-! ## Conflicts and waits -/

/-- Whether a requester holds an object in its staging set. -/
def ReqState.holds (x : ReqState) (k : Nat) : Bool := x.staged.any fun y => y.key == k

/-- Whether another requester than `w` holds the object with key `k` in its staging set (R64); a per-requester sub is each one's own. -/
def State.conflict (s : State) (w : Requester) (k : Nat) : Bool :=
  !ownSub (k / 256) (k % 256) && ((w != .internal && s.internal.holds k) || (w != .hspi && s.hspi.holds k) || (w != .twb0 && s.twb0.holds k) ||
    s.chain.any fun (x : Nat × ReqState) => w != .chain x.1 && x.2.holds k)

/-- The functions of which an object is a parameter (R67). The enable that R40 governs is none, nor are the actions; a route's word is
accepted at any time (R205), and the words that hold an enable beside other fields follow `wordBusy`. [DEDUCED, log 21] -/
def paramFuncs (i sub : Nat) : List Func :=
  if between 0x3001 0x3030 i then (if sub = 2 then [] else [.input (i - 0x3000)])
  else if between 0x3101 0x3130 i then
    (if sub = 3 then [] else if sub = 2 ∨ sub = 0x12 ∨ sub = 0x13 then [.output (i - 0x3100), .output (i - 0x3100 + 1)]
     else [.output (i - 0x3100)])
  else if between 0x3201 0x3202 i then (if sub = 2 then [] else [.hp (i - 0x3200)])
  else if between 0x3210 0x321F i then (if sub = 2 then [] else [.pwm (i - 0x320F)])
  else if between 0x3301 0x3310 i then
    (if sub = 5 ∨ sub = 7 ∨ sub = 9 ∨ sub = 0x0B then [.sapTx (i - 0x3301)]
     else if sub = 6 ∨ sub = 8 ∨ sub = 0x0A ∨ sub = 0x0C then [.sapRx (i - 0x3301)]
     else if sub = 0x0D then [.sapTx (i - 0x3301), .sapRx (i - 0x3301)] else [])
  else if between 0x3B23 0x3B24 i then [.delayLine ((i - 0x3B23) * 128 + sub - 1)]
  else if between 0x5000 0x507F i then [.lane (i - 0x5000)]
  else if between 0x5080 0x50FF i then [.lane (i - 0x5080)]
  else if between 0x2010 0x201B i then (if sub = 4 then [] else [.pd (i - 0x2010)])
  else if between 0x2120 0x2123 i ∨ i = 0x2200 ∨ i = 0x3A00 ∨ between 0x3450 0x345F i ∨ between 0x3500 0x35FF i ∨
      between 0x3600 0x367F i ∨ between 0x3A10 0x3A17 i ∨ between 0x4010 0x404F i then
    (if sub = 2 then [] else (stateFunc i 1).toList)
  else []

/-- Whether a function is DRAINING or RAMPING. -/
def State.stopping (s : State) (f : Func) : Bool := s.phase f == .draining || s.phase f == .ramping

/-- Whether a write changes another field than the enable of the word of a capture or playback channel or a delay line that stops
(R40, R67). [DEDUCED, log 21] -/
def State.wordBusy (s : State) (x : WItem) : Bool :=
  let i := x.index
  (between 0x3B21 0x3B22 i || between 0x3B41 0x3B42 i || between 0x3B51 0x3B52 i) && x.enable.any s.stopping &&
    storedVal i x.sub x.val % 2 ^ 31 != s.rd i x.sub % 2 ^ 31

/-- Whether a write has to wait (R67, R205, R268, R292, R349, R453, R525, R85): an earlier commit holds the object, its function
stops, or a crossfade, a mask change or a transition runs. [DEDUCED, log 21] -/
def State.itemBusy (s : State) (x : WItem) : Bool :=
  let i := x.index
  let sub := x.sub
  s.parts.any (fun p => p.keys.contains x.key) ||
    (!x.action && (paramFuncs i sub).any s.stopping) || s.wordBusy x ||
    (if between 0x3410 0x341F i then
      let r := s.route ((i - 0x3410) * 128 + sub - 1)
      r.xf.isSome && x.val % 0x1000 != r.src && !x.val.testBit 31
     else if between 0x3500 0x35FF i ∧ 0x10 ≤ sub then
      (s.fn (.bus (i - 0x3500))).active && (look .unused (s.bus (i - 0x3500)).contribs (sub - 0x10)).busy x.val
     else if between 0x3301 0x3310 i ∧ sub = 7 then s.maskPending (i - 0x3301) .tx
     else if between 0x3301 0x3310 i ∧ sub = 8 then s.maskPending (i - 0x3301) .rx
     else if between 0x3B23 0x3B24 i then
      let d := (i - 0x3B23) * 128 + sub - 1
      (s.fn (.delayLine d)).active && decide ((s.line d).xf < 64)
     else if i = 0x2200 ∧ sub = 0x14 then s.urgentDrops x.val
     else if i = 0x2460 ∧ sub = 3 then x.val == 1 && !s.test.left.isEmpty
     else i == 0x2000 && sub == 2 && s.targetStatus x.val == 9)

/-- Whether a staged patch no longer finds the recipe it is for (R252). -/
def State.itemStale (s : State) (x : WItem) : Bool :=
  between 0x5080 0x50FF x.index && u32At x.block 0 != s.recipeCrc (x.index - 0x5080)

/-! ## Resources -/

/-- The claims of a commit on shared resources (R31, R33): `s'` are the settings that the commit leaves in effect over those of
`s`. A claim that is not met is rejected with RESOURCE. -/
def State.crossResource (s s' : State) (l : List WItem) : Bool :=
  let t (lo hi : Nat) : Bool := l.any fun x => between lo hi x.index
  let lay := t 0x3800 0x3800
  (t 0x4010 0x404F && decide (s.slotFlows.length < s'.slotFlows.length) && !s'.slotsOk) ||
  l.any (fun x => x.index == 0x4003 && x.sub == 1 && decide (x.val < s'.slotFlows.length)) ||
  ((lay || t 0x3301 0x3310 || t 0x3410 0x341F || t 0x3440 0x344F || t 0x3500 0x35FF || t 0x3B41 0x3B42 || t 0x3B51 0x3B52 ||
    t 0x4010 0x404F || t 0x2108 0x2109) && !(s.poolFits s' && s'.domainsExist)) ||
  ((lay || t 0x3B21 0x3B24 || t 0x3B41 0x3B42 || t 0x3301 0x3310 || t 0x4010 0x401F) && !s.pagesFit s') ||
  ((lay || t 0x3600 0x367F || t 0x5000 0x507F || t 0x2004 0x2004) && (s.fabricCheck s' (newRecipes l) (t 0x2004 0x2004 && !(subsOf l 0x2004).all fun n => n != 2)).1) ||
  ((lay || t 0x3500 0x35FF) && !claimFits (s.weightedUsed s') (s.weightedUsed s) 16384)

/-! ## The checks of a commit -/

/-- The status of a commit of the writes `l` at the time `at_`, judged as a whole in the order of R60; `conflict` says that
another requester has staged one of its objects. [DEDUCED, log 20, 36] -/
def State.commitStatus (s : State) (l : List WItem) (conflict : Bool) (at_ : Nat) : Nat :=
  let base := s.overlay s.pendingWrites
  let s' := base.overlay l
  if s.rights.lock && l.any fun x => x.index == 0x1020 then 3
  else if l.any s.itemMode then 7
  else if s.tooFar at_ || l.any s.itemRange || base.crossRange s' l then 6
  else if conflict then 8
  else if l.any s.itemBusy then 9
  else if l.any s.itemStale then 0x0C
  else if base.crossResource s' l then 0x0D
  else 0

end Sys2Proof.Machine
end

