-- ==== Sys2Proof/Machine/Apply.lean ====
section
/-!
DEFINITION. How accepted writes take effect (R30, R40, R65 to R68, R245): at once, or as parts at the ticks of their rate
domains, and what each written object does to its function.
-/

set_option autoImplicit false

namespace Sys2Proof.Machine

/-! ## Where a write applies -/

/-- The rate domain at whose tick a write applies (R65): that of its function, if it issues ticks. -/
def State.itemDom (s : State) (x : WItem) : Option Nat :=
  let d := if x.action then none
    else if between 0x3440 0x344F x.index then some (s.rd x.index 1)
    else (itemFunc x.index x.sub).bind s.fdom
  d.filter fun d => (s.dom d).running

/-- Whether a write is of the fabric part of a commit (R245). -/
def WItem.fabric (x : WItem) : Bool := between 0x3600 0x367F x.index || between 0x5000 0x50FF x.index

/-! ## What a written object does -/

/-- A block of flash is erased and programmed (R489). [DEDUCED, log 35] -/
def State.programFlash (s : State) (l : List Byte) : State :=
  let base := s.rd 0x2303 0x0A / 4096
  let flash := (List.range (l.length / 4096)).foldl (fun m k => put [] m (base + k) (Machine.slice l (4096 * k) 4096)) s.boot.flash
  { s with boot := { s.boot with flash := flash } }

/-- A closed block outside the fabric takes effect: a template (R431), a capture window (R507), flash (R489) or the key hash
(R486). [DEDUCED, log 35] -/
def State.applyBlock (s : State) (x : WItem) : State :=
  let i := x.index
  if between 0x5100 0x5107 i then s.setBlock i x.block
  else if isWindow i then s.loadWindow (i - 0x5200) x.val x.block
  else if i = 0x5F00 then s.programFlash x.block
  else if i = 0x5F01 then { s with boot := { s.boot with keyHash := some x.block } }
  else s

/-- A written action (R49): a WO object. -/
def State.applyAction (s : State) (x : WItem) : State :=
  let i := x.index
  let sub := x.sub
  let on := x.val == 1
  if i = 0x2200 then s.writeHk sub x.val
  else if i = 0x4000 then s.sendBeacons x.val
  else if between 0x4110 0x411F i then s.requestSwitch (i - 0x4110) x.val
  else if i = 0x2303 ∧ sub = 0x0B then
    let r := s.draw 1
    r.2.wrBit 0x2303 0x0C (x.val - 1) (r.1 == 1)
  else if !on then s
  else if i = 0x2000 then s.applyAck
  else if i = 0x2303 then s.wr 0x2303 5 (max (s.rd 0x2303 5) (s.rd 0x2303 4))
  else if i = 0x2400 ∧ sub = 1 then s.takeSnap (s.rd 0x2400 3) false false
  else if i = 0x2400 then s.snapChain
  else if between 0x2410 0x244F i then s.clearCounter (i - 0x2410)
  else if i = 0x2460 then s.runTests
  else if between 0x3101 0x3130 i then s.beginRetry (.output (i - 0x3100)) fun _ => true
  else if between 0x3201 0x3202 i then s.beginRetry (.hp (i - 0x3200)) fun _ => true
  else if i = 0x3A01 then s.ringRelease
  else if i = 0x3B00 then s.doRetrain
  else if i = 0x4100 then (if s.paired then s.mapPair fun p => { p with switchAt := some s.now } else s)
  else match forceOf i sub with
    | some m => s.forceSwitch m
    | none => s

/-- The written subs of a data-plane index reach its running function. -/
def State.applyPlane (s : State) (i : Nat) (subs : List Nat) : State :=
  if between 0x3001 0x3030 i then s.applyInput (i - 0x3000) subs
  else if between 0x3101 0x3130 i then
    let pair := subs.filter fun n => n == 2 || n == 0x12 || n == 0x13
    let s := s.applyOutput (i - 0x3100) subs
    if pair.isEmpty then s else s.applyOutput (i - 0x3100 + 1) pair
  else if between 0x3201 0x3202 i then s.applyHp (i - 0x3200) subs
  else if between 0x3210 0x321F i then s.applyPwm (i - 0x320F) subs
  else if between 0x3301 0x3310 i then
    let s := if subs.contains 7 then s.applyMask (i - 0x3301) .tx else s
    let s := if subs.contains 8 then s.applyMask (i - 0x3301) .rx else s
    if subs.contains 5 || subs.contains 6 then (s.settleSapMux (i - 0x3301) .tx).settleSapMux (i - 0x3301) .rx else s
  else if between 0x3410 0x341F i then subs.foldl (fun s sub => s.applyRoute ((i - 0x3410) * 128 + sub - 1)) s
  else if between 0x3440 0x344F i then s.applyGen (i - 0x3440) subs
  else if between 0x3450 0x345F i then s.applyLink (i - 0x3450) subs
  else if between 0x3500 0x35FF i then s.applyBus (i - 0x3500) subs
  else if between 0x3B23 0x3B24 i then subs.foldl (fun s sub => s.applyLine ((i - 0x3B23) * 128 + sub - 1)) s
  else if between 0x3B60 0x3B67 i then (if subs.contains 1 then s.applyTransport (i - 0x3B60) else s)
  else if i = 0x4000 then (if subs.contains 8 then s.announcePres else s)
  else if i = 0x4003 then (if subs.contains 1 then s.askShare.startFlows else s)
  else if i = 0x4100 then (if subs.contains 1 || subs.contains 6 then s.applyPair else s)
  else if i = 0x4101 then
    (if subs.contains 1 && s.rd 0x4101 1 == 1 then (List.range 16).foldl State.startArb s else s)
  else if between 0x4110 0x411F i then (if subs.any fun n => n ≤ 3 then s.startArb (i - 0x4110) else s)
  else s

/-- The written subs of an index of the modes, clocks and housekeeping take effect. -/
def State.applyControl (s : State) (l : List WItem) (i : Nat) (subs : List Nat) : State :=
  if i = 0x2000 then
    let s := if l.any fun x => x.key == key 0x2000 2 && x.val != s.ms.mode.code then s.applyTarget else s
    if subs.contains 0x0B then s.settleTalkback else s
  else if between 0x2010 0x201B i then (if subs.contains 4 then s.applyKeepOff (i - 0x2010) else s)
  else if between 0x2104 0x2106 i then (if subs.contains 2 then s.applyRefScale (synOf (i - 0x2104)) else s)
  else if between 0x2108 0x2109 i then (if subs.contains 1 then s.applyLeader (i - 0x2108) else s)
  else if between 0x2110 0x211F i then
    let s := if subs.contains 5 && s.rd i 5 == 0 then s.openGate (i - 0x2110) else s
    if i = 0x2117 ∧ subs.contains 1 then s.askMux .pwm (s.rd i 1) else s
  else if between 0x2120 0x2123 i then s.applyCko (i - 0x2120)
  else if i = 0x2200 then s.applyHk subs
  else s

/-- The lanes that a list of writes changes. -/
def touchedLanes (l : List WItem) : List Nat :=
  (l.filterMap fun x =>
    if between 0x3600 0x367F x.index ∧ 0x10 ≤ x.sub then some (x.index - 0x3600)
    else if between 0x5000 0x50FF x.index then some (x.index % 0x80) else none).dedup

/-! ## Enables -/

/-- The settings of a function whose change, while it is enabled, acts as a disable followed by an enable (R40, R213, R285,
R293, R343, R388, R508). -/
def State.restartKey (s : State) (f : Func) : List Nat :=
  (s.fdom f).toList ++
    (match f with
     | .sapTx p => [s.sapCfg p .tx]
     | .sapRx p => [s.sapCfg p .rx]
     | .flowTx n => [s.rd (0x4010 + n) 3, s.rd (0x4010 + n) 4]
     | .flowRx r => [s.rd (0x4020 + r) 3, s.rd (0x4020 + r) 4, s.rd (0x4020 + r) 6, s.rd (0x4020 + r) 7, s.rd (0x4020 + r) 9]
     | .delayLine d => [s.lineCfg d % 2 ^ 31]
     | .cap c => [capPages (s.capCfg c), capPacking (s.capCfg c)]
     | .link l => [s.rd (0x3450 + l) 3, s.rd (0x3450 + l) 4, s.rd (0x3450 + l) 8]
     | _ => [])

/-- The enable of a function follows the settings, `b` being the state before them (R35, R40). -/
def State.settleEnable (b s : State) (f : Func) : State :=
  if !b.wants f && s.wants f then s.enableFn f
  else if b.wants f && !s.wants f then s.disableFn f
  else if s.wants f && b.restartKey f != s.restartKey f then s.restartFn f
  else s

/-- Functions in their order, with the PWM outputs in ascending order at the end (R330). -/
def pwmLast (l : List Func) : List Func :=
  l.filter (fun f => match f with
    | .pwm _ => false
    | _ => true) ++ ((List.range 16).map fun n => Func.pwm (n + 1)).filter l.contains

/-- The functions whose enable or restart a list of writes can change. -/
def State.settled (s : State) (l : List WItem) : List Func :=
  pwmLast (l.filterMap WItem.enable ++ (l.filterMap fun x => if x.action then none else itemFunc x.index x.sub) ++
    (if l.any fun x => x.index == 0x3800 || between 0x3301 0x3310 x.index || between 0x4010 0x403F x.index then
      s.funcList.filter fun f => (s.fdom f).isSome
     else [])).dedup

/-- Whether a commit has changed `LAYOUT`, `SPLIT` or a rate (R213). [DEDUCED, log 39] -/
def State.layoutChanged (b s : State) : Bool :=
  [1, 2, 3, 4, 5].any fun sub => b.rd 0x3800 sub != s.rd 0x3800 sub

/-- Writes take effect together (R30): the values, then what each does, then the enables. -/
def State.applyWrites (b : State) (l : List WItem) : State :=
  let s := (l.filter fun x => between 0x3410 0x341F x.index).foldl
    (fun s x => b.rerouteMeter s ((x.index - 0x3410) * 128 + x.sub - 1)) (l.foldl State.store b)
  let s := (touchedLanes l).foldl (fun s n =>
    s.applyLane n ((subsOf l (0x3600 + n)).filter fun sub => decide (0x10 ≤ sub)) (blockOf l (0x5000 + n))
      (blockOf l (0x5080 + n))) s
  let s := ((l.filter fun x => !x.action).map WItem.index).dedup.foldl (fun s i =>
    let subs := subsOf l i
    if i < 0x3000 then s.applyControl l i subs else if isDomain i then s else s.applyPlane i subs) s
  let s := (l.filter fun x => between 0x3001 0x3030 x.index && x.sub == 0x10).foldl
    (fun s x => b.rephantom s (x.index - 0x3000)) s
  let s := l.foldl (fun s x =>
    if x.action then s.applyAction x else if isDomain x.index then s.applyBlock x else s) s
  let s := (b.settled l).foldl (State.settleEnable b) s
  let s := if b.layoutChanged s then s.beginLayout.settleDoms else s
  if l.any fun x => between 0x3301 0x35FF x.index || between 0x3B41 0x3B54 x.index || between 0x4010 0x404F x.index ||
      between 0x2108 0x2109 x.index || x.index == 0x3800 then s.grantAll.sweep else s

/-! ## Acceptance -/

/-- The lanes that a list of writes enables or gives a recipe. -/
def enabledLanes (l : List WItem) : List Nat :=
  (l.filterMap fun x => match itemFunc x.index x.sub with
    | some (.lane n) => some n
    | _ => none).dedup

/-- The functions that an accepted commit enables while they stop, or while what they claim is still held, show START_PENDING (R32,
R40): `b` are the settings before the commit and `s'` those it leaves, with the pages claimed. [DEDUCED, log 42] -/
def State.markPending (s b s' : State) (l : List WItem) : State :=
  (l.filterMap WItem.enable ++ (enabledLanes l).map Func.lane).dedup.foldl (fun s f =>
    let rests := s.phase f == .off || s.phase f == .quiesced
    let lane : Bool := match f with
      | .lane _ => true
      | _ => false
    if s'.wants f && ((!b.wants f && s.stopping f) || (rests && (lane || !b.wants f) && s'.startShort f)) then
      s.setFn f { s.fn f with startPending := true }
    else s) s

/-- The crossfade times that the accepted changes of routes take (R210): `XFADE_DEFAULT` as it is now. -/
def State.takeXfades (s : State) (l : List WItem) : State :=
  let v := s.rd 0x3400 1
  let m := (l.filter fun x => between 0x3410 0x341F x.index).foldl
    (fun m x => put 10 m ((x.index - 0x3410) * 128 + x.sub - 1) v) s.router.xfades
  { s with router := { s.router with xfades := m } }

/-- A commit is accepted with its entry `seq` (R31, R65, R242, R245): pages are claimed, the core voltage is asked for, what belongs to
no running rate domain takes effect, and the rest waits for its ticks. `tracked` says that it came through `COMMIT`; `count` and
`first` are as in its entry. [DEDUCED, log 42] -/
def State.accept (s : State) (w : Requester) (node : Nat) (tracked : Bool) (seq count first at_ : Nat) (l : List WItem) :
    State :=
  let b := s.overlay s.pendingWrites
  let s' := (b.overlay l).grantPages (fun n => b.wants (.lane n)) (newRecipes l)
  let need := s'.vcoreNeeded
  let s := (({ s with lanes := s'.lanes } : State).takeXfades l).wr 0x3820 2 need
  let r := if Mode.runs s.ms.mode then s.preRaise need else (s, false)
  let s := r.1.markPending b s' l
  let keys := l.map WItem.key
  let parts := (List.range 3).flatMap fun d => [false, true].filterMap fun g =>
    let ws := l.filter fun x => s.itemDom x == some d && (x.fabric && r.2) == g
    if ws.isEmpty then none
    else some { seq := seq, who := w, node := node, tracked := tracked, dom := d, at_ := at_, gated := g, count := count,
                first := first, writes := ws, keys := keys : Part }
  ({ s with parts := s.parts ++ parts }).applyWrites (l.filter fun x => (s.itemDom x).isNone)

/-! ## Parts at their ticks -/

/-- The part of a commit for its domain has applied in frame `frame` (R71, R72). -/
def State.noteApplied (s : State) (p : Part) (frame : Nat) : State :=
  let x := s.req p.who
  if p.tracked && x.commitId == p.seq && !(s.parts.any fun q => q.seq == p.seq && q.dom == p.dom) then
    let x := { x with appliedMask := setBit x.appliedMask p.dom true }
    s.setReq p.who (match p.dom with
      | 0 => { x with applied0 := frame }
      | 1 => { x with applied1 := frame }
      | _ => { x with applied2 := frame })
  else s

/-- The parts of domain `d` whose time has come apply, in commit order, in frame `frame` (R30, R65, R245); `only` leaves all
but the fabric parts. [DEDUCED, log 85] -/
def State.applyDue (s : State) (d frame : Nat) (only : Bool) : State :=
  let due (p : Part) : Bool :=
    p.dom == d && decide (p.at_ ≤ s.ptp) && (if p.gated then s.fabricOpen else !only)
  (s.parts.filter due).foldl (fun s p => (s.applyWrites p.writes).noteApplied p frame)
    { s with parts := s.parts.filter fun p => !due p }

/-- `g` over the functions that run in rate domain `d`. -/
def State.eachIn (s : State) (d : Nat) (g : State → Func → State) : State :=
  (s.funcList.filter fun f => (s.fdom f).isSome && (s.fn f).dom == d).foldl g s

/-- The lanes' frames in progress end (R25, R27, R247). [DEDUCED, log 85] -/
def State.tickEnds (s : State) (d : Nat) : State :=
  s.eachIn d fun s f => match f with
    | .lane n => s.settleLane n
    | _ => s

/-- FABRIC_PART_APPLY (R30, R245): the fabric parts that waited for the core voltage apply at a tick of their domain that is due, when the
frames of its lanes have ended. -/
def execFabricPartApply (t d : Nat) (s : State) : Host.Outcome State Fault Refusal :=
  let s := s.clock t
  if s.tickDue d then .next ((s.tickEnds d).applyDue d ((s.dom d).tick s.now).frame true) else .next s

end Sys2Proof.Machine
end

