-- ==== Sys2Proof/Machine/Control.lean ====
section
/-!
DEFINITION. The control processor (02_dictionary.md, R46 to R72): request and response bodies, the requesters' queues, and what
each transaction does: reads, writes, stages, block transfers, commits and discards.
-/

set_option autoImplicit false

namespace Sys2Proof.Machine

/-! ## Bodies -/

/-- A request body (R54). -/
structure Body where
  op : Nat
  tid : Nat
  index : Nat
  sub : Nat
  len : Nat
  data : List Byte
deriving DecidableEq, Repr

/-- The fields of a request body; a body without a whole header is none. -/
def parseBody (l : List Byte) : Option Body :=
  if l.length < 8 then none
  else some { op := u8At l 0, tid := u8At l 1, index := u16At l 2, sub := u8At l 4, len := u16At l 6, data := l.drop 8 }

/-- The bytes of a request body (R54). -/
def Body.bytes (b : Body) : List Byte :=
  leBytes 1 b.op ++ leBytes 1 b.tid ++ leBytes 2 b.index ++ leBytes 1 b.sub ++ leBytes 1 0 ++ leBytes 2 b.len ++ b.data

/-- The data field of a write: `LEN` bytes of what follows the header. -/
def Body.field (b : Body) : List Byte := b.data.take b.len

/-- Whether two bodies ask for the same. -/
def Body.same (a b : Body) : Bool :=
  a.op == b.op && a.tid == b.tid && a.index == b.index && a.sub == b.sub && a.len == b.len && a.field == b.field

/-- The bytes of a response body (R55). -/
def Response.bytes (r : Response) : List Byte :=
  leBytes 1 r.op ++ leBytes 1 r.tid ++ leBytes 1 r.status ++ leBytes 1 0 ++ leBytes 4 r.seq ++ leBytes 2 r.data.length ++
    r.data

/-- What a transaction leaves: the state, and the status, the sequence number and the data of its response. -/
structure Reply where
  s : State
  status : Nat
  seq : Nat
  data : List Byte

/-- A transaction that is not journalled: its response carries `HEAD_SEQ` (R55). -/
def State.plain (s : State) (status : Nat) (data : List Byte) : Reply := { s, status, seq := s.journal.head, data }

/-- The node number of an entry: that of a chain requester, else FFFFh (R74). -/
def entryNode (w : Requester) (node : Nat) : Nat :=
  match w with
  | .chain _ => node
  | _ => 0xFFFF

/-- A transaction with an entry of its own: its response carries that sequence number (R55, R74, R75). -/
def State.logged (s : State) (w : Requester) (node : Nat) (kind : EntryKind) (b : Body) (hashed : Bool) (status : Nat) : Reply :=
  let l := b.field
  let long := decide (8 < l.length)
  (s.entry kind w.origin status (entryNode w node) b.index b.sub (hashed || long) (if long then crc32 l else leNat l)).plain status []

/-- A change of what the control processor keeps for a requester. -/
def State.mapReq (s : State) (w : Requester) (f : ReqState → ReqState) : State := s.setReq w (f (s.req w))

/-! ## Address, rights and access class -/

/-- The first of the statuses of R46, R49, R51, R52 and R486 that an access to an object meets; OK if none does. [DEDUCED, log 20] -/
def State.accessStatus (s : State) (w : Requester) (write : Bool) (i sub : Nat) : Nat :=
  if !indexPresent i then 1
  else match rowOf i sub with
    | none => 2
    | some r =>
      if !s.mayAccess w write i then 0x0A
      else if write then
        (if r.acc = .ro ∨ r.acc = .const ∨ (i = 0x1020 ∧ s.rights.lock) ∨ (i = 0x5F01 ∧ s.boot.keyHash.isSome) then 3 else 0)
      else if r.acc = .wo then 4
      else 0

/-! ## Chain requesters -/

/-- Whether a requester is one of those that hold a staging set or a read cursor (R50). -/
def ReqState.holder (x : ReqState) : Bool := !x.staged.isEmpty || x.cursor.isSome

/-- Whether a requester may take a staging set or a cursor: four chain requesters at most hold one (R50). -/
def State.tableRoom (s : State) (w : Requester) : Bool :=
  match w with
  | .chain _ => (s.req w).holder || decide ((s.chain.filter fun (x : Nat × ReqState) => x.2.holder).length < 4)
  | _ => true

/-- A chain requester whose set was committed or discarded gives up its cursor once that stands at `HEAD_SEQ` + 1 (R50). [DEDUCED, log 26] -/
def State.releaseCursor (s : State) (w : Requester) : State :=
  match w with
  | .chain _ =>
    let x := s.req w
    if x.closed && x.cursor == some s.journal.nextSeq then s.setReq w { x with cursor := none, closed := false } else s
  | _ => s

/-! ## Reads -/

/-- The most data bytes of one response: `MAX_DATA`, but 245 on TWB0 (R54, R56, R467). -/
def maxLen (w : Requester) : Nat := if w = .twb0 then 245 else 512

/-- The length that a read accepts: 0 means the most (R54, R467). -/
def readLimit (w : Requester) (len : Nat) : Nat := if len = 0 then maxLen w else len

/-- A READ of `ENTRIES` (R80): whole entries from the cursor, which advances. [DEDUCED, log 26] -/
def State.readEntries (s : State) (w : Requester) (len : Nat) : Reply :=
  let j := s.journal
  let cur := s.readFrom w
  let n := min 16 (readLimit w len / 32)
  let want := min n ((j.nextSeq + 2 ^ 32 - cur) % 2 ^ 32)
  let back := (j.nextSeq + 2 ^ 32 - cur) % 2 ^ 32
  let es := j.take cur n
  if j.mirrorState = 1 ∧ 0 < want ∧ j.ring.length < back then s.plain 9 []
  else if es.length < want then s.plain 6 []
  else
    let s := if (s.req w).cursor.isSome || s.tableRoom w then
        s.mapReq w fun x => { x with cursor := some ((cur + es.length) % 2 ^ 32) }
      else s
    (s.releaseCursor w).plain 0 (es.flatMap Entry.bytes)

/-- A READ of a block whose clock runs (R54, R55, R56). -/
def State.openRead (s : State) (w : Requester) (b : Body) (r : Row) : Reply :=
  let st := s.accessStatus w false b.index b.sub
  if st ≠ 0 then s.plain st []
  else if r.ty = .domain then s.plain 5 []
  else if maxLen w < b.len then s.plain 6 []
  else if b.index = 0x1F01 ∧ b.sub = 1 then s.readEntries w b.len
  else if readLimit w b.len < r.ty.size then s.plain 6 []
  else (s.afterRead b.index b.sub).plain 0 (leBytes r.ty.size (s.readVal w b.index b.sub))

/-- A READ (R54 to R56, R124): ABORTED_GATED replaces whatever status the access would have had (R60). [DEDUCED, log 23] -/
def State.execRead (s : State) (w : Requester) (b : Body) : Reply :=
  match rowOf b.index b.sub with
  | none => s.plain (s.accessStatus w false b.index b.sub) []
  | some r => match s.gatedRead b.index b.sub r with
    | some cd => (s.bump (0x2110 + cd) 7).plain 0x0B []
    | none => s.openRead w b r

/-- A BLOCK_READ (R57, R58): bytes of the block in force. -/
def State.execBlockRead (s : State) (w : Requester) (b : Body) : Reply :=
  let st := s.accessStatus w false b.index b.sub
  if st ≠ 0 then s.plain st []
  else if (rowOf b.index b.sub).map Row.ty ≠ some .domain ∨ b.data.length < 4 then s.plain 5 []
  else if maxLen w < b.len then s.plain 6 []
  else (if isWindow b.index && s.mem.ready then s.bgWait else s).plain 0 (Machine.slice (s.blockInForce w b.index) (u32At b.data 0) (readLimit w b.len))

/-! ## Blocks -/

/-- The largest block of a DOMAIN index (R58, R486, R489). -/
def blockMax (i : Nat) : Nat := if i = 0x5F00 then 65536 else if i = 0x5F01 then 32 else 262144

/-- Whether another requester holds the one on-chip block buffer of a device without trained memory (R502). -/
def State.chipTaken (s : State) (w : Requester) : Bool :=
  !s.mem.ready && (match s.mem.chipBuf with
    | some v => v != w
    | none => false)

/-- The requester's open buffer is released (R501, R502). [DEDUCED, log 24] -/
def State.releaseBuffer (s : State) (w : Requester) : State :=
  let s := s.mapReq w ReqState.dropBuffer
  if s.mem.chipBuf = some w then { s with mem := { s.mem with chipBuf := none } } else s

/-- A write of `LENGTH` opens a new, empty buffer (R58, R502, R507). [DEDUCED, log 24, 34] -/
def State.openBlock (s : State) (w : Requester) (node : Nat) (b : Body) : Reply :=
  let v := leNat b.field
  if v = 0 ∨ blockMax b.index < v then s.logged w node .write b false 6
  else if (isWindow b.index && s.capBusy (b.index - 0x5200)) || s.chipTaken w then s.logged w node .write b false 0x0D
  else
    let s := s.mapReq w fun x => { x with buffer := some { index := b.index, data := List.replicate v 0 } }
    let s := if s.mem.ready then s else { s with mem := { s.mem with chipBuf := some w } }
    s.logged w node .write b false 0

/-- A BLOCK_WRITE: a segment into the requester's open buffer (R57, R58, R502, R507). [DEDUCED, log 34] -/
def State.execSegment (s : State) (w : Requester) (b : Body) : Reply :=
  let st := s.accessStatus w true b.index b.sub
  let off := u32At b.data 0
  let seg := b.field.drop 4
  if st ≠ 0 then s.plain st []
  else if (rowOf b.index b.sub).map Row.ty ≠ some .domain ∨ b.field.length < 4 ∨ b.field.length ≠ b.len then s.plain 5 []
  else if 512 < b.len then s.plain 6 []
  else match (s.req w).buffer with
    | none => s.plain 6 []
    | some u =>
      if u.index ≠ b.index ∨ u.data.length < off + seg.length then s.plain 6 []
      else if isWindow b.index ∧ (!s.mem.ready ∨ s.capBusy (b.index - 0x5200)) then s.plain 0x0D []
      else ((if s.mem.ready then s.bgWait else s).mapReq w fun x => { x with buffer := some { u with data := patchBytes u.data off seg } }).plain 0 []

/-- Whether flash may be programmed with a block: its address and length are as R489 states, and it keeps clear of the slot that
the device booted from. [DEDUCED, log 35, 68] -/
def State.flashOk (s : State) (l : List Byte) : Bool :=
  let a := s.rd 0x2303 0x0A
  let n := l.length
  let e := a + n
  !s.boot.noFlash && a % 4096 == 0 && n % 4096 == 0 && decide (4096 ≤ n) && decide (n ≤ 65536) && decide (e ≤ 0x1000000) &&
    !(s.rd 0x2303 2 == 1 && decide (a < 0x400000)) && !(s.rd 0x2303 2 == 2 && decide (a < 0x800000) && decide (0x400000 < e))

/-- The header check of a closed block by its owner chapter (R238, R252, R431, R486, R489). -/
def State.headerOk (s : State) (i : Nat) (l : List Byte) : Bool :=
  if i < 0x5080 then recipeGood s.topRate l
  else if i < 0x5100 then s.patchOk (i - 0x5080) l
  else if between 0x5100 0x5107 i then templateOk l
  else if i = 0x5F00 then s.flashOk l
  else if i = 0x5F01 then l.length == 32
  else true

/-- The write that a close makes: for a capture window the value is the window's number. [DEDUCED, log 25] -/
def State.closeItem (s : State) (w : Requester) (i crc : Nat) (l : List Byte) : WItem :=
  { key := key i 3, val := if isWindow i then s.window w i else crc, block := l, seq := 0 }

/-- A write enters the requester's staging set in the place of an earlier one of its object (R64). -/
def stageInto (l : List WItem) (x : WItem) : List WItem :=
  if l.any fun y => y.key == x.key then l.map fun y => if y.key = x.key then { x with seq := y.seq } else y
  else l ++ [x]

/-- Whether the requester's set has room for a write of an object (R50, R64). -/
def State.stageRoom (s : State) (w : Requester) (k : Nat) : Bool :=
  s.tableRoom w && ((s.req w).holds k || decide ((s.req w).staged.length < 256))

/-- An accepted STAGE: the write enters the set with the sequence number of its entry (R64). -/
def State.staged (r : Reply) (w : Requester) (x : WItem) : Reply :=
  { r with s := r.s.mapReq w fun q => { q with staged := stageInto q.staged { x with seq := r.seq }, closed := false } }

/-- An accepted WRITE applies as a commit of one write (R63). -/
def State.written (r : Reply) (w : Requester) (node : Nat) (x : WItem) : Reply :=
  { r with s := r.s.accept w (entryNode w node) false r.seq 1 r.seq (r.s.req w).commitAt [x] }

/-- The status of a close of the buffer `u` (R57, R60, R489, R507); `x` is the write it makes. -/
def State.closeStatus (s : State) (w : Requester) (stage : Bool) (u : Option BlockBuf) (crc : Nat) (x : WItem) : Nat :=
  let i := x.index
  let good := u.isSome && crc32 x.block == crc && s.headerOk i x.block
  let busy := isWindow i && s.capBusy (i - 0x5200)
  if stage then
    if s.itemMode x then 7
    else if s.conflict w x.key then 8
    else if !good then 0x0C
    else if busy || !s.stageRoom w x.key then 0x0D
    else 0
  else
    let st := s.commitStatus [x] (s.conflict w x.key) (s.req w).commitAt
    if st ≠ 0 ∧ st ≠ 0x0C ∧ st ≠ 0x0D then st
    else if !good then 0x0C
    else if busy then 0x0D
    else st

/-- A write of `CRC` closes the requester's block (R57, R58). [DEDUCED, log 25] -/
def State.closeBlock (s : State) (w : Requester) (node : Nat) (stage : Bool) (b : Body) : Reply :=
  let crc := leNat b.field
  let u := (s.req w).buffer.filter fun u => u.index == b.index
  let x := s.closeItem w b.index crc ((u.map BlockBuf.data).getD [])
  let st := s.closeStatus w stage u crc x
  if st = 9 then s.plain 9 []
  else
    let s := if u.isSome then s.releaseBuffer w else s
    let s := if st = 0x0C ∧ b.index = 0x5F00 then s.wrBit 0x2303 7 5 true else s
    let r := s.logged w node (if stage then .stage else .write) b true st
    if st ≠ 0 then r else if stage then State.staged r w x else State.written r w node x

/-! ## Commit and discard -/

/-- The sequence number of the first STAGE entry of a set, 0 for an empty one (R75). -/
def firstSeq (l : List WItem) : Nat := (l.head?.map WItem.seq).getD 0

/-- What a staged write of a per-requester sub does when its commit is accepted (R64, R71, R80, R507): the commit's set is empty
then, so a staged `COMMIT` commits or discards an empty set. [DEDUCED, log 27] -/
def State.applyOwn (s : State) (w : Requester) (node : Nat) (l : List WItem) : State :=
  l.foldl (fun s x =>
    if isDomain x.index then s.mapReq w fun q => { q with windows := put 0 q.windows x.index x.val }
    else if x.index = 0x1F00 then s.mapReq w fun q => { q with cursor := some x.val, closed := false }
    else if x.sub = 9 then s.mapReq w fun q => { q with commitAt := x.val }
    else if x.sub = 0x0A then s.mapReq w fun q => { q with stageTimeout := x.val }
    else if x.val = 2 then s.setEntry .discard w (entryNode w node) 0 0 0 0
    else
      let s := s.setEntry .commit w (entryNode w node) 0 0 0 0
      s.mapReq w fun q => { q with lastStatus := 0, lastSeq := s.journal.head, commitId := s.journal.head, appliedMask := 0 }) s

/-- A write of 01h to `COMMIT` (R65, R66, R71, R72). [DEDUCED, log 22] -/
def State.commitSet (s : State) (w : Requester) (node : Nat) : Reply :=
  let x := s.req w
  let l := x.staged
  let st := s.commitStatus l (l.any fun y => s.conflict w y.key) x.commitAt
  if st = 9 then s.plain 9 []
  else
    let late := decide (x.commitAt ≠ 0) && decide (x.commitAt < s.ptp)
    let s := s.setEntry .commit w (entryNode w node) st l.length 0 (firstSeq l)
    let seq := s.journal.head
    let x := { x with staged := [], closed := true, lastStatus := st, lastSeq := seq }
    if st ≠ 0 then ((s.setReq w x).releaseCursor w).plain st []
    else
      let x := { x with commitId := seq, appliedMask := bit late 6 }
      { s := (((s.setReq w x).releaseCursor w).accept w (entryNode w node) true seq l.length (firstSeq l) x.commitAt
          (l.filter fun y => !y.own)).applyOwn w node (l.filter WItem.own), status := 0, seq, data := [] }

/-- The requester's staging set is discarded with an entry (R69, R75). [DEDUCED, log 26] -/
def State.discardSet (s : State) (w : Requester) (node cause : Nat) : State :=
  let x := s.req w
  ((s.setEntry .discard w (entryNode w node) 0 x.staged.length cause (firstSeq x.staged)).setReq w
    { x with staged := [], closed := true }).releaseCursor w

/-! ## Writes and stages -/

/-- Whether a cursor lies within the retained entries, or just after the newest (R59, R80). -/
def Journal.retains (j : Journal) (v : Nat) : Bool :=
  decide ((v + 2 ^ 32 - j.oldest) % 2 ^ 32 ≤ (j.nextSeq + 2 ^ 32 - j.oldest) % 2 ^ 32)

/-- A write of `READ_FROM` (R50, R80): the cursor lies within the retained entries. It is not journalled (R73). -/
def State.writeCursor (s : State) (w : Requester) (v : Nat) : Reply :=
  if !s.journal.retains v then s.plain 6 []
  else if !s.tableRoom w then s.plain 0x0D []
  else (s.mapReq w fun x => { x with cursor := some v, closed := false }).plain 0 []

/-- Whether a write of an object acts at once for its requester: a WRITE of a per-requester sub, and `LENGTH` of a DOMAIN index
even where it is staged (R58). [DEDUCED, log 27] -/
def immediate (stage : Bool) (i sub : Nat) : Bool := (isDomain i && sub == 2) || (!stage && ownSub i sub)

/-- A WRITE of an object that acts at once for its requester. [DEDUCED, log 27] -/
def State.writeNow (s : State) (w : Requester) (node : Nat) (b : Body) (r : Row) : Reply :=
  let v := leNat b.field
  if isDomain b.index then
    (if b.sub = 2 then s.openBlock w node b
     else (s.mapReq w fun x => { x with windows := put 0 x.windows b.index v }).logged w node .write b false 0)
  else if !r.rng.ok r.ty v || (b.sub == 9 && s.tooFar v) then s.logged w node .write b false 6
  else if b.sub = 1 then
    (if v = 1 then s.commitSet w node
     else (s.discardSet w node 0).plain 0 [])
  else if b.sub = 9 then (s.mapReq w fun x => { x with commitAt := v }).logged w node .write b false 0
  else (s.mapReq w fun x => { x with stageTimeout := v }).logged w node .write b false 0

/-- The status of a STAGE of a write (R64). [DEDUCED, log 20, 37] -/
def State.stageStatus (s : State) (w : Requester) (x : WItem) : Nat :=
  if s.itemMode x then 7
  else if s.itemRange x || (x.index == 0x1F00 && x.sub == 7 && !s.journal.retains x.val) then 6
  else if s.conflict w x.key then 8
  else if !s.stageRoom w x.key then 0x0D
  else 0

/-- A WRITE or a STAGE (R48, R49, R57, R63, R64). An urgent request that has to wait for a place counts as dropped (R453). -/
def State.execWriteOp (s : State) (w : Requester) (node : Nat) (stage : Bool) (b : Body) : Reply :=
  let kind : EntryKind := if stage && !(isDomain b.index && b.sub == 2) then .stage else .write
  let quiet := b.index == 0x1F00 && b.sub == 7 && !stage
  let fail (st : Nat) : Reply := if quiet then s.plain st [] else s.logged w node kind b false st
  let st := s.accessStatus w true b.index b.sub
  if st ≠ 0 then fail st
  else match rowOf b.index b.sub with
    | none => fail 2
    | some r =>
      if r.ty = .domain ∨ b.len ≠ r.ty.size ∨ b.field.length ≠ r.ty.size then fail 5
      else if quiet then s.writeCursor w (leNat b.field)
      else if immediate stage b.index b.sub then s.writeNow w node b r
      else if isDomain b.index && b.sub == 3 then s.closeBlock w node stage b
      else
        let x := itemOf b.index b.sub (leNat b.field)
        if stage then
          let st := s.stageStatus w x
          if st ≠ 0 then fail st else State.staged (s.logged w node .stage b false 0) w x
        else
          let st := s.commitStatus [x] (s.conflict w x.key) (s.req w).commitAt
          if st = 9 then
            (if b.index = 0x2200 ∧ b.sub = 0x14 ∧ s.urgentDrops x.val then s.dropUrgent else s).plain 9 []
          else if st ≠ 0 then fail st
          else State.written (s.logged w node .write b false 0) w node x

/-! ## One transaction -/

/-- The gates of the blocks whose register bus an access takes open (R122). -/
def State.accessGate (s : State) (i : Nat) : State := (s.gatesOf i).foldl State.openGate s

/-- A transaction executes (R54, R60). -/
def State.execBody (s : State) (w : Requester) (node : Nat) (b : Body) : Reply :=
  let s := s.accessGate b.index
  match b.op with
  | 1 => s.execRead w b
  | 2 => s.execWriteOp w node false b
  | 3 => s.execWriteOp w node true b
  | 4 => s.execBlockRead w b
  | 5 => s.execSegment w b
  | _ =>
    s.plain (if !indexPresent b.index then 1 else if (rowOf b.index b.sub).isNone then 2 else 5) []

/-- The response to a request body (R55): data only with OK. -/
def Reply.response (r : Reply) (b : Body) : Response :=
  { op := b.op % 128 + 128, tid := b.tid, status := r.status, seq := r.seq, data := if r.status = 0 then r.data else [] }

/-- A response on the chain (R392). -/
def State.sendResponse (s : State) (u node : Nat) (r : Response) : State :=
  s.send (.transaction node { hdr := s.header 4 0 node 0 false, requester := u, target := u, body := r.bytes })

/-- A block of an SMBus block read: its count, then its bytes. -/
def counted (l : List Byte) : List Byte := leBytes 1 l.length ++ l

/-- What a read of TWB0 with the command `code` sends: its bytes, and the PEC over the whole transfer that follows them where the
controller acknowledges the last one and `PEC_MODE` is not 00h (R470). -/
def State.twbSends (s : State) (code : Nat) (l : List Byte) : State :=
  let head := leBytes 1 (2 * s.host.addr) ++ leBytes 1 code ++ leBytes 1 (2 * s.host.addr + 1)
  let pec := if s.rd 0x2300 3 = 0 ∨ l.isEmpty then none else some (crc8 (head ++ l))
  { s with host := { s.host with sentTwb := l, sentPec := pec } }

/-- A response enters the buffer of a host port (R469). Where a RESPONSE read stretches SCL for it, it is sent at once, and removed if
the controller takes all of it (R468). -/
def State.give (s : State) (w : Requester) (r : Response) : State :=
  if w = .twb0 ∧ s.host.stretching then
    let s := { s with host := { s.host with stretching := false } }.twbSends 0x11 (counted r.bytes)
    if s.host.stretchTaken then { s with host := { s.host with lastTwb := some r } }
    else s.mapReq w fun x => { x with out := x.out ++ [r] }
  else s.mapReq w fun x => { x with out := x.out ++ [r] }

/-- A response leaves for its requester (R55, R392, R393, R468): a host port holds it until it is taken. [DEDUCED, log 32] -/
def State.answer (s : State) (w : Requester) (e : QEntry) (r : Response) : State :=
  if !e.reply then s
  else match w with
    | .internal => s
    | .chain u =>
      (s.mapReq w fun x => { x with lastBody := e.body, lastResp := some r, lastAt := s.now }).sendResponse u e.node r
    | _ => s.give w r

/-- The response kept for a chain requester whose request has the bytes of its last one (R393). [DEDUCED, log 32] -/
def State.kept (s : State) (w : Requester) (body : List Byte) : Option Response :=
  match w with
  | .chain _ =>
    let x := s.req w
    if x.lastBody = body ∧ s.now < x.lastAt + 100000000 then x.lastResp else none
  | _ => none

/-! ## Queues -/

/-- Whether the control processor executes a requester's transactions now (R82, R391): it runs and has booted, the mode admits
transactions, and a chain requester's device has been in CHAIN_SYNC and does not transmit electrical idle (R130). [DEDUCED, log 73] -/
def State.canRun (s : State) (w : Requester) : Bool :=
  s.hostUp && s.ms.mode != .ash && s.ms.mode != .slate && s.ms.mode != .indigo &&
    (match w with
     | .chain _ => s.net.everSync && s.pdOn 11 && s.synRuns .s
     | _ => true)

/-- The requesters in the order of R61. -/
def State.order (s : State) : List Requester :=
  [.internal, .hspi, .twb0] ++ s.chain.map fun (x : Nat × ReqState) => .chain x.1

/-- Whether a requester's queue can be served: a host port holds at most 8 responses before its queue waits (R469). [DESIGN CHOICE, log 6; DEDUCED, log 18] -/
def State.servable (s : State) (w : Requester) : Bool :=
  let x := s.req w
  !x.queue.isEmpty && s.canRun w && (match w with
    | .hspi => decide (x.out.length < 8)
    | .twb0 => decide (x.out.length < 8)
    | _ => true)

/-- The place and the requester whose transaction executes next: each non-empty queue in turn (R61). [DEDUCED, log 18] -/
def State.nextServe (s : State) : Option (Nat × Requester) :=
  let l := s.order
  let n := l.length
  (((List.range n).map fun k => (s.turn + k) % n).filterMap fun k => l[k]?.map fun w => (k, w)).find? fun x => s.servable x.2

/-- The head of a requester's queue executes and is answered (R61, R393). [DESIGN CHOICE, log 17; DEDUCED, log 18] -/
def State.serve (s : State) (k : Nat) (w : Requester) : State :=
  match (s.req w).queue with
  | [] => s
  | e :: r =>
    let s := { s.mapReq w fun x => { x with queue := r, lastSeen := s.now, node := entryNode w e.node } with turn := k + 1 }
    match s.kept w e.body with
    | some p => (match w with
      | .chain u => s.sendResponse u e.node p
      | _ => s)
    | none => match parseBody e.body with
      | none => s
      | some b =>
        let x := s.execBody w e.node b
        x.s.answer w e (x.response b)

/-- A host port discards a transaction because 16 responses are held (R469). [DEDUCED, log 71] -/
def State.dropHost (s : State) : State :=
  let s := { s with host := { s.host with dropped := true } }
  (s.bump 0x2300 0x0B).event 0xB3 0x2300

/-- The clock of a host bus's logic runs for what arrives on it (R122). -/
def State.busGate (s : State) (w : Requester) : State :=
  match w with
  | .hspi => s.openGate 14
  | .twb0 => s.openGate 15
  | _ => s

/-- A transaction arrives from a requester (R61): it is queued, or answered BUSY_RETRY where its queue is full. Where no
transaction can execute, one on a host bus is a wake source (R101). The clock of the bus's logic runs for it (R122). [DEDUCED, log 18, 32] -/
def State.arrive (s : State) (w : Requester) (e : QEntry) : State :=
  let s := s.busGate w
  if !s.canRun w then
    (match w with
     | .twb0 => s.wake .twb0
     | .hspi => s.wake .hspi
     | _ => s)
  else
    let s := s.mapReq w fun x => { x with lastSeen := s.now }
    if (w = .twb0 ∨ w = .hspi) ∧ 16 ≤ (s.req w).out.length then s.dropHost
    else if 8 ≤ (s.req w).queue.length then
      match parseBody e.body with
      | none => s
      | some b =>
        let r := (s.plain 9 []).response b
        if !e.reply then s
        else match w with
          | .chain u => s.sendResponse u e.node r
          | .internal => s
          | _ => s.give w r
    else s.mapReq w fun x => { x with queue := x.queue ++ [e] }

/-- The control processor executes a stated transaction (R61): the one whose turn it is, if that is it; where no transaction
waits, it arrives and executes. [DESIGN CHOICE, log 6, 17, 89; DEDUCED, log 18] -/
def State.transact (s : State) (q : Req) (b : Body) : State :=
  match s.nextServe with
  | some (k, w) =>
    match (s.req w).queue with
    | e :: _ =>
      if w = q.who ∧ e.node = q.node ∧ ((parseBody e.body).any fun c => c.same b) then s.serve k w else s
    | [] => s
  | none =>
    let s := s.arrive q.who { node := q.node, reply := true, body := b.bytes }
    match s.nextServe with
    | some (k, w) => s.serve k w
    | none => s

/-! ## The commands -/

/-- The request body of a plain write or stage. -/
def writeBody (op : Nat) (q : Req) (i sub : Nat) (data : List Byte) : Body :=
  { op, tid := q.tid, index := i, sub, len := data.length, data }

/-- A WRITE of one object by a requester. -/
def State.transactWrite (s : State) (q : Req) (i sub : Nat) (data : List Byte) : State :=
  s.transact q (writeBody 2 q i sub data)

/-- TRANSACTION_ARRIVE (R61). -/
def execTransactionArrive (t : Nat) (q : Req) (body : List Byte) (s : State) : Host.Outcome State Fault Refusal :=
  let s := s.clock t
  if body.length < 8 then .next s else .next (s.arrive q.who { node := q.node, reply := true, body })

/-- READ (R54, R55, R60). -/
def execRead (t : Nat) (q : Req) (index sub len : Nat) (s : State) : Host.Outcome State Fault Refusal :=
  .next ((s.clock t).transact q { op := 1, tid := q.tid, index, sub, len, data := [] })

/-- WRITE (R60, R63, R65). -/
def execWrite (t : Nat) (q : Req) (index sub : Nat) (data : List Byte) (s : State) : Host.Outcome State Fault Refusal :=
  .next ((s.clock t).transactWrite q index sub data)

/-- STAGE (R60, R64). -/
def execStage (t : Nat) (q : Req) (index sub : Nat) (data : List Byte) (s : State) : Host.Outcome State Fault Refusal :=
  .next ((s.clock t).transact q (writeBody 3 q index sub data))

/-- BLOCK_READ (R57, R58). -/
def execBlockRead (t : Nat) (q : Req) (index sub offset len : Nat) (s : State) : Host.Outcome State Fault Refusal :=
  .next ((s.clock t).transact q { op := 4, tid := q.tid, index, sub, len, data := leBytes 4 offset })

/-- BLOCK_WRITE (R57, R58). -/
def execBlockWrite (t : Nat) (q : Req) (index sub offset : Nat) (seg : List Byte) (s : State) :
    Host.Outcome State Fault Refusal :=
  .next ((s.clock t).transact q (writeBody 5 q index sub (leBytes 4 offset ++ seg)))

/-- UNKNOWN_OP (R54): a request whose OP has no meaning. [DEDUCED, log 33] -/
def execUnknownOp (t : Nat) (q : Req) (op : Nat) (s : State) : Host.Outcome State Fault Refusal :=
  let s := s.clock t
  if between 1 5 (op % 256) then .next s
  else .next (s.transact q { op, tid := q.tid, index := 0x1000, sub := 0, len := 0, data := [] })

/-- COMMIT (R65, R66): a WRITE of 01h to 1010h.01. -/
def execCommit (t : Nat) (q : Req) (s : State) : Host.Outcome State Fault Refusal :=
  .next ((s.clock t).transactWrite q 0x1010 1 [1])

/-- DISCARD (R69): a WRITE of 02h to 1010h.01. -/
def execDiscard (t : Nat) (q : Req) (s : State) : Host.Outcome State Fault Refusal :=
  .next ((s.clock t).transactWrite q 0x1010 1 [2])

/-- STAGE_TIMEOUT (R50, R69, R501): the requester has sent nothing for its timeout. [DEDUCED, log 28] -/
def execStageTimeout (t : Nat) (who : Requester) (s : State) : Host.Outcome State Fault Refusal :=
  let s := s.clock t
  let x := s.req who
  if s.pdOn 3 && x.stageTimeout != 0 && decide (x.lastSeen + x.stageTimeout * 1000000 ≤ s.now) then
    let s := if x.staged.isEmpty then s else s.discardSet who x.node 1
    let s := if x.buffer.isSome then s.releaseBuffer who else s
    .next (match who with
      | .chain _ => if x.cursor.isSome then s.mapReq who fun y => { y with cursor := none } else s
      | _ => s)
  else .next s

/-- BLOCK_OPEN (R58): a WRITE of `LENGTH`. -/
def execBlockOpen (t : Nat) (q : Req) (index : Nat) (data : List Byte) (s : State) : Host.Outcome State Fault Refusal :=
  .next ((s.clock t).transactWrite q index 2 data)

/-- BLOCK_CLOSE (R57): a WRITE or a STAGE of `CRC`. -/
def execBlockClose (t : Nat) (q : Req) (index : Nat) (stage : Bool) (data : List Byte) (s : State) :
    Host.Outcome State Fault Refusal :=
  .next ((s.clock t).transact q (writeBody (if stage then 3 else 2) q index 3 data))

/-- LOCK (R52): a WRITE of 01h to 1020h.07. -/
def execLock (t : Nat) (q : Req) (s : State) : Host.Outcome State Fault Refusal :=
  .next ((s.clock t).transactWrite q 0x1020 7 [1])

/-- READ_FROM (R79, R80): a WRITE of 1F00h.07. -/
def execReadFrom (t : Nat) (q : Req) (data : List Byte) (s : State) : Host.Outcome State Fault Refusal :=
  .next ((s.clock t).transactWrite q 0x1F00 7 data)

/-- ENTRIES_READ (R80): a READ of 1F01h.01. -/
def execEntriesRead (t : Nat) (q : Req) (len : Nat) (s : State) : Host.Outcome State Fault Refusal :=
  .next ((s.clock t).transact q { op := 1, tid := q.tid, index := 0x1F01, sub := 1, len, data := [] })

end Sys2Proof.Machine
end

