-- ==== Sys2Proof/Machine/Aborts.lean ====
section
/-!
DEFINITION. The access that is under way when the clock of its target is gated by force (04_clocks.md, R124), and the events that gate
clocks or switch power domains off by force: loss of XO, of a lock, of a supply, and a multiplexer that hangs.
-/

set_option autoImplicit false

namespace Sys2Proof.Machine

/-- The clock domain of the block that an access addresses, where that is gated by force or has lost its power (R94, R124). [DEDUCED, log 23] -/
def State.cutCd (s : State) (i sub : Nat) : Option Nat :=
  match s.gatedCd i sub with
  | some cd => some cd
  | none => (itemFunc i sub).bind fun f =>
      if s.blockGated f || !s.pdOn f.pdom then some (s.clockOf f) else none

/-- Whether a request is an access to a block: a READ of its own registers, or a WRITE (R124, R125). -/
def Body.touches (b : Body) : Bool := (b.op == 1 && ownRegister b.index b.sub) || b.op == 2

/-- The transaction under way, at the head of the queue whose turn it is, completes with ABORTED_GATED: a WRITE is journalled and not
applied, a READ returns nothing (R59, R124). -/
def State.abortHead (s : State) (k : Nat) (w : Requester) (e : QEntry) (rest : List QEntry) (b : Body) (cd : Nat) : State :=
  let s := { s.mapReq w fun x => { x with queue := rest, lastSeen := s.now, node := entryNode w e.node } with turn := k + 1 }
  let s := s.bump (0x2110 + cd) 7
  let r := if b.op = 2 then s.logged w e.node .write b false 0x0B else s.plain 0x0B []
  r.s.answer w e (r.response b)

/-- What an event that leads from `s` to `s'` aborts: the transaction under way, if the event has gated or switched off its target by
force (R124). [DEDUCED, log 23] -/
def State.abortFrom (s s' : State) : State :=
  match s.nextServe with
  | none => s'
  | some (k, w) =>
    match (s'.req w).queue with
    | [] => s'
    | e :: rest =>
      match parseBody e.body with
      | none => s'
      | some b =>
        match s.cutCd b.index b.sub, s'.cutCd b.index b.sub with
        | none, some cd => if b.touches then s'.abortHead k w e rest b cd else s'
        | _, _ => s'

/-- An event at the instant `t` that can gate clocks by force. -/
def State.gating (s : State) (t : Nat) (f : State → State) : Host.Outcome State Fault Refusal :=
  let s := s.clock t
  .next (s.abortFrom (f s))

/-- XO_MISSING_EDGE (R121, R124, R126, R127, R130). -/
def execXoMissingEdge (t : Nat) (s : State) : Host.Outcome State Fault Refusal := s.gating t State.missXo

/-- SYN_LOCK (R137, R138, R140, R141, R143): what the two methods of synthesizer `x` declare. -/
def execSynLock (t : Nat) (x : Syn) (pin window : Bool) (s : State) : Host.Outcome State Fault Refusal :=
  s.gating t fun s => s.declareSyn x pin window

/-- SYN_UNLOCK (R124, R142). -/
def execSynUnlock (t : Nat) (x : Syn) (refLost : Bool) (s : State) : Host.Outcome State Fault Refusal :=
  s.gating t fun s => s.declareLoss x refLost

/-- MUX_HANG (R119, R124). -/
def execMuxHang (t : Nat) (m : Mux) (s : State) : Host.Outcome State Fault Refusal := s.gating t fun s => s.hangMux m

/-- SUPPLY_TRIP (R94, R107, R124). -/
def execSupplyTrip (t : Nat) (rail : Rail) (s : State) : Host.Outcome State Fault Refusal := s.gating t fun s => s.tripAny rail

/-- HK_CONVERSION_COMPLETE (R124, R456, R458): slice `slice` has its code. [DESIGN CHOICE, log 11] -/
def execHkConversionComplete (t slice : Nat) (code : Int) (s : State) : Host.Outcome State Fault Refusal :=
  s.gating t fun s => s.conversionDone slice code

end Sys2Proof.Machine
end

