-- ==== Sys2Proof/Machine/Journal.lean ====
section
/-!
DEFINITION. The journal's mirror in external memory and its push to a logger node (02_dictionary.md, R77, R78; 12_chain.md, R394),
and the transactions that arrive over the chain (R391 to R393).
-/

set_option autoImplicit false

namespace Sys2Proof.Machine

/-- A change of the journal record. -/
def State.mapJournal (s : State) (f : Journal → Journal) : State := { s with journal := f s.journal }

/-- The entries from a sequence number to the head that have left the on-chip ring (R77). [DESIGN CHOICE, log 29] -/
def Journal.lostFrom (j : Journal) (seq : Nat) : Nat := (j.nextSeq + 2 ^ 32 - seq) % 2 ^ 32 - j.ring.length

/-- The mirror goes on with the oldest entry on chip where entries have left the ring before they were copied (R77). -/
def State.mirrorSkip (s : State) : State :=
  let j := s.journal
  let lost := j.lostFrom j.mirrorNext
  if lost = 0 then s
  else
    (s.bumpBy 0x1F00 6 lost).mapJournal fun j => { j with mirrorNext := j.oldestOnChip, mirrorGap := some j.oldestOnChip }

/-- MIRROR_COPY (R77): the next entry enters the mirror ring of 65,536. -/
def execMirrorCopy (t : Nat) (s : State) : Host.Outcome State Fault Refusal :=
  let s := s.clock t
  if s.journal.mirrorOn && s.mem.ready && s.journal.mirrorNext != s.journal.nextSeq then
    let s := s.mirrorSkip
    .next (s.bgWait.mapJournal fun j =>
      match j.ring.find? fun e => e.seq == j.mirrorNext with
      | some e => { j with mirror := (e :: j.mirror).take 65536, mirrorNext := (j.mirrorNext + 1) % 2 ^ 32 }
      | none => j)
  else .next s

/-- The mirror entries that a resume finds: which of the earlier ones still have a right CHECK is open (R77); those that are on
chip are copied anew. [DESIGN CHOICE, log 29] -/
def Journal.survivors (j : Journal) (free : Nat) : List Entry :=
  let old := j.mirror.filter fun e => !(j.ring.any fun x => x.seq == e.seq)
  ((List.range old.length).zip old).filterMap fun x => if free.testBit x.1 then some x.2 else none

/-- MIRROR_RESUME (R77): external memory has trained while PD_MEM is on. [DESIGN CHOICE, log 29] -/
def execMirrorResume (t : Nat) (s : State) : Host.Outcome State Fault Refusal :=
  let s := s.clock t
  if s.mem.ready && s.pdOn 10 && !s.journal.mirrorOn then
    let s := s.mirrorSkip
    let r := s.draw 65536
    .next (r.2.mapJournal fun j =>
      { j with mirrorOn := true, mirror := j.survivors r.1, mirrorNext := j.oldestOnChip })
  else .next s

/-- The entries from a sequence number on, at most `n`. -/
def Journal.range (j : Journal) (seq n : Nat) : List Entry :=
  (List.range n).filterMap fun k => j.ring.find? fun e => e.seq == (seq + k) % 2 ^ 32

/-- A JOURNAL_PUSH frame with up to 16 entries from a sequence number (R394). [DESIGN CHOICE, log 30] -/
def State.pushFrame (s : State) (seq n : Nat) : State :=
  s.send (.push (s.rd 0x1F00 8) s.journal.epoch (s.journal.range seq (min n 16)))

/-- Whether entries are sent to a logger node. [DESIGN CHOICE, log 30] -/
def State.pushing (s : State) : Bool := s.rd 0x1F00 8 != 0xFFFF && s.inChain && s.pdOn 3 && s.pdOn 11

/-- JOURNAL_PUSH (R78, R394): the new entries, in sequence order, up to 16 in one frame. [DESIGN CHOICE, log 30] -/
def execJournalPush (t : Nat) (s : State) : Host.Outcome State Fault Refusal :=
  let s := s.clock t
  let s := s.mapJournal fun j => if j.lostFrom j.pushNext = 0 then j else { j with pushNext := j.oldestOnChip }
  let j := s.journal
  let n := min 16 ((j.nextSeq + 2 ^ 32 - j.pushNext) % 2 ^ 32)
  if s.pushing && decide (0 < n) then
    .next ((s.pushFrame j.pushNext n).mapJournal fun j =>
      { j with pushNext := (j.pushNext + n) % 2 ^ 32, pushSentAt := s.now })
  else .next s

/-- JOURNAL_PUSH_RESEND (R78, R394): the unacknowledged entries that the ring still holds, 10 ms after their last sending. [DESIGN CHOICE, log 30] -/
def execJournalPushResend (t : Nat) (s : State) : Host.Outcome State Fault Refusal :=
  let s := s.clock t
  let j := s.journal
  let from_ := (j.pushAcked + 1) % 2 ^ 32
  let from_ := if j.lostFrom from_ = 0 then from_ else j.oldestOnChip
  let n := min ((j.pushNext + 2 ^ 32 - from_) % 2 ^ 32) ((j.nextSeq + 2 ^ 32 - from_) % 2 ^ 32)
  if s.pushing && decide (0 < n) && decide (j.pushSentAt + 10000000 ≤ s.now) then
    .next (((List.range ((n + 15) / 16)).foldl (fun s k => s.pushFrame ((from_ + 16 * k) % 2 ^ 32) (n - 16 * k)) s).mapJournal
      fun j => { j with pushSentAt := s.now })
  else .next s

/-- JOURNAL_ACK (R78, R394). -/
def execJournalAck (t epoch ackSeq : Nat) (s : State) : Host.Outcome State Fault Refusal :=
  let s := s.clock t
  let j := s.journal
  let sent := (j.pushNext + 2 ^ 32 - 1 - j.pushAcked) % 2 ^ 32
  let ack := (ackSeq + 2 ^ 32 - j.pushAcked) % 2 ^ 32
  if epoch = j.epoch ∧ s.pushing ∧ 0 < ack ∧ ack ≤ sent then
    .next (s.mapJournal fun j => { j with pushAcked := ackSeq % 2 ^ 32 })
  else .next s

/-- TRANSACTION (R391 to R393): a request body arrives over the chain. [DEDUCED, log 31] -/
def execTransaction (t : Nat) (port : ChPort) (f : TransFrame) (s : State) : Host.Outcome State Fault Refusal :=
  let s := s.clock t
  let w : Requester := .chain f.requester
  let h := f.hdr
  let mine := h.dst == 0xFFFF || (h.dst == 0xFFFE && f.target == uid) || (h.dst == s.net.node && h.dst < 0xFFFE)
  if s.chainLink port && h.version == 1 && h.kind == 3 && mine && f.requester != uid && s.canRun w &&
      decide (8 ≤ f.body.length) then
    let reply := !h.flags.testBit 4
    match s.kept w f.body with
    | some r => .next (if reply then s.sendResponse f.requester h.srcNode r else s)
    | none => .next (s.arrive w { node := h.srcNode, reply, body := f.body })
  else .next s

end Sys2Proof.Machine
end

