-- ==== Sys2Proof/Machine/Boot.lean ====
section
/-!
DEFINITION. Boot (16_host.md, R484 to R490): images and their checks, the boot records, the recipe records, flash slots, and what
follows when every source fails.
-/

set_option autoImplicit false

namespace Sys2Proof.Machine

/-- A change of the boot record. -/
def State.mapBoot (s : State) (f : Boot → Boot) : State := { s with boot := f s.boot }

/-- Whether the boot ROM accepts an image (R486). [DESIGN CHOICE, log 69] -/
def State.imageOk (s : State) (img : BootImage) : Bool :=
  img.headerOk && img.signatureOk && s.boot.keyHash.all (fun k => k == img.keyHash) &&
    decide (s.rd 0x2303 5 ≤ img.secVersion)

/-! ## Boot records -/

/-- Whether a record names something that PD_AO holds (R52, R431, R487). -/
def recordKept (r : BootRecord) : Bool :=
  if r.block then between 0x5100 0x5107 r.index else objAo (pairKey (key r.index r.sub)) || r.index == 0x1020

/-- Whether a record is applied at the present boot (R487): what PD_AO holds only after power-on, and 1020h also after RESET_N. -/
def State.applies (s : State) (r : BootRecord) : Bool :=
  !recordKept r || s.boot.powerOn || (r.index == 0x1020 && s.boot.resetBoot)

/-- Whether a record waits for the rate domains (R487). -/
def recordLate (r : BootRecord) : Bool := r.block && between 0x5000 0x50FF r.index

/-- A record executes from the internal origin (R487), as a WRITE or as a block close; the status it completes with. -/
def State.execRecord (s : State) (r : BootRecord) : State × Nat :=
  let b : Body :=
    if r.block then { op := 2, tid := 0, index := r.index, sub := 3, len := 4, data := leBytes 4 (crc32 r.data) }
    else { op := 2, tid := 0, index := r.index, sub := r.sub, len := r.data.length, data := r.data }
  let s := if r.block then s.mapReq .internal fun x => { x with buffer := some { index := r.index, data := r.data } } else s
  let x := s.execBody .internal 0xFFFF b
  (x.s.mapReq .internal ReqState.dropBuffer, x.status)

/-- A record executes, and a failed one is counted (R487). -/
def State.doRecord (s : State) (r : BootRecord) : State :=
  let x := s.execRecord r
  if x.2 = 0 then x.1 else x.1.wr 0x2303 8 (min 65535 (x.1.rd 0x2303 8 + 1))

/-! ## The board's EEPROM -/

/-- Whether the EEPROM's bytes carry the marker of R478. -/
def eepromOk (l : List Byte) : Bool := l.length == 16 && l.take 4 == [0x54, 0x4E, 0x42, 0x44]

/-- The EEPROM is read (R478). [DEDUCED, log 68] -/
def State.readEeprom (s : State) (l : List Byte) : State :=
  if s.rd 0x2301 4 = 0 then s
  else if eepromOk l then
    ((s.wr 0x2301 8 (u32At l 4)).wr 0x2301 9 (leNat (Machine.slice l 8 8))).wrBit 0x2301 5 3 false
  else ((s.wr 0x2301 8 0).wr 0x2301 9 0).wrBit 0x2301 5 3 true

/-! ## Booting -/

/-- `SLOT_STATUS` as a boot finds it (R493): the slot that boots is valid, one tried in vain is not. [DEDUCED, log 68] -/
def State.noteSlots (s : State) (img : BootImage) : State :=
  let s := if img.source = 1 then s.wrBit 0x2303 0x0C 0 true else if img.slot0Bad || img.noFlash then s.wrBit 0x2303 0x0C 0 false else s
  if img.source = 2 then s.wrBit 0x2303 0x0C 1 true else if img.slot1Bad || img.noFlash then s.wrBit 0x2303 0x0C 1 false else s

/-- The records that a boot applies before BOOT_DONE; a goal they set waits for its end (R487). -/
def State.bootRecords (s : State) (l : List BootRecord) : State :=
  let s := (l.filter fun r => !recordLate r && s.applies r).foldl State.doRecord s
  s.mapMs fun m => { m with trans := match m.trans with
    | .descent _ _ _ => .none
    | x => x }

/-- The goal after the boot (R88, R101, R487): after a wake that of `WAKE_TARGET`, or of the beacon. -/
def State.bootGoal (s : State) : State :=
  if s.ms.wakeBoot then
    (s.wr 0x2000 2 (if s.ms.wakeTarget = 0 then s.rd 0x2000 9 else s.ms.wakeTarget)).mapMs fun m => { m with wakeBoot := false }
  else s

/-- What a boot found of the sources it tried before the one that boots (R484, R490, R493): slot 0 before slot 1, and both before a
push, unless `BOOT_SOURCE` names a push only. [DEDUCED, log 68] -/
def State.bootFound (s : State) (img : BootImage) : State :=
  let tried := s.rd 0x2303 1 != 1
  s.mapBoot fun b =>
    { b with noFlash := b.noFlash || (tried && img.source == 3 && img.noFlash),
             slot0Bad := b.slot0Bad || (tried && (img.source == 2 || (img.source == 3 && img.slot0Bad))),
             slot1Bad := b.slot1Bad || (tried && img.source == 3 && img.slot1Bad) }

/-- An accepted image boots (R478, R486, R487, R490): its records are applied, and BOOT_DONE sets. [DEDUCED, log 68] -/
def State.bootWith (s : State) (img : BootImage) (eeprom : List Byte) : State :=
  let s := s.noteSlots img
  let s := (((s.wr 0x2303 2 (img.source % 4)).wr 0x2303 3 (img.fwVersion % 2 ^ 32)).wr 0x2303 4 (img.secVersion % 2 ^ 32)).wr 0x2303 8 0
  let s := (s.bootFound img).mapBoot fun b =>
    { b with pushWait := false, failed := false, pushed := [], records := img.records.filter recordLate, reported := true }
  let s := (s.bootRecords img.records).readEeprom eeprom
  let s := (s.wr 0x2303 9 ((s.now - s.boot.startAt) / 1000 % 2 ^ 32)).mapBoot fun b => { b with powerOn := false, resetBoot := false }
  let s := (s.mapMs fun m => { m with booted := true }).latch 2
  ((s.bootGoal.requestWanted).refresh).applyTarget

/-- Whether the boot ROM is at work on the flash slots (R484, R490). -/
def State.booting (s : State) : Bool :=
  s.pdOn 3 && !s.ms.booted && !s.ms.ctlHeld && !s.boot.pushWait && !s.boot.failed

/-- BOOT_IMAGE_ACCEPTED (R484, R486, R487): an image of a flash slot. [DESIGN CHOICE, log 5, 69] -/
def execBootImageAccepted (t : Nat) (img : BootImage) (eeprom : List Byte) (s : State) : Host.Outcome State Fault Refusal :=
  let s := s.clock t
  if s.booting && s.rd 0x2303 1 != 1 && (img.source == 1 || img.source == 2) && !s.ms.low.contains .vddioD && s.imageOk img then
    .next (s.bootWith img eeprom)
  else .next s

/-- BOOT_FAIL (R490): every source failed: the device waits for a push, or retries the slots. Whether the flash was absent is free; a
slot of a flash that answers was bad. [DEDUCED, log 68] -/
def execBootFail (t : Nat) (s : State) : Host.Outcome State Fault Refusal :=
  let s := s.clock t
  if s.booting then
    let r := s.draw 1
    let s := if s.rd 0x2303 1 = 1 then s
      else r.2.mapBoot fun b => if r.1 = 1 then { b with noFlash := true } else { b with slot0Bad := true, slot1Bad := true }
    .next (s.mapBoot fun b => if s.rd 0x2303 1 = 2 then { b with failed := true, retryAt := s.now } else { b with pushWait := true })
  else .next s

/-- BOOT_RETRY (R490): every 1 s with `BOOT_SOURCE` 02h. -/
def execBootRetry (t : Nat) (s : State) : Host.Outcome State Fault Refusal :=
  let s := s.clock t
  if s.pdOn 3 && !s.ms.booted && s.boot.failed && decide (s.boot.retryAt + 1000000000 ≤ s.now) then
    .next (s.mapBoot fun b => { b with failed := false })
  else .next s

/-- The recipe records, in order; one that has to wait for an earlier commit keeps the rest waiting. [DEDUCED, log 68] -/
def State.recipeRecords : State → List BootRecord → State × List BootRecord
  | s, [] => (s, [])
  | s, r :: l =>
    let x := s.execRecord r
    if x.2 = 9 then (s, r :: l)
    else (if x.2 = 0 then x.1 else x.1.wr 0x2303 8 (min 65535 (x.1.rd 0x2303 8 + 1))).recipeRecords l

/-- RECIPE_RECORDS (R90, R487): the rate domains run in TEAL, or in a mode reached from it. -/
def execRecipeRecords (t : Nat) (s : State) : Host.Outcome State Fault Refusal :=
  let s := s.clock t
  if s.hostUp && !s.ms.recipesLoaded && (Mode.awake s.ms.mode) && (List.range 3).any (fun d => (s.dom d).running) then
    let r := s.recipeRecords s.boot.records
    let s := r.1.mapBoot fun b => { b with records := r.2 }
    .next (if r.2.isEmpty then s.mapMs fun m => { m with recipesLoaded := true } else s)
  else .next s

/-! ## Flash slots and versions -/

/-- VERIFY_SLOT (R489): a WRITE of 2303h.0Bh; `slotOk` is what the check of the slot finds. -/
def execVerifySlot (t : Nat) (q : Req) (data : List Byte) (slotOk : Bool) (s : State) : Host.Outcome State Fault Refusal :=
  let s := s.clock t
  let s' := s.transactWrite q 0x2303 0x0B data
  match s'.journal.ring with
  | e :: _ =>
    if s'.journal.head ≠ s.journal.head ∧ e.kind = .write ∧ e.index = 0x2303 ∧ e.sub = 0x0B ∧ e.status = 0 then
      .next (s'.wrBit 0x2303 0x0C (e.value - 1) slotOk)
    else .next s'
  | [] => .next s'

/-- COMMIT_SV (R486): a WRITE of 01h to 2303h.06. -/
def execCommitSv (t : Nat) (q : Req) (s : State) : Host.Outcome State Fault Refusal :=
  .next ((s.clock t).transactWrite q 0x2303 6 [1])

end Sys2Proof.Machine
end

