-- ==== Sys2Proof/Machine/HostBus.lean ====
section
/-!
DEFINITION. The host ports (16_host.md, R463 to R482): the commands of TWB0, Host Notify, arbitration and recovery of the two-wire
buses, and the frames of HSPI.
-/

set_option autoImplicit false

namespace Sys2Proof.Machine

/-! ## Status byte and checks -/

/-- A change of the host ports' record. [DESIGN CHOICE, log 84] -/
def State.mapHost (s : State) (f : HostPorts → HostPorts) : State := { s with host := f s.host }

/-- The status byte for an origin (R481): 42h while the boot ROM waits for a push. [DEDUCED, log 71] -/
def State.statusByte (s : State) (w : Requester) : Nat :=
  if s.boot.pushWait then 0x42
  else bit s.hostUp 7 + bit (!(s.req w).out.isEmpty) 5 + bit s.attnLow 4 + bit s.host.crcErr 3 +
    bit s.host.dropped 2 + 2

/-- One step of the CRC-16 of R480: the highest `n` bits of what is left are worked off. -/
def crc16Bits (n c : Nat) : Nat :=
  match n with
  | 0 => c
  | m + 1 => crc16Bits m (if c.testBit 15 then (2 * c % 65536) ^^^ 0x1021 else 2 * c % 65536)

/-- The CRC-16 of R480. -/
def crc16 (l : List Byte) : Nat := l.foldl (fun c b => crc16Bits 8 (c ^^^ (b.toNat * 256))) 0xFFFF

/-- Whether the length of a request body is the one that its OP and LEN imply (R467); an undefined OP implies none. [DEDUCED, log 72] -/
def bodyFits (l : List Byte) : Bool :=
  match parseBody l with
  | none => false
  | some b => match b.op with
    | 1 => l.length == 8
    | 4 => l.length == 12
    | 2 => l.length == 8 + b.len
    | 3 => l.length == 8 + b.len
    | 5 => l.length == 8 + b.len
    | _ => true

/-! ## TWB0 -/

/-- A TWB0 transfer addressed to the device (R83, R107, R463): while no transaction executes the match is a wake source and is not
acknowledged; with VDDIO_C out of tolerance the target is stopped. Otherwise the port does `f` and sends its bytes for the command
`code`. -/
def State.twb (s : State) (code : Nat) (f : State → State × List Byte) : State :=
  if s.ms.low.contains .vddioC then s
  else if !s.hostUp then (s.wake .twb0).mapHost fun h => { h with sentTwb := [], sentPec := none }
  else
    let r := f (s.mapHost fun h => { h with stretching := false })
    r.1.twbSends code r.2

/-- The oldest unread response of an origin is removed (R468, R480). -/
def State.takeResponse (s : State) (w : Requester) (r : Response) : State :=
  let s := s.mapReq w fun x => { x with out := x.out.drop 1 }
  (s.mapHost fun h => if w = .twb0 then { h with lastTwb := some r } else { h with lastHspi := some r }).settleNotify

/-- DEVICE_ID (R466). -/
def execDeviceId (t : Nat) (s : State) : Host.Outcome State Fault Refusal :=
  .next ((s.clock t).twb 0x01 fun s => (s, leBytes 2 0x9648))

/-- STATUS (R466, R481). -/
def execStatus (t : Nat) (s : State) : Host.Outcome State Fault Refusal :=
  .next ((s.clock t).twb 0x02 fun s => (s, leBytes 1 (s.statusByte .twb0)))

/-- Whether the PEC of a write fails (R470). -/
def State.pecFails (s : State) (pec : Option Bool) : Bool :=
  match s.rd 0x2300 3, pec with
  | 0, _ => false
  | 1, some ok => !ok
  | 1, none => false
  | _, some ok => !ok
  | _, none => true

/-- A REQUEST at its end (R467, R470). -/
def State.twbRequest (s : State) (x : TwbWrite) : State :=
  if s.pecFails x.pec then (s.bump 0x2300 9).event 0xB2 0x2300
  else
    let body := x.bytes.take x.count
    if x.count < 8 ∨ body.length < x.count ∨ !bodyFits body then s.bump 0x2300 0x0A
    else s.arrive .twb0 { node := 0xFFFF, reply := true, body }

/-- REQUEST (R467). -/
def execRequest (t : Nat) (x : TwbWrite) (s : State) : Host.Outcome State Fault Refusal :=
  .next ((s.clock t).twb 0x10 fun s => (s.twbRequest x, []))

/-- RESPONSE (R468): the oldest unread response, removed if the controller has taken all of it; with none ready the device stretches
SCL while a request waits. -/
def execResponse (t : Nat) (taken : Bool) (s : State) : Host.Outcome State Fault Refusal :=
  .next ((s.clock t).twb 0x11 fun s =>
    match s.twb0.out with
    | r :: _ => (if taken then s.takeResponse .twb0 r else s, counted r.bytes)
    | [] =>
      if s.twb0.queue.isEmpty then (s, [0])
      else (s.mapHost fun h => { h with stretching := true, stretchAt := s.now, stretchTaken := taken }, []))

/-- RESPONSE_LEN (R466). -/
def execResponseLen (t : Nat) (s : State) : Host.Outcome State Fault Refusal :=
  .next ((s.clock t).twb 0x12 fun s =>
    (s, leBytes 1 (match s.twb0.out with
      | r :: _ => r.bytes.length
      | [] => 0)))

/-- RESEND (R468). -/
def execResend (t : Nat) (s : State) : Host.Outcome State Fault Refusal :=
  .next ((s.clock t).twb 0x13 fun s =>
    (s, counted (match s.host.lastTwb with
      | some r => r.bytes
      | none => [])))

/-- ATTENTION (R473): the word is read by TWB0 command 14h, or as the object 2300h.06. -/
def execAttention (t : Nat) (via : AttnVia) (s : State) : Host.Outcome State Fault Refusal :=
  let s := s.clock t
  match via with
  | .twb0 => .next (s.twb 0x14 fun s => (s.attnRead, leBytes 2 s.attention))
  | .object q len => .next (s.transact q { op := 1, tid := q.tid, index := 0x2300, sub := 6, len, data := [] })

/-- The command codes of R466. -/
def twbCodes : List Nat := [0x01, 0x02, 0x10, 0x11, 0x12, 0x13, 0x14]

/-- UNKNOWN_COMMAND (R466): a code that is not listed is not acknowledged. -/
def execUnknownCommand (t code : Nat) (s : State) : Host.Outcome State Fault Refusal :=
  let s := s.clock t
  if twbCodes.contains code then .next s else .next (s.twb code fun s => (s, []))

/-- START_IN_ACK (R471). -/
def execStartInAck (t : Nat) (s : State) : Host.Outcome State Fault Refusal :=
  let s := s.clock t
  if s.hostUp && !s.ms.low.contains .vddioC then
    .next ((s.twb 0 fun s => (s, [])).bump 0x2300 7 |>.event 0xB0 0x2300)
  else .next s

/-- STRETCH_TIMEOUT (R468): 10 ms of stretching; the device sends a count of 0. -/
def execStretchTimeout (t : Nat) (s : State) : Host.Outcome State Fault Refusal :=
  let s := s.clock t
  if s.host.stretching && s.hostUp && s.twb0.out.isEmpty && decide (s.host.stretchAt + 10000000 ≤ s.now) then
    .next (s.twb 0x11 fun s => (s, [0]))
  else .next s

/-- SCL_TIMEOUT (R472). -/
def execSclTimeout (t : Nat) (s : State) : Host.Outcome State Fault Refusal :=
  let s := s.clock t
  if s.hostUp && !s.ms.low.contains .vddioC then
    .next ((s.twb 0 fun s => (s, [])).bump 0x2300 8 |>.event 0xB1 0x2300)
  else .next s

/-! ## The device as controller -/

/-- Whether the device may send a Host Notify (R83, R107, R474, R476). [DEDUCED, log 70] -/
def State.mayNotify (s : State) : Bool := s.hostUp && !s.ms.low.contains .vddioC && !s.host.stuck0

/-- A notify has failed its attempt (R474): it is retried 1 ms later, and given up after the eighth. -/
def State.notifyFail (s : State) : State :=
  let n := s.host.attempts + 1
  let s := s.mapHost fun h => { h with attempts := n, notifyAt := s.now, notify := if n < 8 then 2 else 3 }
  if n < 8 then s else (s.bump 0x2300 0x0E).event 0xB4 0x2300

/-- A notify is sent (R474): it carries the attention word as it is. [DEDUCED, log 70] -/
def State.sendNotify (s : State) (ack : Bool) : State :=
  let s := s.mapHost fun h =>
    { h with masked := s.notifyBits,
             sentTwb := leBytes 1 0x10 ++ leBytes 1 (2 * h.addr) ++ leBytes 2 s.attention, sentPec := none }
  if ack then s.mapHost fun h => { h with notify := 0, attempts := 0 } else s.notifyFail

/-- HOST_NOTIFY (R474): the first attempt. -/
def execHostNotify (t : Nat) (ack : Bool) (s : State) : Host.Outcome State Fault Refusal :=
  let s := s.clock t
  if s.mayNotify && s.host.notify == 0 && s.notifyDue then .next ((s.mapHost fun h => { h with attempts := 0 }).sendNotify ack)
  else .next s

/-- NOTIFY_RETRY (R474). -/
def execNotifyRetry (t : Nat) (ack : Bool) (s : State) : Host.Outcome State Fault Refusal :=
  let s := s.clock t
  if s.mayNotify && s.host.notify == 2 && decide (s.host.notifyAt + 1000000 ≤ s.now) then .next (s.sendNotify ack) else .next s

/-- Whether the device is controller of a bus now: a notify on TWB0; a PMBus or an EEPROM transfer on TWB1. -/
def State.controls (s : State) (bus : Nat) : Bool :=
  if bus = 0 then s.mayNotify && (s.host.notify == 2 || (s.host.notify == 0 && s.notifyDue))
  else s.pdOn 3 && ((s.avs.op.isSome && !s.avs.waiting) || (!s.ms.booted && s.rd 0x2301 4 != 0))

/-- ARBITRATION_LOST (R475): the transfer is not delivered and is sent again; it is no failed attempt. [DEDUCED, log 70] -/
def execArbitrationLost (t bus : Nat) (during : ArbPhase) (s : State) : Host.Outcome State Fault Refusal :=
  let s := s.clock t
  if bus < 2 ∧ s.controls bus then
    let s := if bus = 1 then s.mapHost fun h => { h with arbAt := some s.now } else s
    match during with
    | .address _ => .next s
    | .data => .next s
    | .stop => .next ((if bus = 0 then s.bump 0x2300 0x0C else s.bump 0x2301 0x0A).event 0xB5 (0x2300 + bus))
    | .restart => .next ((if bus = 0 then s.bump 0x2300 0x0D else s.bump 0x2301 0x0A).event 0xB6 (0x2300 + bus))
  else .next s

/-- The transfer pending on a bus fails because SDA stays low (R105, R474, R476). [DEDUCED, log 70] -/
def State.busFails (s : State) (bus : Nat) : State :=
  if bus = 0 then (if s.host.notify = 2 ∨ (s.host.notify = 0 ∧ s.hostUp ∧ s.notifyDue) then s.notifyFail else s)
  else if s.avs.op.isSome ∧ !s.avs.waiting then s.avsFail
  else s

/-- A recovery of a bus (R476): SDA is high after pulse `pulses`, or still low after the ninth. -/
def State.recover (s : State) (bus pulses : Nat) : State :=
  if 1 ≤ pulses ∧ pulses ≤ 9 then
    (s.bump 0x2301 6).mapHost fun h => if bus = 0 then { h with stuck0 := false } else { h with stuck1 := false }
  else
    let s := s.event 0xB7 (0x2300 + bus)
    let s := s.busFails bus
    s.mapHost fun h =>
      if bus = 0 then { h with stuck0 := true, recoverAt0 := s.now } else { h with stuck1 := true, recoverAt1 := s.now }

/-- BUS_RECOVERY (R476): SDA has been low for 1 ms while SCL is high, before a transfer or after a start of PD_CORE0. -/
def execBusRecovery (t bus pulses : Nat) (s : State) : Host.Outcome State Fault Refusal :=
  let s := s.clock t
  if bus < 2 ∧ s.pdOn 3 then .next (s.recover bus pulses) else .next s

/-- BUS_STUCK_RETRY (R476): every 1 s while BUS_STUCK is set. -/
def execBusStuckRetry (t bus pulses : Nat) (s : State) : Host.Outcome State Fault Refusal :=
  let s := s.clock t
  let (stuck, at_) := if bus = 0 then (s.host.stuck0, s.host.recoverAt0) else (s.host.stuck1, s.host.recoverAt1)
  if bus < 2 ∧ s.pdOn 3 ∧ stuck ∧ at_ + 1000000000 ≤ s.now then .next (s.recover bus pulses) else .next s

/-! ## HSPI -/

/-- A frame of HSPI (R83, R107, R479, R481, R493): with VDDIO_D out of tolerance the port is stopped; while no transaction executes
it sends the not-ready response, on all lanes in use, and its chip-select is a wake source; while the boot ROM waits for a push, it does `g`. Otherwise
it does `f`. The lanes change at the frame's end. [DEDUCED, log 72] -/
def State.hspiFrame (s : State) (f g : State → State × List Byte) : State :=
  if s.ms.low.contains .vddioD then s
  else if !s.hostUp && !s.boot.pushWait then (s.wake .hspi).mapHost fun h => { h with sentHspi := [0x02, 0xFF], lanes := s.rd 0x2302 1 }
  else
    let s := s.bump 0x2302 4
    let r := if s.boot.pushWait then g s else f s
    r.1.mapHost fun h => { h with sentHspi := r.2, lanes := r.1.rd 0x2302 1 }

/-- The answer of a frame that carries nothing back: the status byte, then FFh; on four lanes, which are half duplex, none (R479,
R480). [DEDUCED, log 72] -/
def State.bare (s : State) : List Byte := if s.host.lanes = 1 then [] else leBytes 1 (s.statusByte .hspi) ++ [0xFF]

/-- An answer with its CRC-16, low byte first (R480). -/
def withCrc (l : List Byte) : List Byte := l ++ leBytes 2 (crc16 l)

/-- A frame fails its CRC (R482). -/
def State.crcFails (s : State) : State :=
  ((s.mapHost fun h => { h with crcErr := true }).bump 0x2302 2).event 0xB8 0x2302

/-- A frame is discarded and counted (R482, R488). -/
def State.frameError (s : State) : State := s.bump 0x2302 3

/-- HSPI_REQUEST (R480, R482). [DEDUCED, log 72] -/
def execHspiRequest (t : Nat) (body : List Byte) (crc : Nat) (s : State) : Host.Outcome State Fault Refusal :=
  .next ((s.clock t).hspiFrame
    (fun s =>
      (if !bodyFits body then s.frameError
       else if crc16 (0x01 :: body) ≠ crc then s.crcFails
       else s.arrive .hspi { node := 0xFFFF, reply := true, body }, s.bare))
    fun s => (s, s.bare))

/-- FETCH (R480): `full` says that HSPI_CS_N rose after the last CRC byte. -/
def execFetch (t : Nat) (full : Bool) (s : State) : Host.Outcome State Fault Refusal :=
  .next ((s.clock t).hspiFrame
    (fun s =>
      let head := leBytes 1 (s.statusByte .hspi)
      match s.hspi.out with
      | r :: _ => (if full then s.takeResponse .hspi r else s.frameError, withCrc (head ++ r.bytes))
      | [] => (if full then s else s.frameError, withCrc head))
    fun s => (s, s.bare))

/-- A STATUS frame (R473, R480, R481): it clears the latched bits, CRC_ERR and DROPPED. [DEDUCED, log 71] -/
def State.hspiStatusFrame (s : State) (full : Bool) : State × List Byte :=
  (if full then s.attnRead.mapHost fun h => { h with crcErr := false, dropped := false } else s.frameError,
   withCrc (leBytes 1 (s.statusByte .hspi) ++ leBytes 2 s.attention))

/-- HSPI_STATUS (R480, R481). -/
def execHspiStatus (t : Nat) (full : Bool) (s : State) : Host.Outcome State Fault Refusal :=
  .next ((s.clock t).hspiFrame (fun s => s.hspiStatusFrame full) fun s => s.hspiStatusFrame full)

/-- REFETCH (R480): the last response removed, again. -/
def execRefetch (t : Nat) (full : Bool) (s : State) : Host.Outcome State Fault Refusal :=
  .next ((s.clock t).hspiFrame
    (fun s =>
      let head := leBytes 1 (s.statusByte .hspi)
      (if full then s else s.frameError,
       match s.host.lastHspi with
       | some r => withCrc (head ++ r.bytes)
       | none => withCrc head))
    fun s => (s, s.bare))

/-- What a PUSH does (R480, R482, R488): a frame that reaches beyond the image or whose CRC fails is discarded; while the boot ROM
waits for a push, any other stores its segment. [DEDUCED, log 72] -/
def State.pushSegment (s : State) (offset : Nat) (data : List Byte) (crc : Nat) : State :=
  if data.length = 0 ∨ 512 < data.length ∨ 0x400000 < offset + data.length then s.frameError
  else if crc16 (0x10 :: (leBytes 4 offset ++ leBytes 2 data.length ++ data)) ≠ crc then s.crcFails
  else if s.boot.pushWait then { s with boot := { s.boot with pushed := s.boot.pushed ++ [(offset, data.length)] } }
  else s

/-- PUSH (R480, R482, R488): a segment of an image; its bytes are those that PUSH_END names. -/
def execPush (t offset : Nat) (data : List Byte) (crc : Nat) (s : State) : Host.Outcome State Fault Refusal :=
  .next ((s.clock t).hspiFrame (fun s => (s.pushSegment offset data crc, s.bare)) fun s =>
    (s.pushSegment offset data crc, s.bare))

/-- PUSH_END (R480, R486, R488): the image that the pushed bytes make up boots, or the bytes are cleared. What the board's EEPROM
answers then is free. [DESIGN CHOICE, log 69] -/
def execPushEnd (t length crc : Nat) (imgOk : BootImage) (s : State) : Host.Outcome State Fault Refusal :=
  .next ((s.clock t).hspiFrame (fun s => (s, s.bare)) fun s =>
    (if crc16 (0x11 :: leBytes 4 length) ≠ crc then s.crcFails
     else if s.boot.pushed.isEmpty ∨ (s.boot.pushed.any fun x => decide (length < x.1 + x.2)) ∨ !s.imageOk imgOk then
       { s with boot := { s.boot with pushed := [], pushErr := true } }
     else
       let r := s.draw 129
       r.2.bootWith { imgOk with source := 3 } (if r.1.testBit 128 then leBytes 16 r.1 else []), s.bare))

/-- HSPI_FRAME_ABORT (R482). -/
def execHspiFrameAbort (t : Nat) (s : State) : Host.Outcome State Fault Refusal :=
  .next ((s.clock t).hspiFrame (fun s => (s.frameError, s.bare)) fun s => (s.frameError, s.bare))

end Sys2Proof.Machine
end

