-- ==== Sys2Proof/Machine/OwnRows.lean ====
section
/-!
DEFINITION. The commands that are a transaction on one object (R54, R63): each is the READ or the WRITE of that object by a
requester; what the write does is the object's own (Apply.lean). One whose operands name no such object has no effect.
-/

set_option autoImplicit false

namespace Sys2Proof.Machine

/-- A command that is a WRITE of one object, if its operands name one. -/
def State.ownWrite (s : State) (ok : Bool) (q : Req) (i sub : Nat) (data : List Byte) : Host.Outcome State Fault Refusal :=
  if ok then .next (s.transactWrite q i sub data) else .next s

/-- A command that is a READ of one object, if its operands name one. -/
def State.ownRead (s : State) (ok : Bool) (q : Req) (i sub len : Nat) : Host.Outcome State Fault Refusal :=
  if ok then .next (s.transact q { op := 1, tid := q.tid, index := i, sub, len, data := [] }) else .next s

/-- TARGET_MODE (R85): a WRITE of 2000h.02. -/
def execTargetMode (t : Nat) (q : Req) (data : List Byte) (s : State) : Host.Outcome State Fault Refusal :=
  (s.clock t).ownWrite true q 0x2000 2 data

/-- KEEP_OFF (R42, R96): a WRITE of 2010h + domain, sub 04h. -/
def execKeepOff (t : Nat) (q : Req) (pd : Nat) (data : List Byte) (s : State) : Host.Outcome State Fault Refusal :=
  (s.clock t).ownWrite (decide (pd < 12)) q (0x2010 + pd) 4 data

/-- CRIMSON_ACK (R95): a WRITE of 01h to 2000h.06. -/
def execCrimsonAck (t : Nat) (q : Req) (s : State) : Host.Outcome State Fault Refusal :=
  (s.clock t).ownWrite true q 0x2000 6 [1]

/-- CEILING (R106): a WRITE of 2004h.02. -/
def execCeiling (t : Nat) (q : Req) (data : List Byte) (s : State) : Host.Outcome State Fault Refusal :=
  (s.clock t).ownWrite true q 0x2004 2 data

/-- FORCE_SWITCH (R120): a WRITE of 01h to a multiplexer's object. -/
def execForceSwitch (t : Nat) (q : Req) (index sub : Nat) (s : State) : Host.Outcome State Fault Refusal :=
  (s.clock t).ownWrite (forceOf index sub).isSome q index sub [1]

/-- REF_SCALE (R144): a WRITE of 2104h + synthesizer, sub 02h. -/
def execRefScale (t : Nat) (q : Req) (x : Syn) (data : List Byte) (s : State) : Host.Outcome State Fault Refusal :=
  (s.clock t).ownWrite true q (0x2104 + x.num) 2 data

/-- LEADER (R147): a WRITE of 2108h + loop, sub 01h. -/
def execLeader (t : Nat) (q : Req) (loop : Nat) (data : List Byte) (s : State) : Host.Outcome State Fault Refusal :=
  (s.clock t).ownWrite (decide (loop < 2)) q (0x2108 + loop) 1 data

/-- OVER_LATCH (R173): a WRITE of 3000h + channel, sub 0Ah. -/
def execOverLatch (t : Nat) (q : Req) (n : Nat) (data : List Byte) (s : State) : Host.Outcome State Fault Refusal :=
  (s.clock t).ownWrite (between 1 48 n) q (0x3000 + n) 0x0A data

/-- BLOCK_LIVE_VALUE (R251): a WRITE of 3600h + lane, sub 10h + block. -/
def execBlockLiveValue (t : Nat) (q : Req) (lane block : Nat) (data : List Byte) (s : State) : Host.Outcome State Fault Refusal :=
  (s.clock t).ownWrite (decide (lane < 128) && decide (block < 64)) q (0x3600 + lane) (0x10 + block) data

/-- FAULT_CLEAR (R317, R326): a WRITE of 01h to an output's object. -/
def execFaultClear (t : Nat) (q : Req) (index : Nat) (s : State) : Host.Outcome State Fault Refusal :=
  (s.clock t).ownWrite (between 0x3101 0x3130 index || between 0x3201 0x3202 index) q index (if index < 0x3200 then 0x0A else 0x10) [1]

/-- JACK_ACTION (R326): a WRITE of `JACK_ACTION` or `JACK_POLARITY`. -/
def execJackAction (t : Nat) (q : Req) (n : Nat) (polarity : Bool) (data : List Byte) (s : State) : Host.Outcome State Fault Refusal :=
  (s.clock t).ownWrite (between 1 2 n) q (0x3200 + n) (if polarity then 9 else 8) data

/-- SHARE_REQUEST (R371): a WRITE of 4003h.01. -/
def execShareRequest (t : Nat) (q : Req) (data : List Byte) (s : State) : Host.Outcome State Fault Refusal :=
  (s.clock t).ownWrite true q 0x4003 1 data

/-- SEND_BEACON (R398): a WRITE of 4000h.0Dh. -/
def execSendBeacon (t : Nat) (q : Req) (data : List Byte) (s : State) : Host.Outcome State Fault Refusal :=
  (s.clock t).ownWrite true q 0x4000 0x0D data

/-- SWITCH_REQUEST (R417): a WRITE of 4100h.0Bh. -/
def execSwitchRequest (t : Nat) (q : Req) (data : List Byte) (s : State) : Host.Outcome State Fault Refusal :=
  (s.clock t).ownWrite true q 0x4100 0x0B data

/-- GRANT_TO (R417): a WRITE of 4110h + pair, sub 06h. -/
def execGrantTo (t : Nat) (q : Req) (pair : Nat) (data : List Byte) (s : State) : Host.Outcome State Fault Refusal :=
  (s.clock t).ownWrite (decide (pair < 16)) q (0x4110 + pair) 6 data

/-- RING_RELEASE (R432): a WRITE of 01h to 3A01h.04. -/
def execRingRelease (t : Nat) (q : Req) (s : State) : Host.Outcome State Fault Refusal :=
  (s.clock t).ownWrite true q 0x3A01 4 [1]

/-- SW_TRIGGER (R450): a WRITE of 01h to 2200h.0Bh. -/
def execSwTrigger (t : Nat) (q : Req) (s : State) : Host.Outcome State Fault Refusal :=
  (s.clock t).ownWrite true q 0x2200 0x0B [1]

/-- URGENT_BANK (R452): a WRITE of `URGENT` with TARGET 111b. -/
def execUrgentBank (t : Nat) (q : Req) (data : List Byte) (s : State) : Host.Outcome State Fault Refusal :=
  (s.clock t).ownWrite (decide (leNat data / 0x2000 = 7)) q 0x2200 0x14 data

/-- URGENT_SLICE (R453): a WRITE of `URGENT` that names a slice. -/
def execUrgentSlice (t : Nat) (q : Req) (data : List Byte) (s : State) : Host.Outcome State Fault Refusal :=
  (s.clock t).ownWrite (decide (leNat data / 0x2000 ≠ 7)) q 0x2200 0x14 data

/-- REF_SOURCE (R454): a WRITE of 2200h.0Ah. -/
def execRefSource (t : Nat) (q : Req) (data : List Byte) (s : State) : Host.Outcome State Fault Refusal :=
  (s.clock t).ownWrite true q 0x2200 0x0A data

/-- WINDOW_MODE (R445, R455): a WRITE of 2200h.09. -/
def execWindowMode (t : Nat) (q : Req) (data : List Byte) (s : State) : Host.Outcome State Fault Refusal :=
  (s.clock t).ownWrite true q 0x2200 9 data

/-- RETRAIN (R510): a WRITE of 01h to 3B00h.0Dh. -/
def execRetrain (t : Nat) (q : Req) (s : State) : Host.Outcome State Fault Refusal :=
  (s.clock t).ownWrite true q 0x3B00 0x0D [1]

/-- TRANSPORT_COMMAND (R505): a WRITE of 3B60h + transport, sub 01h. -/
def execTransportCommand (t : Nat) (q : Req) (tr : Nat) (data : List Byte) (s : State) : Host.Outcome State Fault Refusal :=
  (s.clock t).ownWrite (decide (tr < 8)) q (0x3B60 + tr) 1 data

/-- COUNTER_SOURCE (R516): a WRITE of 2410h + counter, sub 01h. -/
def execCounterSource (t : Nat) (q : Req) (n : Nat) (data : List Byte) (s : State) : Host.Outcome State Fault Refusal :=
  (s.clock t).ownWrite (decide (n < 64)) q (0x2410 + n) 1 data

/-- COUNTER_CLEAR (R516): a WRITE of 01h to 2410h + counter, sub 04h. -/
def execCounterClear (t : Nat) (q : Req) (n : Nat) (s : State) : Host.Outcome State Fault Refusal :=
  (s.clock t).ownWrite (decide (n < 64)) q (0x2410 + n) 4 [1]

/-- SNAP_NOW (R519): a WRITE of 01h to 2400h.01. -/
def execSnapNow (t : Nat) (q : Req) (s : State) : Host.Outcome State Fault Refusal :=
  (s.clock t).ownWrite true q 0x2400 1 [1]

/-- SNAP_CHAIN (R520): a WRITE of 01h to 2400h.04. -/
def execSnapChain (t : Nat) (q : Req) (s : State) : Host.Outcome State Fault Refusal :=
  (s.clock t).ownWrite true q 0x2400 4 [1]

/-- TEST_RUN (R525): a WRITE of 01h to 2460h.03. -/
def execTestRun (t : Nat) (q : Req) (s : State) : Host.Outcome State Fault Refusal :=
  (s.clock t).ownWrite true q 0x2460 3 [1]

/-- CRIMSON_CAUSE_READ (R93): a READ of 2000h.04. -/
def execCrimsonCauseRead (t : Nat) (q : Req) (len : Nat) (s : State) : Host.Outcome State Fault Refusal :=
  (s.clock t).ownRead true q 0x2000 4 len

/-- METER_READ (R275): a READ of a meter word. -/
def execMeterRead (t : Nat) (q : Req) (index sub len : Nat) (s : State) : Host.Outcome State Fault Refusal :=
  (s.clock t).ownRead (between 0x3910 0x3943 index && sub != 0) q index sub len

/-- HK_RESULT_READ (R456): a READ of 2210h.01. -/
def execHkResultRead (t : Nat) (q : Req) (len : Nat) (s : State) : Host.Outcome State Fault Refusal :=
  (s.clock t).ownRead true q 0x2210 1 len

end Sys2Proof.Machine
end

