-- ==== Sys2Proof/Machine/Tick.lean ====
section
/-!
DEFINITION. A tick of a rate domain (01_architecture.md, R19 to R30): the parts of commits that are due, what the sources present,
what the router delivers, and what every sample-synchronous function does in the frame.
-/

set_option autoImplicit false

namespace Sys2Proof.Machine

/-- The ports and flows of the domain before their samples, and the slips of the groups (R344, R351, R353). [DEDUCED, log 85] -/
def State.tickPorts (s : State) (d : Nat) : State :=
  (s.eachIn d fun s f => match f with
    | .sapRx p => s.sapBefore p .rx
    | .sapTx p => s.sapBefore p .tx
    | _ => s).tickGroups d

/-- The functions that wait for this tick start, and the enabled links whose input and output have reached RUNNING (R32, R40, R287). -/
def State.tickStarts (s : State) (d : Nat) : State :=
  let l := ((s.funcList.filter s.waitsToStart ++ (List.range 16).map Func.link).filter fun f =>
    s.fdom f == some d && s.canStart f).dedup
  if l.isEmpty then s else (l.foldl State.tryStart s).grantAll

/-- The sources of the domain present their samples (R22). [DEDUCED, log 85] -/
def State.tickSources (s : State) (d : Nat) (env : TickEnv) : State :=
  ((s.eachIn d fun s f => match f with
    | .input n => s.tickInput env.inputs n
    | .sapRx p => s.tickSapRx p
    | .flowRx r => s.tickRx r
    | .play c => s.tickPlay env.latePlays c
    | .lane n => s.presentLane n
    | .bus b => s.presentBus env.lateBuses b
    | _ => s).tickIdleInputs d).tickGens d

/-- The pool, the summing engine and the router do the work of the domain (R20, R21). [DEDUCED, log 85] -/
def State.tickRouter (s : State) (d : Nat) (env : TickEnv) : State :=
  let s := (s.tickAwake d).tickAsrc d
  let s := s.eachIn d fun s f => match f with
    | .bus b => s.computeBus b
    | _ => s
  let s := s.eachIn d fun s f => match f with
    | .route p => s.tickRoute p
    | _ => s
  let s := s.eachIn d fun s f => match f with
    | .delayLine n => s.tickLine env.lateLines n
    | _ => s
  (s.tickLeft d).tickForeign d

/-- What takes samples from the sink points (R21). [DEDUCED, log 85] -/
def State.tickSinks (s : State) (d : Nat) (env : TickEnv) : State :=
  let s := s.eachIn d fun s f => match f with
    | .link l => s.tickLink env.inputs l
    | _ => s
  s.eachIn d fun s f => match f with
    | .output n => s.tickOutput n
    | .hp h => s.tickHp h
    | .pwm n => s.tickPwm n
    | .sapTx p => s.tickSapTx p
    | .flowTx n => s.tickTx n
    | .cap c => s.tickCap env.lateCaps c
    | .lane n => s.feedLane n
    | _ => s

/-- What counts and measures at a tick (R147, R275, R414, R433, R505); in holdover, where no CYCLE_START opens a cycle, the blocks of the
cycles that have ended leave now (R380). [DEDUCED, log 85] -/
def State.tickCounts (s : State) (d : Nat) : State :=
  let s := (((s.countTransports d).tickMeters d).tickLoops d).tickSplice d
  let s := if s.net.flags.testBit 1 then s.sendAudio else s
  if s.outDom 1 = d then s.tickPair else s

/-- The clocks that a tick keeps running (R122): that of the domain's family and that of the PWM modulators. [DEDUCED, log 85] -/
def State.tickGates (s : State) (d : Nat) : State :=
  let s := s.openGate (if family441 (s.dom d).rate then 4 else 3)
  if s.hpwmDom = d then s.openGate 7 else s

/-- A tick of domain `d` (R21). [DEDUCED, log 85] -/
def State.tick (s : State) (d : Nat) (env : TickEnv) : State :=
  let s := (s.setDom d ((s.dom d).tick s.now)).tickGates d
  let frame := (s.dom d).frame
  let s := (((s.tickEnds d).applyDue d frame false).tickStarts d).tickTransports d frame
  ((((s.tickPorts d).tickSources d env).tickRouter d env).tickSinks d env).tickCounts d

/-- A tick of talkback, which counts as domain 3 (R91): 16,000 of them come in a second. [DEDUCED, log 43] -/
def State.tickTalkback (s : State) (env : TickEnv) : State :=
  let s := (s.setDom 3 { s.dom 3 with tickAt := s.now }).tickTalk env.inputs
  if s.waitsToStart (.hp 1) then s.tryStart (.hp 1) else s

/-- TICK (R21, R91): of a domain that issues ticks, or of talkback, a sample period after the last. [DESIGN CHOICE, log 16, 83] -/
def execTick (t d : Nat) (env : TickEnv) (s : State) : Host.Outcome State Fault Refusal :=
  let s := s.clock t
  if d < 3 ∧ s.tickDue d then .next (s.tick d env)
  else if d = 3 ∧ (s.talking ∨ s.talks 1) ∧ (s.dom 3).tickAt + 62500 ≤ s.now then .next (s.tickTalkback env)
  else .next s

end Sys2Proof.Machine
end

