-- ==== Sys2Proof/Machine/Dispatch.lean ====
section
/-!
DEFINITION. Every command and its meaning, one arm per row of spec/opcode_table.json.
-/

namespace Sys2Proof.Machine

/-- The effect of a command on everything but the queue of waiting commands. -/
def exec (i : Instr) (s : State) : Host.Outcome State Fault Refusal :=
  match i with
  | .transactionArrive t q body => Sys2Proof.Machine.execTransactionArrive t q body s
  | .read t q index sub len => Sys2Proof.Machine.execRead t q index sub len s
  | .write t q index sub data => Sys2Proof.Machine.execWrite t q index sub data s
  | .stage t q index sub data => Sys2Proof.Machine.execStage t q index sub data s
  | .blockRead t q index sub offset len => Sys2Proof.Machine.execBlockRead t q index sub offset len s
  | .blockWrite t q index sub offset seg => Sys2Proof.Machine.execBlockWrite t q index sub offset seg s
  | .unknownOp t q op => Sys2Proof.Machine.execUnknownOp t q op s
  | .commit t q => Sys2Proof.Machine.execCommit t q s
  | .discard t q => Sys2Proof.Machine.execDiscard t q s
  | .stageTimeout t who => Sys2Proof.Machine.execStageTimeout t who s
  | .blockOpen t q index data => Sys2Proof.Machine.execBlockOpen t q index data s
  | .blockClose t q index stage data => Sys2Proof.Machine.execBlockClose t q index stage data s
  | .lock t q => Sys2Proof.Machine.execLock t q s
  | .readFrom t q data => Sys2Proof.Machine.execReadFrom t q data s
  | .entriesRead t q len => Sys2Proof.Machine.execEntriesRead t q len s
  | .mirrorCopy t => Sys2Proof.Machine.execMirrorCopy t s
  | .mirrorResume t => Sys2Proof.Machine.execMirrorResume t s
  | .journalPush t => Sys2Proof.Machine.execJournalPush t s
  | .journalPushResend t => Sys2Proof.Machine.execJournalPushResend t s
  | .journalAck t epoch ackSeq => Sys2Proof.Machine.execJournalAck t epoch ackSeq s
  | .tick t d env => Sys2Proof.Machine.execTick t d env s
  | .fabricPartApply t d => Sys2Proof.Machine.execFabricPartApply t d s
  | .laneFrameFinish t n => Sys2Proof.Machine.execLaneFrameFinish t n s
  | .drainComplete t f => Sys2Proof.Machine.execDrainComplete t f s
  | .functionRampEnd t f => Sys2Proof.Machine.execFunctionRampEnd t f s
  | .quiesceForced t f => Sys2Proof.Machine.execQuiesceForced t f s
  | .startPendingStart t f => Sys2Proof.Machine.execStartPendingStart t f s
  | .gainRampEnd t site => Sys2Proof.Machine.execGainRampEnd t site s
  | .crossfadeEnd t p => Sys2Proof.Machine.execCrossfadeEnd t p s
  | .targetMode t q data => Sys2Proof.Machine.execTargetMode t q data s
  | .descentBegin t => Sys2Proof.Machine.execDescentBegin t s
  | .domainSwitchOff t => Sys2Proof.Machine.execDomainSwitchOff t s
  | .modeAdvance t => Sys2Proof.Machine.execModeAdvance t s
  | .wakeSourceFire t src => Sys2Proof.Machine.execWakeSourceFire t src s
  | .staggerEnd t => Sys2Proof.Machine.execStaggerEnd t s
  | .resetNLow t => Sys2Proof.Machine.execResetNLow t s
  | .resetClampEnd t => Sys2Proof.Machine.execResetClampEnd t s
  | .resetNHigh t banks addr => Sys2Proof.Machine.execResetNHigh t banks addr s
  | .avdd33Low t => Sys2Proof.Machine.execAvdd33Low t s
  | .powerOn t epoch => Sys2Proof.Machine.execPowerOn t epoch s
  | .governorWindow t => Sys2Proof.Machine.execGovernorWindow t s
  | .domainPowerGood t pd => Sys2Proof.Machine.execDomainPowerGood t pd s
  | .domainFault t pd => Sys2Proof.Machine.execDomainFault t pd s
  | .keepOff t q pd data => Sys2Proof.Machine.execKeepOff t q pd data s
  | .xoNoStart t => Sys2Proof.Machine.execXoNoStart t s
  | .supplyTrip t rail => Sys2Proof.Machine.execSupplyTrip t rail s
  | .supplyClear t rail => Sys2Proof.Machine.execSupplyClear t rail s
  | .crimsonResume t => Sys2Proof.Machine.execCrimsonResume t s
  | .crimsonAck t q => Sys2Proof.Machine.execCrimsonAck t q s
  | .crimsonCauseRead t q len => Sys2Proof.Machine.execCrimsonCauseRead t q len s
  | .avsHoldEnd t => Sys2Proof.Machine.execAvsHoldEnd t s
  | .avsEvaluate t => Sys2Proof.Machine.execAvsEvaluate t s
  | .pmbusAck t res => Sys2Proof.Machine.execPmbusAck t res s
  | .pmbusRetry t => Sys2Proof.Machine.execPmbusRetry t s
  | .avsLostRetry t => Sys2Proof.Machine.execAvsLostRetry t s
  | .ceiling t q data => Sys2Proof.Machine.execCeiling t q data s
  | .xoAmplitude t on => Sys2Proof.Machine.execXoAmplitude t on s
  | .xoStabilityCountDone t rcoCount => Sys2Proof.Machine.execXoStabilityCountDone t rcoCount s
  | .xoMissingEdge t => Sys2Proof.Machine.execXoMissingEdge t s
  | .forceSwitch t q index sub => Sys2Proof.Machine.execForceSwitch t q index sub s
  | .muxSwitchComplete t m => Sys2Proof.Machine.execMuxSwitchComplete t m s
  | .muxSourceEdges t m => Sys2Proof.Machine.execMuxSourceEdges t m s
  | .muxHang t m => Sys2Proof.Machine.execMuxHang t m s
  | .gateClose t cd => Sys2Proof.Machine.execGateClose t cd s
  | .pwmSpreadUpdate t => Sys2Proof.Machine.execPwmSpreadUpdate t s
  | .synAcquisitionStart t x => Sys2Proof.Machine.execSynAcquisitionStart t x s
  | .synLock t x pin window => Sys2Proof.Machine.execSynLock t x pin window s
  | .synUnlock t x refLost => Sys2Proof.Machine.execSynUnlock t x refLost s
  | .synReacquire t x => Sys2Proof.Machine.execSynReacquire t x s
  | .synAcquisitionFail t x => Sys2Proof.Machine.execSynAcquisitionFail t x s
  | .synFaultRetry t x => Sys2Proof.Machine.execSynFaultRetry t x s
  | .refScale t q x data => Sys2Proof.Machine.execRefScale t q x data s
  | .leader t q loop data => Sys2Proof.Machine.execLeader t q loop data s
  | .loopUpdate t loop => Sys2Proof.Machine.execLoopUpdate t loop s
  | .loopAcquireEnd t loop => Sys2Proof.Machine.execLoopAcquireEnd t loop s
  | .loopHoldover t loop => Sys2Proof.Machine.execLoopHoldover t loop s
  | .ckoChange t n => Sys2Proof.Machine.execCkoChange t n s
  | .combinerCrossfade t n => Sys2Proof.Machine.execCombinerCrossfade t n s
  | .combinerReturn t n => Sys2Proof.Machine.execCombinerReturn t n s
  | .inputOverload t n => Sys2Proof.Machine.execInputOverload t n s
  | .inputOverloadRecovery t n => Sys2Proof.Machine.execInputOverloadRecovery t n s
  | .inputClampEngage t n => Sys2Proof.Machine.execInputClampEngage t n s
  | .inputClampRelease t n => Sys2Proof.Machine.execInputClampRelease t n s
  | .referenceSettled t g => Sys2Proof.Machine.execReferenceSettled t g s
  | .refFault t g => Sys2Proof.Machine.execRefFault t g s
  | .refRecover t g => Sys2Proof.Machine.execRefRecover t g s
  | .overLatch t q n data => Sys2Proof.Machine.execOverLatch t q n data s
  | .phantomFrame t faults => Sys2Proof.Machine.execPhantomFrame t faults s
  | .phAlert t faults => Sys2Proof.Machine.execPhAlert t faults s
  | .phSettleEnd t n => Sys2Proof.Machine.execPhSettleEnd t n s
  | .asrcAcquired t ch => Sys2Proof.Machine.execAsrcAcquired t ch s
  | .asrcUnlock t ch => Sys2Proof.Machine.execAsrcUnlock t ch s
  | .layoutRestart t => Sys2Proof.Machine.execLayoutRestart t s
  | .blockLiveValue t q lane block data => Sys2Proof.Machine.execBlockLiveValue t q lane block data s
  | .meterPeriod t d => Sys2Proof.Machine.execMeterPeriod t d s
  | .meterRead t q index sub len => Sys2Proof.Machine.execMeterRead t q index sub len s
  | .cmReady t bank => Sys2Proof.Machine.execCmReady t bank s
  | .cmFallEnd t bank => Sys2Proof.Machine.execCmFallEnd t bank s
  | .hpBiasReady t => Sys2Proof.Machine.execHpBiasReady t s
  | .hpBiasFallEnd t => Sys2Proof.Machine.execHpBiasFallEnd t s
  | .outModeSwitch t pair => Sys2Proof.Machine.execOutModeSwitch t pair s
  | .currentLimitWindow t ch active => Sys2Proof.Machine.execCurrentLimitWindow t ch active s
  | .scRetry t f => Sys2Proof.Machine.execScRetry t f s
  | .faultClear t q index => Sys2Proof.Machine.execFaultClear t q index s
  | .jackEdge t n => Sys2Proof.Machine.execJackEdge t n s
  | .jackDebounceEnd t n => Sys2Proof.Machine.execJackDebounceEnd t n s
  | .jackMeasureEnd t n loadL loadR => Sys2Proof.Machine.execJackMeasureEnd t n loadL loadR s
  | .jackRemove t n => Sys2Proof.Machine.execJackRemove t n s
  | .jackAction t q n polarity data => Sys2Proof.Machine.execJackAction t q n polarity data s
  | .pwmEnLeadEnd t n => Sys2Proof.Machine.execPwmEnLeadEnd t n s
  | .pwmEnSettleEnd t n => Sys2Proof.Machine.execPwmEnSettleEnd t n s
  | .pwmStopLeadEnd t n => Sys2Proof.Machine.execPwmStopLeadEnd t n s
  | .pwmEdgeEvent t n => Sys2Proof.Machine.execPwmEdgeEvent t n s
  | .portFrame t p dir ev => Sys2Proof.Machine.execPortFrame t p dir ev s
  | .sapClockLost t p dir => Sys2Proof.Machine.execSapClockLost t p dir s
  | .linkUp t port => Sys2Proof.Machine.execLinkUp t port s
  | .linkDown t port => Sys2Proof.Machine.execLinkDown t port s
  | .helloSend t port => Sys2Proof.Machine.execHelloSend t port s
  | .hello t port uid node headUid headPrio rate => Sys2Proof.Machine.execHello t port uid node headUid headPrio rate s
  | .edgeTimeout t port => Sys2Proof.Machine.execEdgeTimeout t port s
  | .headClaim t => Sys2Proof.Machine.execHeadClaim t s
  | .headElection t => Sys2Proof.Machine.execHeadElection t s
  | .topology t port msg => Sys2Proof.Machine.execTopology t port msg s
  | .cycleStartSend t => Sys2Proof.Machine.execCycleStartSend t s
  | .cycleStart t port f => Sys2Proof.Machine.execCycleStart t port f s
  | .audio t port f => Sys2Proof.Machine.execAudio t port f s
  | .frameForward t port f => Sys2Proof.Machine.execFrameForward t port f s
  | .transaction t port f => Sys2Proof.Machine.execTransaction t port f s
  | .peerDelay t port ns => Sys2Proof.Machine.execPeerDelay t port ns s
  | .chainJoin t => Sys2Proof.Machine.execChainJoin t s
  | .joinRetry t => Sys2Proof.Machine.execJoinRetry t s
  | .nodeRelease t node => Sys2Proof.Machine.execNodeRelease t node s
  | .chainHoldover t => Sys2Proof.Machine.execChainHoldover t s
  | .chainSyncLoss t => Sys2Proof.Machine.execChainSyncLoss t s
  | .shareRequest t q data => Sys2Proof.Machine.execShareRequest t q data s
  | .share t msg => Sys2Proof.Machine.execShare t msg s
  | .presentationChange t => Sys2Proof.Machine.execPresentationChange t s
  | .flowLost t r => Sys2Proof.Machine.execFlowLost t r s
  | .altSourceSwitch t r => Sys2Proof.Machine.execAltSourceSwitch t r s
  | .aes67Packet t port p => Sys2Proof.Machine.execAes67Packet t port p s
  | .sendBeacon t q data => Sys2Proof.Machine.execSendBeacon t q data s
  | .beaconRequest t port target => Sys2Proof.Machine.execBeaconRequest t port target s
  | .beaconReceive t port target hops checkOk => Sys2Proof.Machine.execBeaconReceive t port target hops checkOk s
  | .heartbeatSend t => Sys2Proof.Machine.execHeartbeatSend t s
  | .heartbeat t m => Sys2Proof.Machine.execHeartbeat t m s
  | .arbBeat t m => Sys2Proof.Machine.execArbBeat t m s
  | .revoke t m => Sys2Proof.Machine.execRevoke t m s
  | .released t m => Sys2Proof.Machine.execReleased t m s
  | .heartbeatWindow t pair member => Sys2Proof.Machine.execHeartbeatWindow t pair member s
  | .peerActIn t high => Sys2Proof.Machine.execPeerActIn t high s
  | .interlockWaitEnd t => Sys2Proof.Machine.execInterlockWaitEnd t s
  | .revokeTimeout t pair => Sys2Proof.Machine.execRevokeTimeout t pair s
  | .selfRelease t => Sys2Proof.Machine.execSelfRelease t s
  | .arbiterLost t => Sys2Proof.Machine.execArbiterLost t s
  | .takeoverRampStart t => Sys2Proof.Machine.execTakeoverRampStart t s
  | .selfCheckPass t => Sys2Proof.Machine.execSelfCheckPass t s
  | .revertHoldoffEnd t => Sys2Proof.Machine.execRevertHoldoffEnd t s
  | .switchRequest t q data => Sys2Proof.Machine.execSwitchRequest t q data s
  | .grantTo t q pair data => Sys2Proof.Machine.execGrantTo t q pair data s
  | .arbiterStart t pair => Sys2Proof.Machine.execArbiterStart t pair s
  | .listenFrame t env => Sys2Proof.Machine.execListenFrame t env s
  | .hangEnd t => Sys2Proof.Machine.execHangEnd t s
  | .matcherFrame t energies scores energy => Sys2Proof.Machine.execMatcherFrame t energies scores energy s
  | .ringOverlapEnd t => Sys2Proof.Machine.execRingOverlapEnd t s
  | .ringRelease t q => Sys2Proof.Machine.execRingRelease t q s
  | .readerAtEnd t r => Sys2Proof.Machine.execReaderAtEnd t r s
  | .feedSwitch t => Sys2Proof.Machine.execFeedSwitch t s
  | .frontEndSettled t => Sys2Proof.Machine.execFrontEndSettled t s
  | .hkConversionComplete t slice code => Sys2Proof.Machine.execHkConversionComplete t slice code s
  | .calibrationComplete t => Sys2Proof.Machine.execCalibrationComplete t s
  | .hkTimer t => Sys2Proof.Machine.execHkTimer t s
  | .swTrigger t q => Sys2Proof.Machine.execSwTrigger t q s
  | .pwmDelayEnd t => Sys2Proof.Machine.execPwmDelayEnd t s
  | .urgentBank t q data => Sys2Proof.Machine.execUrgentBank t q data s
  | .urgentSlice t q data => Sys2Proof.Machine.execUrgentSlice t q data s
  | .supervisionScan t => Sys2Proof.Machine.execSupervisionScan t s
  | .refSource t q data => Sys2Proof.Machine.execRefSource t q data s
  | .refSettled t => Sys2Proof.Machine.execRefSettled t s
  | .windowMode t q data => Sys2Proof.Machine.execWindowMode t q data s
  | .mainsEdge t => Sys2Proof.Machine.execMainsEdge t s
  | .mainsLoss t => Sys2Proof.Machine.execMainsLoss t s
  | .hkResultRead t q len => Sys2Proof.Machine.execHkResultRead t q len s
  | .deviceId t => Sys2Proof.Machine.execDeviceId t s
  | .status t => Sys2Proof.Machine.execStatus t s
  | .request t x => Sys2Proof.Machine.execRequest t x s
  | .response t taken => Sys2Proof.Machine.execResponse t taken s
  | .responseLen t => Sys2Proof.Machine.execResponseLen t s
  | .resend t => Sys2Proof.Machine.execResend t s
  | .attention t via => Sys2Proof.Machine.execAttention t via s
  | .unknownCommand t code => Sys2Proof.Machine.execUnknownCommand t code s
  | .startInAck t => Sys2Proof.Machine.execStartInAck t s
  | .stretchTimeout t => Sys2Proof.Machine.execStretchTimeout t s
  | .sclTimeout t => Sys2Proof.Machine.execSclTimeout t s
  | .hostNotify t ack => Sys2Proof.Machine.execHostNotify t ack s
  | .notifyRetry t ack => Sys2Proof.Machine.execNotifyRetry t ack s
  | .arbitrationLost t bus during => Sys2Proof.Machine.execArbitrationLost t bus during s
  | .busRecovery t bus pulses => Sys2Proof.Machine.execBusRecovery t bus pulses s
  | .busStuckRetry t bus pulses => Sys2Proof.Machine.execBusStuckRetry t bus pulses s
  | .hspiRequest t body crc => Sys2Proof.Machine.execHspiRequest t body crc s
  | .fetch t full => Sys2Proof.Machine.execFetch t full s
  | .hspiStatus t full => Sys2Proof.Machine.execHspiStatus t full s
  | .refetch t full => Sys2Proof.Machine.execRefetch t full s
  | .push t offset data crc => Sys2Proof.Machine.execPush t offset data crc s
  | .pushEnd t length crc imgOk => Sys2Proof.Machine.execPushEnd t length crc imgOk s
  | .hspiFrameAbort t => Sys2Proof.Machine.execHspiFrameAbort t s
  | .bootImageAccepted t img eeprom => Sys2Proof.Machine.execBootImageAccepted t img eeprom s
  | .bootRetry t => Sys2Proof.Machine.execBootRetry t s
  | .recipeRecords t => Sys2Proof.Machine.execRecipeRecords t s
  | .verifySlot t q data slotOk => Sys2Proof.Machine.execVerifySlot t q data slotOk s
  | .commitSv t q => Sys2Proof.Machine.execCommitSv t q s
  | .memTrainingStart t => Sys2Proof.Machine.execMemTrainingStart t s
  | .memReady t sizeMiB ranks => Sys2Proof.Machine.execMemReady t sizeMiB ranks s
  | .memTrainFail t => Sys2Proof.Machine.execMemTrainFail t s
  | .zqCalibration t => Sys2Proof.Machine.execZqCalibration t s
  | .dqsCheck t drift => Sys2Proof.Machine.execDqsCheck t drift s
  | .mr4Poll t code overTemp => Sys2Proof.Machine.execMr4Poll t code overTemp s
  | .memFault t cause => Sys2Proof.Machine.execMemFault t cause s
  | .autoRetrain t => Sys2Proof.Machine.execAutoRetrain t s
  | .retrain t q => Sys2Proof.Machine.execRetrain t q s
  | .transportCommand t q tr data => Sys2Proof.Machine.execTransportCommand t q tr data s
  | .transportStart t tr => Sys2Proof.Machine.execTransportStart t tr s
  | .counterSource t q n data => Sys2Proof.Machine.execCounterSource t q n data s
  | .counterClear t q n => Sys2Proof.Machine.execCounterClear t q n s
  | .snapNow t q => Sys2Proof.Machine.execSnapNow t q s
  | .snapChain t q => Sys2Proof.Machine.execSnapChain t q s
  | .snapshot t snapAt tag => Sys2Proof.Machine.execSnapshot t snapAt tag s
  | .snapAtReached t => Sys2Proof.Machine.execSnapAtReached t s
  | .testRun t q => Sys2Proof.Machine.execTestRun t q s
  | .testItemComplete t result => Sys2Proof.Machine.execTestItemComplete t result s
  | .avdd33RetentionLoss t => Sys2Proof.Machine.execAvdd33RetentionLoss t s
  | .bootFail t => Sys2Proof.Machine.execBootFail t s
  | .scanConversionDue t => Sys2Proof.Machine.execScanConversionDue t s
  | .jackAbsent t n => Sys2Proof.Machine.execJackAbsent t n s
  | .edgePtpMessage t port locked offset => Sys2Proof.Machine.execEdgePtpMessage t port locked offset s

end Sys2Proof.Machine
end

