-- ==== Sys2Proof/Safety.lean ====
section
/-!
DEFINITION. What a safe run is, and the properties of a state that every step keeps.
-/

set_option autoImplicit false

namespace Sys2Proof.Machine

/-- A step is safe if it answers a next state: no fault and no refusal. -/
def SafeStep (s : State) : Prop := ∃ u, step s = .next u

/-- The state after `n` steps; none where one of them is not safe. -/
def run : Nat → State → Option State
  | 0, s => some s
  | n + 1, s => match step s with
    | .next u => run n u
    | _ => none

/-- A run of `n` steps is safe. -/
def SafeRun (n : Nat) (s : State) : Prop := ∃ u, run n s = some u

/-- Whether a mask of write rights is one that R52 allows: bits 31:22 are 0. -/
def writeMaskOk (m : BitVec 32) : Bool := m &&& 0xFFC00000 == 0

/-- Whether a mask of read rights is one that R51 and R52 allow: bits 31:22 are 0, bits 0 and 2 are 1. -/
def readMaskOk (m : BitVec 32) : Bool := m &&& 0xFFC00005 == 5

/-- Whether the rights are ones that R51 and R52 allow. [DEDUCED, log 19] -/
def Rights.legal (r : Rights) : Bool :=
  writeMaskOk r.chainWrite && writeMaskOk r.twb0Write && writeMaskOk r.hspiWrite &&
    readMaskOk r.chainRead && readMaskOk r.twb0Read && readMaskOk r.hspiRead

/-! ## Transactions -/

/-- The instant, the sender and the request body of a command that is one transaction executed as it arrives; none where its
operands name none. -/
def asks (c : Instr) : Option (Nat × Req × Body) :=
  match c with
  | .read t q index sub len => some (t, q, { op := 1, tid := q.tid, index, sub, len, data := [] })
  | .write t q index sub data => some (t, q, writeBody 2 q index sub data)
  | .stage t q index sub data => some (t, q, writeBody 3 q index sub data)
  | .blockRead t q index sub offset len =>
    some (t, q, { op := 4, tid := q.tid, index, sub, len, data := leBytes 4 offset })
  | .blockWrite t q index sub offset seg => some (t, q, writeBody 5 q index sub (leBytes 4 offset ++ seg))
  | .unknownOp t q op =>
    if between 1 5 (op % 256) then none else some (t, q, { op, tid := q.tid, index := 0x1000, sub := 0, len := 0, data := [] })
  | .commit t q => some (t, q, writeBody 2 q 0x1010 1 [1])
  | .discard t q => some (t, q, writeBody 2 q 0x1010 1 [2])
  | .blockOpen t q index data => some (t, q, writeBody 2 q index 2 data)
  | .blockClose t q index stage data => some (t, q, writeBody (if stage then 3 else 2) q index 3 data)
  | .lock t q => some (t, q, writeBody 2 q 0x1020 7 [1])
  | .readFrom t q data => some (t, q, writeBody 2 q 0x1F00 7 data)
  | .entriesRead t q len => some (t, q, { op := 1, tid := q.tid, index := 0x1F01, sub := 1, len, data := [] })
  | .targetMode t q data => some (t, q, writeBody 2 q 0x2000 2 data)
  | .keepOff t q pd data => if pd < 12 then some (t, q, writeBody 2 q (0x2010 + pd) 4 data) else none
  | .crimsonAck t q => some (t, q, writeBody 2 q 0x2000 6 [1])
  | .crimsonCauseRead t q len => some (t, q, { op := 1, tid := q.tid, index := 0x2000, sub := 4, len, data := [] })
  | .ceiling t q data => some (t, q, writeBody 2 q 0x2004 2 data)
  | .forceSwitch t q index sub =>
    if (forceOf index sub).isSome then some (t, q, writeBody 2 q index sub [1]) else none
  | .refScale t q x data => some (t, q, writeBody 2 q (0x2104 + x.num) 2 data)
  | .leader t q loop data => if loop < 2 then some (t, q, writeBody 2 q (0x2108 + loop) 1 data) else none
  | .overLatch t q n data => if between 1 48 n then some (t, q, writeBody 2 q (0x3000 + n) 0x0A data) else none
  | .blockLiveValue t q lane block data =>
    if lane < 128 ∧ block < 64 then some (t, q, writeBody 2 q (0x3600 + lane) (0x10 + block) data) else none
  | .meterRead t q index sub len =>
    if between 0x3910 0x3943 index ∧ sub ≠ 0 then some (t, q, { op := 1, tid := q.tid, index := index, sub, len, data := [] }) else none
  | .faultClear t q index =>
    if between 0x3101 0x3130 index ∨ between 0x3201 0x3202 index then some (t, q, writeBody 2 q index (if index < 0x3200 then 0x0A else 0x10) [1]) else none
  | .jackAction t q n polarity data =>
    if between 1 2 n then some (t, q, writeBody 2 q (0x3200 + n) (if polarity then 9 else 8) data) else none
  | .shareRequest t q data => some (t, q, writeBody 2 q 0x4003 1 data)
  | .sendBeacon t q data => some (t, q, writeBody 2 q 0x4000 0x0D data)
  | .switchRequest t q data => some (t, q, writeBody 2 q 0x4100 0x0B data)
  | .grantTo t q pair data => if pair < 16 then some (t, q, writeBody 2 q (0x4110 + pair) 6 data) else none
  | .ringRelease t q => some (t, q, writeBody 2 q 0x3A01 4 [1])
  | .swTrigger t q => some (t, q, writeBody 2 q 0x2200 0x0B [1])
  | .urgentBank t q data => if leNat data / 0x2000 = 7 then some (t, q, writeBody 2 q 0x2200 0x14 data) else none
  | .urgentSlice t q data => if leNat data / 0x2000 ≠ 7 then some (t, q, writeBody 2 q 0x2200 0x14 data) else none
  | .refSource t q data => some (t, q, writeBody 2 q 0x2200 0x0A data)
  | .windowMode t q data => some (t, q, writeBody 2 q 0x2200 9 data)
  | .hkResultRead t q len => some (t, q, { op := 1, tid := q.tid, index := 0x2210, sub := 1, len, data := [] })
  | .attention t via => match via with
    | .object q len => some (t, q, { op := 1, tid := q.tid, index := 0x2300, sub := 6, len, data := [] })
    | .twb0 => none
  | .commitSv t q => some (t, q, writeBody 2 q 0x2303 6 [1])
  | .retrain t q => some (t, q, writeBody 2 q 0x3B00 0x0D [1])
  | .transportCommand t q tr data => if tr < 8 then some (t, q, writeBody 2 q (0x3B60 + tr) 1 data) else none
  | .counterSource t q n data => if n < 64 then some (t, q, writeBody 2 q (0x2410 + n) 1 data) else none
  | .counterClear t q n => if n < 64 then some (t, q, writeBody 2 q (0x2410 + n) 4 [1]) else none
  | .snapNow t q => some (t, q, writeBody 2 q 0x2400 1 [1])
  | .snapChain t q => some (t, q, writeBody 2 q 0x2400 4 [1])
  | .testRun t q => some (t, q, writeBody 2 q 0x2460 3 [1])
  | .transactionArrive .. | .stageTimeout .. | .mirrorCopy .. | .mirrorResume .. | .journalPush ..
  | .journalPushResend .. | .journalAck .. | .tick .. | .fabricPartApply .. | .laneFrameFinish ..
  | .drainComplete .. | .functionRampEnd .. | .quiesceForced .. | .startPendingStart .. | .gainRampEnd ..
  | .crossfadeEnd .. | .descentBegin .. | .domainSwitchOff .. | .modeAdvance .. | .wakeSourceFire ..
  | .staggerEnd .. | .resetNLow .. | .resetClampEnd .. | .resetNHigh .. | .avdd33Low .. | .powerOn ..
  | .governorWindow .. | .domainPowerGood .. | .domainFault .. | .xoNoStart .. | .supplyTrip .. | .supplyClear ..
  | .crimsonResume .. | .avsHoldEnd .. | .avsEvaluate .. | .pmbusAck .. | .pmbusRetry .. | .avsLostRetry ..
  | .xoAmplitude .. | .xoStabilityCountDone .. | .xoMissingEdge .. | .muxSwitchComplete .. | .muxSourceEdges ..
  | .muxHang .. | .gateClose .. | .pwmSpreadUpdate .. | .synAcquisitionStart .. | .synLock .. | .synUnlock ..
  | .synReacquire .. | .synAcquisitionFail .. | .synFaultRetry .. | .loopUpdate .. | .loopAcquireEnd ..
  | .loopHoldover .. | .ckoChange .. | .combinerCrossfade .. | .combinerReturn .. | .inputOverload ..
  | .inputOverloadRecovery .. | .inputClampEngage .. | .inputClampRelease .. | .referenceSettled .. | .refFault ..
  | .refRecover .. | .phantomFrame .. | .phAlert .. | .phSettleEnd .. | .asrcAcquired .. | .asrcUnlock ..
  | .layoutRestart .. | .meterPeriod .. | .cmReady .. | .cmFallEnd .. | .hpBiasReady .. | .hpBiasFallEnd ..
  | .outModeSwitch .. | .currentLimitWindow .. | .scRetry .. | .jackEdge .. | .jackDebounceEnd ..
  | .jackMeasureEnd .. | .jackRemove .. | .pwmEnLeadEnd .. | .pwmEnSettleEnd .. | .pwmStopLeadEnd ..
  | .pwmEdgeEvent .. | .portFrame .. | .sapClockLost .. | .linkUp .. | .linkDown .. | .helloSend .. | .hello ..
  | .edgeTimeout .. | .headClaim .. | .headElection .. | .topology .. | .cycleStartSend .. | .cycleStart ..
  | .audio .. | .frameForward .. | .transaction .. | .peerDelay .. | .chainJoin .. | .joinRetry ..
  | .nodeRelease .. | .chainHoldover .. | .chainSyncLoss .. | .share .. | .presentationChange .. | .flowLost ..
  | .altSourceSwitch .. | .aes67Packet .. | .beaconRequest .. | .beaconReceive .. | .heartbeatSend ..
  | .heartbeat .. | .arbBeat .. | .revoke .. | .released .. | .heartbeatWindow .. | .peerActIn ..
  | .interlockWaitEnd .. | .revokeTimeout .. | .selfRelease .. | .arbiterLost .. | .takeoverRampStart ..
  | .selfCheckPass .. | .revertHoldoffEnd .. | .arbiterStart .. | .listenFrame .. | .hangEnd .. | .matcherFrame ..
  | .ringOverlapEnd .. | .readerAtEnd .. | .feedSwitch .. | .frontEndSettled .. | .hkConversionComplete ..
  | .calibrationComplete .. | .hkTimer .. | .pwmDelayEnd .. | .supervisionScan .. | .refSettled .. | .mainsEdge ..
  | .mainsLoss .. | .deviceId .. | .status .. | .request .. | .response .. | .responseLen .. | .resend ..
  | .unknownCommand .. | .startInAck .. | .stretchTimeout .. | .sclTimeout .. | .hostNotify .. | .notifyRetry ..
  | .arbitrationLost .. | .busRecovery .. | .busStuckRetry .. | .hspiRequest .. | .fetch .. | .hspiStatus ..
  | .refetch .. | .push .. | .pushEnd .. | .hspiFrameAbort .. | .bootImageAccepted .. | .bootRetry ..
  | .recipeRecords .. | .verifySlot .. | .memTrainingStart .. | .memReady .. | .memTrainFail .. | .zqCalibration ..
  | .dqsCheck .. | .mr4Poll .. | .memFault .. | .autoRetrain .. | .transportStart .. | .snapshot ..
  | .snapAtReached .. | .testItemComplete .. | .avdd33RetentionLoss .. | .bootFail .. | .scanConversionDue ..
  | .jackAbsent .. | .edgePtpMessage .. => none

/-- Whether the fields of a request body fit their places in the header (R54). -/
def Body.fits (b : Body) : Bool :=
  decide (b.op < 256) && decide (b.tid < 256) && decide (b.index < 65536) && decide (b.sub < 256) && decide (b.len < 65536)

/-- The queue entry that a transaction makes. -/
def queueEntry (q : Req) (b : Body) : QEntry := { node := q.node, reply := true, body := b.bytes }

/-- Whether a transaction executes as it arrives (R61): nothing waits, the control processor executes the requester's
transactions, a host port has room for its response, and it is no repetition that the kept response answers (R393). -/
def State.free (s : State) (q : Req) (b : Body) : Bool :=
  s.nextServe.isNone && s.canRun q.who && (s.kept q.who b.bytes).isNone && (match q.who with
    | .hspi => decide ((s.req .hspi).out.length < 8)
    | .twb0 => decide ((s.req .twb0).out.length < 8)
    | _ => true)

/-- The place of the requester in the order in which the queues take turns (R61). -/
def State.placeOf (s : State) (q : Req) (b : Body) : Nat := ((s.arrive q.who (queueEntry q b)).nextServe.map Prod.fst).getD 0

/-- The state in which a transaction that arrives at a free control processor executes: its requester has been heard now under
the node number that the journal gives it, and the next turn is that of the requester after it. -/
def State.opened (s : State) (q : Req) (b : Body) : State :=
  { (s.busGate q.who).mapReq q.who fun x => { x with lastSeen := s.now, node := entryNode q.who q.node } with
    turn := s.placeOf q b + 1 }

/-- The state in which a transaction that arrives at a free control processor acts: the gate of the block that it reaches is open
(R122). -/
def State.working (s : State) (q : Req) (b : Body) : State := (s.opened q b).accessGate b.index

/-- A transaction has executed, and its response has left for its requester. -/
def Reply.sent (r : Reply) (q : Req) (b : Body) : State := r.s.answer q.who (queueEntry q b) (r.response b)

/-- A WRITE of one object that is accepted (R60, R63): it is no block, it meets none of the statuses of R59, and it acts through
a commit. -/
def State.takesWrite (s : State) (w : Requester) (b : Body) : Bool :=
  s.accessStatus w true b.index b.sub == 0 &&
    (match rowOf b.index b.sub with
     | none => false
     | some r => decide (r.ty ≠ .domain) && b.len == r.ty.size && b.field.length == r.ty.size) &&
    !(b.index == 0x1F00 && b.sub == 7) && !immediate false b.index b.sub && !isDomain b.index &&
    s.commitStatus [itemOf b.index b.sub (leNat b.field)] (s.conflict w (itemOf b.index b.sub (leNat b.field)).key)
      (s.req w).commitAt == 0

/-- A STAGE of one object that is accepted (R60, R64). -/
def State.takesStage (s : State) (w : Requester) (b : Body) : Bool :=
  s.accessStatus w true b.index b.sub == 0 &&
    (match rowOf b.index b.sub with
     | none => false
     | some r => decide (r.ty ≠ .domain) && b.len == r.ty.size && b.field.length == r.ty.size) &&
    !isDomain b.index && s.stageStatus w (itemOf b.index b.sub (leNat b.field)) == 0

/-- A READ of one object that is answered with its value (R60): no block, not `ENTRIES`, with a length that suffices, and no
measured value of a block that is gated by force. -/
def State.takesRead (s : State) (w : Requester) (b : Body) : Bool :=
  s.accessStatus w false b.index b.sub == 0 &&
    (match rowOf b.index b.sub with
     | none => false
     | some r => decide (r.ty ≠ .domain) && decide (r.ty.size ≤ readLimit w b.len) && (s.gatedRead b.index b.sub r).isNone) &&
    decide (b.len ≤ maxLen w) && !(b.index == 0x1F01 && b.sub == 1)

end Sys2Proof.Machine
end

