-- ==== Sys2Proof/Certificates/Slice0/Obligations.lean ====
section
/-!
DEFINITION. The statements for the provers. In a clause about a command, `v` is the state at the instant of the command: what
the premises read and what the next state is made of. A next state is given whole, so that what it does not name is unchanged.
-/

set_option autoImplicit false

open Sys2Proof Sys2Proof.Machine


/-- On an active input channel, COMBINER_CROSSFADE puts the output on the low-gain path, notes the instant and counts the
crossfade in PATH_SWITCHES of that channel; COMBINER_RETURN puts it back once 50 ms have passed since then. INPUT_OVERLOAD of
a channel that has not stopped sets the overload, marks the next samples, raises OVER_COUNT and counts the event
INPUT_OVERLOAD (31h); it sets bits 0 and 1 of OVER_LATCH, in a phantom switching too only outside it. INPUT_OVERLOAD_RECOVERY
ends it. INPUT_CLAMP_ENGAGE, while the reference of the group is on, notes the clamp, marks the other seven channels and
counts INPUT_NEIGHBOUR (32h); INPUT_CLAMP_RELEASE ends it and marks them again. Each next state is given whole, so everything
else is unchanged. (06_analog_inputs.md) -/
def Obligations.InputCombinerAndOverload : Prop :=
  (∀ (t : Nat) (n : Nat) (s v : State), v = s.clock t →
    isInput n = true →
    (v.fn (.input n)).active = true →
    (v.inp n).lg = false →
    exec (.combinerCrossfade t n) s =
      .next ((v.setInp n { v.inp n with lg := true, lgAt := v.now }).bump 0x3900 (0x0F + n))) ∧
  (∀ (t : Nat) (n : Nat) (s v : State), v = s.clock t →
    isInput n = true →
    (v.fn (.input n)).active = true →
    (v.inp n).lg = true →
    (v.inp n).lgAt + 50000000 ≤ v.now →
    exec (.combinerReturn t n) s =
      .next (v.setInp n { v.inp n with lg := false })) ∧
  (∀ (t : Nat) (n : Nat) (s v : State), v = s.clock t →
    isInput n = true →
    v.busyFn (.input n) = true →
    (v.inp n).ovl = false →
    exec (.inputOverload t n) s =
      .next (((if (v.inp n).phCyc = .idle then ((v.setInp n { v.inp n with ovl := true, run := 2 }).overLatch n 0).overLatch n 1
        else v.setInp n { v.inp n with ovl := true, run := 2 }).bump (0x3000 + n) 0x0B).event 0x31 (0x3000 + n))) ∧
  (∀ (t : Nat) (n : Nat) (s v : State), v = s.clock t →
    isInput n = true →
    (v.inp n).ovl = true →
    exec (.inputOverloadRecovery t n) s =
      .next (v.setInp n { v.inp n with ovl := false })) ∧
  (∀ (t : Nat) (n : Nat) (s v : State), v = s.clock t →
    isInput n = true →
    (v.refGroup ((n - 1) / 8)).on = true →
    (v.inp n).clamp = false →
    exec (.inputClampEngage t n) s =
      .next (((v.setInp n { v.inp n with clamp := true }).markNeighbours n).event 0x32 (0x3000 + n))) ∧
  (∀ (t : Nat) (n : Nat) (s v : State), v = s.clock t →
    isInput n = true →
    (v.inp n).clamp = true →
    exec (.inputClampRelease t n) s =
      .next ((v.setInp n { v.inp n with clamp := false }).markNeighbours n))

/-- REFERENCE_SETTLED marks a reference that is on as settled once its time has come. REF_FAULT stops the work of every starting,
running, draining or ramping channel of the group, puts it in FAULT and counts INPUT_REF_FAULT (33h) at the first channel of
the group; REF_RECOVER, 10 ms after the fault at the earliest, clears the fault and starts the enabled channels whose domain
runs, while the others that were in FAULT read QUIESCED. PHANTOM_FRAME takes a frame 200 µs after the last one at the
earliest, PH_ALERT takes three of them, and PH_SETTLE_END ends a held channel whose time has passed. (06_analog_inputs.md) -/
def Obligations.InputReferencesAndPhantom : Prop :=
  (∀ (t : Nat) (g : Nat) (s v : State), v = s.clock t →
    (v.refGroup g).on = true →
    (v.refGroup g).settled = false →
    (v.refGroup g).settleAt ≤ v.now →
    exec (.referenceSettled t g) s =
      .next (v.setRef g { v.refGroup g with settled := true })) ∧
  (∀ (t : Nat) (g : Nat) (s v : State), v = s.clock t →
    (v.refGroup g).on = true →
    (v.refGroup g).fault = false →
    exec (.refFault t g) s =
      .next ((((groupInputs g).filter fun n => [Phase.starting, .running, .draining, .ramping].contains (v.phase (.input n))).foldl (fun u n => (u.haltInput n).faultFn (.input n)) (v.setRef g { v.refGroup g with fault := true, faultAt := v.now })).event 0x33 (0x3001 + 8 * g))) ∧
  (∀ (t : Nat) (g : Nat) (s v : State), v = s.clock t →
    (v.refGroup g).fault = true →
    (v.refGroup g).faultAt + 10000000 ≤ v.now →
    exec (.refRecover t g) s =
      .next ((groupInputs g).foldl (fun u n =>
      if u.wants (.input n) && u.inputReady n && [Phase.fault, .off, .quiesced].contains (u.phase (.input n)) then u.startInput n
      else if u.phase (.input n) == .fault && !u.wants (.input n) then
        u.setFn (.input n) { u.fn (.input n) with phase := .quiesced }
      else u) (v.setRef g { v.refGroup g with fault := false }))) ∧
  (∀ (t : Nat) (faults : Nat) (s v : State), v = s.clock t →
    v.phRuns = true →
    v.phantom.lastAt + 200000 ≤ v.now →
    exec (.phantomFrame t faults) s =
      .next (v.phFrame faults)) ∧
  (∀ (t : Nat) (b0 b1 b2 : Nat) (s v : State), v = s.clock t →
    v.phRuns = true →
    exec (.phAlert t [b0, b1, b2]) s =
      .next ([b0, b1, b2].foldl (fun u b => (u.clock (max u.now (u.phantom.lastAt + 200000))).phFrame b) v)) ∧
  (∀ (t : Nat) (n : Nat) (s v : State), v = s.clock t →
    isInput n = true →
    (v.inp n).phCyc = .held →
    (v.inp n).phUntil ≤ v.now →
    exec (.phSettleEnd t n) s =
      .next (v.phBack n))

/-- CROSSFADE_END leaves the sink with the new source alone and releases channels that nothing uses. ASRC_ACQUIRED moves an
acquiring channel that takes samples to its ramp-in at position 0 with the period it has measured; a bridge between two
domains of one synthesizer has then measured for 1 ms. ASRC_UNLOCK of a channel that passes or ramps in, that joins no two
domains of one synthesizer and that has lost its input (no sample for four periods, or a rate that has moved by more than 2
%), sets it falling at position 0, raises the unlock count of 3401h.05 and counts ASRC_UNLOCK (44h). (07_samples_router.md) -/
def Obligations.RouterEvents : Prop :=
  (∀ (t : Nat) (p : Nat) (y : XFade) (s v : State), v = s.clock t →
    (v.route p).xf = some y →
    y.len ≤ y.pos →
    exec (.crossfadeEnd t p) s =
      .next ((v.setRoute p { v.route p with xf := none }).sweep)) ∧
  (∀ (t : Nat) (ch : Nat) (c : AsrcCh) (s v : State), v = s.clock t →
    v.asrc ch = some c →
    c.phase = .acquiring →
    c.buf ≠ [] →
    v.rationalBridge c = false ∨ c.at_ + 1000000 ≤ v.now →
    exec (.asrcAcquired t ch) s =
      .next (v.setAsrc ch (some { c with phase := .rampIn, pos := 0, per := c.period 320 }))) ∧
  (∀ (t : Nat) (ch : Nat) (c : AsrcCh) (s v : State), v = s.clock t →
    v.asrc ch = some c →
    c.phase = .pass ∨ c.phase = .rampIn →
    v.rationalBridge c = false →
    v.asrcLost c = true →
    exec (.asrcUnlock t ch) s =
      .next (((v.setAsrc ch (some { c with phase := .falling, pos := 0 })).bump 0x3401 5).event 0x44 0x3401))

/-- GAIN_RAMP_END leaves the gain of the named input, output, headphone, PWM output, bus, contribution, link, generator or block
at the goal of its ramp, once the ramp has run its length; the end of a pair's release ramp completes the release. Everything
else is unchanged. (09_mixing_meters.md, 06_analog_inputs.md, 13_pairs.md) -/
def Obligations.GainRampsEnd : Prop :=
  (∀ (t : Nat) (n : Nat) (s v : State), v = s.clock t →
    (v.inp n).gain.live = false →
    exec (.gainRampEnd t (.input n)) s =
      .next (v.setInp n { v.inp n with gain := .rest (v.inp n).gain.g1 })) ∧
  (∀ (t : Nat) (n : Nat) (s v : State), v = s.clock t →
    (v.out n).gain.live = false →
    exec (.gainRampEnd t (.output n)) s =
      .next (v.setOut n { v.out n with gain := .rest (v.out n).gain.g1 })) ∧
  (∀ (t : Nat) (n : Nat) (s v : State), v = s.clock t →
    (v.hp n).gain.live = false →
    exec (.gainRampEnd t (.hp n)) s =
      .next (v.setHp n { v.hp n with gain := .rest (v.hp n).gain.g1 })) ∧
  (∀ (t : Nat) (n : Nat) (s v : State), v = s.clock t →
    (v.pwm n).gain.live = false →
    exec (.gainRampEnd t (.pwm n)) s =
      .next (v.setPwm n { v.pwm n with gain := .rest (v.pwm n).gain.g1 })) ∧
  (∀ (t : Nat) (b : Nat) (s v : State), v = s.clock t →
    (v.bus b).gain.live = false →
    exec (.gainRampEnd t (.bus b)) s =
      .next (v.setBus b { v.bus b with gain := .rest (v.bus b).gain.g1 })) ∧
  (∀ (t : Nat) (b c : Nat) (y : Contrib) (s v : State), v = s.clock t →
    look .unused (v.bus b).contribs c = y →
    y.ramp.live = false →
    exec (.gainRampEnd t (.contrib b c)) s =
      .next ((v.setBus b { v.bus b with contribs := put .unused (v.bus b).contribs c { y with ramp := .rest y.ramp.g1 } }).sweep)) ∧
  (∀ (t : Nat) (l : Nat) (s v : State), v = s.clock t →
    (v.dlink l).gain.live = false →
    (v.dlink l).routed.live = false →
    exec (.gainRampEnd t (.link l)) s =
      .next (v.setLink l { v.dlink l with gain := .rest (v.dlink l).gain.g1, routed := .rest (v.dlink l).routed.g1 })) ∧
  (∀ (t : Nat) (g : Nat) (s v : State), v = s.clock t →
    (v.gen g).level.live = false →
    exec (.gainRampEnd t (.gen g)) s =
      .next (v.setGen g { v.gen g with level := .rest (v.gen g).level.g1 })) ∧
  (∀ (t : Nat) (n b : Nat) (y : BlockSt) (s v : State), v = s.clock t →
    (v.lane n).st = [y] →
    y.ramp.live = false →
    exec (.gainRampEnd t (.block n b)) s =
      .next (v.setLane n { v.lane n with st := if b = 0 then [{ y with ramp := .rest y.ramp.g1 }] else [y] })) ∧
  (∀ (t : Nat) (s v : State), v = s.clock t →
    v.pair.leaving = true →
    v.pair.ramp.live = false →
    exec (.gainRampEnd t .pair) s =
      .next (v.finishRelease))

/-- TICK of a domain whose tick is due (its first, or one a sample period after the last) does what the domain does at a tick; the
fourth domain, talkback, ticks at 16 kHz while talkback runs. LANE_FRAME_FINISH of an active lane whose frame is in progress
keeps the results of the frame for the next tick and notes its slack. FABRIC_PART_APPLY, at a tick that is due, ends the
frames of the domain and applies the fabric parts that are due. METER_PERIOD, 10 ms of ticks after the last, publishes the
meters of the domain and leaves every other meter. LAYOUT_RESTART, once the functions that had to stop have stopped, halts the
domains that run, abandons the parts of domains that no longer exist and starts the new ones. (01_architecture.md,
07_samples_router.md, 08_fabric.md, 09_mixing_meters.md) -/
def Obligations.RateDomainTicks : Prop :=
  (∀ (t : Nat) (d : Nat) (env : TickEnv) (s v : State), v = s.clock t →
    d < 3 →
    v.tickDue d = true →
    exec (.tick t d env) s =
      .next (v.tick d env)) ∧
  (∀ (t : Nat) (env : TickEnv) (s v : State), v = s.clock t →
    v.talking = true ∨ v.talks 1 = true →
    (v.dom 3).tickAt + 62500 ≤ v.now →
    exec (.tick t 3 env) s =
      .next (v.tickTalkback env)) ∧
  (∀ (t : Nat) (n : Nat) (s v : State), v = s.clock t →
    (v.fn (.lane n)).active = true →
    (v.lane n).busy = true →
    (v.lane n).done = false →
    exec (.laneFrameFinish t n) s =
      .next ((v.noteSlack n (v.slackNow (v.fn (.lane n)).dom)).setLane n
        { (v.noteSlack n (v.slackNow (v.fn (.lane n)).dom)).lane n with
          done := true, out0 := ((v.lane n).frame (v.rate (v.fn (.lane n)).dom)).slots.getD 0 .quiet,
          out1 := ((v.lane n).frame (v.rate (v.fn (.lane n)).dom)).slots.getD 1 .quiet,
          new := ((v.lane n).frame (v.rate (v.fn (.lane n)).dom)).st,
          newTaps := ((v.lane n).frame (v.rate (v.fn (.lane n)).dom)).taps })) ∧
  (∀ (t : Nat) (d : Nat) (s v : State), v = s.clock t →
    v.tickDue d = true →
    exec (.fabricPartApply t d) s =
      .next ((v.tickEnds d).applyDue d ((v.dom d).tick v.now).frame true)) ∧
  (∀ (t : Nat) (d : Nat) (s v : State), v = s.clock t →
    v.meterDue d = true →
    (∀ x ∈ v.meters, v.meterDom x.1 = d → x.2.cnt ≠ 0) →
    exec (.meterPeriod t d) s =
      .next ({ v.setDom d { v.dom d with meterAt := (v.dom d).frame + 1 } with
        meters := v.meters.map fun x =>
          if v.meterDom x.1 = d then (x.1, x.2.publish (v.rd 0x3900 1) (v.rd 0x3900 2 == 1)) else x })) ∧
  (∀ (t : Nat) (s v : State), v = s.clock t →
    v.router.relayout = true →
    v.layoutQuiet = true →
    exec (.layoutRestart t) s =
      .next ((let u := (List.range 3).foldl (fun (u : State) d => if (u.dom d).running then u.haltDom d else u) v
        let u := ((List.range 3).filter fun d => decide (u.domCount ≤ d)).foldl State.abandonParts u
        { u with router := { u.router with relayout := false } }).settleDoms))

/-- CM_READY, 100 ms after the rise of a bank's common mode began, makes it ready and starts what waited for it; CM_FALL_END, 100
ms after its fall began, turns it off and closes the clamps of the bank. HP_BIAS_READY and HP_BIAS_FALL_END do the same for
the headphone bias after 250 ms; a plug that is present when the bias becomes ready begins its insertion where JACK_ACTION is
01h. OUT_MODE_SWITCH ends the high-impedance time of each member of the pair whose time has come, which starts where it may;
the other member is unchanged. (10_outputs.md) -/
def Obligations.OutputBiasAndMode : Prop :=
  (∀ (t : Nat) (bank : Nat) (s v : State), v = s.clock t →
    bank < 2 →
    (v.cm bank).st = 1 →
    (v.cm bank).at_ + 100000000 ≤ v.now →
    exec (.cmReady t bank) s =
      .next ((v.setCm bank { st := 2, at_ := v.now }).startAll)) ∧
  (∀ (t : Nat) (bank : Nat) (s v : State), v = s.clock t →
    bank < 2 →
    (v.cm bank).st = 3 →
    (v.cm bank).at_ + 100000000 ≤ v.now →
    exec (.cmFallEnd t bank) s =
      .next ((v.setCm bank { st := 0, at_ := v.now }).setAgnd bank true)) ∧
  (∀ (t : Nat) (s v : State), v = s.clock t →
    v.outs.hpBias.st = 1 →
    v.outs.hpBias.at_ + 250000000 ≤ v.now →
    exec (.hpBiasReady t) s =
      .next ((([1, 2].foldl (fun (u : State) h => if (u.hp h).present = true ∧ (u.hp h).jack = 0 ∧ u.rd (0x3200 + h) 8 = 1 then u.beginJack h else u)
        { v with outs := { v.outs with hpBias := { st := 2, at_ := v.now } } }).settleTalkback).startAll)) ∧
  (∀ (t : Nat) (s v : State), v = s.clock t →
    v.outs.hpBias.st = 3 →
    v.outs.hpBias.at_ + 250000000 ≤ v.now →
    exec (.hpBiasFallEnd t) s =
      .next ({ v with outs := { v.outs with hpBias := { st := 0, at_ := v.now }, agndHp := true } })) ∧
  (∀ (t : Nat) (pair a : Nat) (s v : State), v = s.clock t →
    (v.out (2 * pair + 1)).switchAt = some a ∨ (v.out (2 * pair + 2)).switchAt = some a →
    a ≤ v.now →
    exec (.outModeSwitch t pair) s =
      .next ([2 * pair + 1, 2 * pair + 2].foldl (fun (u : State) m => match (u.out m).switchAt with
        | some b => if b ≤ u.now then (u.setOut m { u.out m with switchAt := none }).outputOn m else u
        | none => u) v))

/-- In a window of a driving channel that is not retrying, an active limit counts up the run of active windows (and counts the
event OUTPUT_LIMIT, 51h, when ten windows have been quiet before), and the fiftieth in a row trips the output; a window
without it, or of a channel whose ball is held, restarts the run and counts the quiet windows up to ten. A window of a
retrying channel belongs to the retry: ten clean ones end it. SC_RETRY of an output begins the retry of every tripped channel
of it whose SC_RETRY is 01h and whose second has passed. (10_outputs.md) -/
def Obligations.OutputCurrentLimit : Prop :=
  (∀ (t : Nat) (ch : LimitCh) (s v : State), v = s.clock t →
    (v.limitOf ch).retrying = false →
    v.driving ch = true →
    exec (.currentLimitWindow t ch true) s =
      .next (if 50 ≤ (v.limitOf ch).run + 1 then
          (if 10 ≤ (v.limitOf ch).quiet then v.event 0x51 (limitFunc ch).index else v).tripLimit ch { v.limitOf ch with run := 0, quiet := 0 }
        else (if 10 ≤ (v.limitOf ch).quiet then v.event 0x51 (limitFunc ch).index else v).setLimit ch
          { v.limitOf ch with run := (v.limitOf ch).run + 1, quiet := 0 })) ∧
  (∀ (t : Nat) (ch : LimitCh) (active : Bool) (s v : State), v = s.clock t →
    (v.limitOf ch).retrying = false →
    active = false ∨ v.driving ch = false →
    exec (.currentLimitWindow t ch active) s =
      .next (v.setLimit ch { v.limitOf ch with run := 0, quiet := min 10 ((v.limitOf ch).quiet + 1) })) ∧
  (∀ (t : Nat) (ch : LimitCh) (active : Bool) (s v : State), v = s.clock t →
    (v.limitOf ch).retrying = true →
    exec (.currentLimitWindow t ch active) s =
      .next (if active = true then v.setLimit ch { v.limitOf ch with retrying := false, clean := 0, quiet := 0, retryAt := v.now + 1000000000 }
        else if (v.limitOf ch).clean + 1 < 10 then
          v.setLimit ch { v.limitOf ch with clean := (v.limitOf ch).clean + 1, quiet := min 10 ((v.limitOf ch).quiet + 1) }
        else (v.setLimit ch LimitSt.idle).restartOutput ch)) ∧
  (∀ (t : Nat) (f : Func) (s v : State), v = s.clock t →
    ((limitsOf f).any (fun c => (v.limitOf c).tripped && !(v.limitOf c).retrying && v.scRetry c && decide ((v.limitOf c).retryAt ≤ v.now)) = true) →
    exec (.scRetry t f) s =
      .next ((limitsOf f).foldl (fun (u : State) c =>
          if (u.limitOf c).tripped = true ∧ (u.limitOf c).retrying = false ∧ v.scRetry c = true ∧ (v.limitOf c).retryAt ≤ v.now then
            u.setLimit c { u.limitOf c with retrying := true, clean := 0 }
          else u) v))

/-- JACK_EDGE of a plug that was absent makes it present, and with JACK_ACTION 01h, a ready bias and no insertion in progress
begins the insertion. After 50 ms JACK_DEBOUNCE_END moves to the measurement; 80 ms after the edge JACK_MEASURE_END stores
both loads and the jack state and counts HP_INSERT (54h); a short also puts the output in FAULT and counts HP_SHORT (56h); an
enabled output that is stopping starts afterwards, one that is ready starts, and any other stays as it is. JACK_ABSENT
abandons an insertion in progress and holds the loss of a recognised plug; 5 ms later JACK_REMOVE mutes the output, clears the
state and counts HP_REMOVE (55h). (10_outputs.md) -/
def Obligations.HeadphoneJack : Prop :=
  (∀ (t : Nat) (n : Nat) (s v : State), v = s.clock t →
    n = 1 ∨ n = 2 →
    (v.hp n).present = false →
    exec (.jackEdge t n) s =
      .next (if v.rd (0x3200 + n) 8 = 1 ∧ v.outs.hpBias.st = 2 ∧ (v.hp n).jack = 0 then
          (v.setHp n { v.hp n with present := true, level := v.rd (0x3200 + n) 9 == 1, absentAt := none }).beginJack n
        else v.setHp n { v.hp n with present := true, level := v.rd (0x3200 + n) 9 == 1, absentAt := none })) ∧
  (∀ (t : Nat) (n : Nat) (s v : State), v = s.clock t →
    n = 1 ∨ n = 2 →
    (v.hp n).present = true →
    (v.hp n).jack = 1 ∨ (v.hp n).jack = 2 →
    exec (.jackAbsent t n) s =
      .next (v.setHp n { v.hp n with present := false, level := v.rd (0x3200 + n) 9 == 0, jack := 0 })) ∧
  (∀ (t : Nat) (n : Nat) (s v : State), v = s.clock t →
    n = 1 ∨ n = 2 →
    (v.hp n).present = true →
    3 ≤ (v.hp n).jack →
    exec (.jackAbsent t n) s =
      .next (v.setHp n { v.hp n with present := false, level := v.rd (0x3200 + n) 9 == 0, absentAt := some v.now })) ∧
  (∀ (t : Nat) (n : Nat) (s v : State), v = s.clock t →
    n = 1 ∨ n = 2 →
    (v.hp n).present = true →
    (v.hp n).jack = 0 →
    exec (.jackAbsent t n) s =
      .next (v.setHp n { v.hp n with present := false, level := v.rd (0x3200 + n) 9 == 0 })) ∧
  (∀ (t : Nat) (n : Nat) (s v : State), v = s.clock t →
    n = 1 ∨ n = 2 →
    (v.hp n).jack = 1 →
    (v.hp n).edgeAt + 50000000 ≤ v.now →
    exec (.jackDebounceEnd t n) s =
      .next (v.setHp n { v.hp n with jack := 2 })) ∧
  (∀ (t : Nat) (n l r : Nat) (s v : State), v = s.clock t →
    n = 1 ∨ n = 2 →
    (v.hp n).jack = 2 →
    (v.hp n).edgeAt + 80000000 ≤ v.now →
    jackCode l r = 6 →
    exec (.jackMeasureEnd t n l r) s =
      .next ((((((v.setHp n { v.hp n with jack := 6, loadL := l, loadR := r }).event 0x54 (0x3200 + n)).restHp n).faultFn (.hp n)).event 0x56 (0x3200 + n)))) ∧
  (∀ (t : Nat) (n l r : Nat) (u : State) (s v : State), v = s.clock t →
    n = 1 ∨ n = 2 →
    (v.hp n).jack = 2 →
    (v.hp n).edgeAt + 80000000 ≤ v.now →
    jackCode l r ≠ 6 →
    u = (v.setHp n { v.hp n with jack := jackCode l r, loadL := l, loadR := r }).event 0x54 (0x3200 + n) →
    u.wants (.hp n) = true →
    u.phase (.hp n) = .draining ∨ u.phase (.hp n) = .ramping →
    exec (.jackMeasureEnd t n l r) s =
      .next (u.setFn (.hp n) { u.fn (.hp n) with startPending := true })) ∧
  (∀ (t : Nat) (n l r : Nat) (u : State) (s v : State), v = s.clock t →
    n = 1 ∨ n = 2 →
    (v.hp n).jack = 2 →
    (v.hp n).edgeAt + 80000000 ≤ v.now →
    jackCode l r ≠ 6 →
    u = (v.setHp n { v.hp n with jack := jackCode l r, loadL := l, loadR := r }).event 0x54 (0x3200 + n) →
    u.wants (.hp n) = false ∨ (u.phase (.hp n) ≠ .draining ∧ u.phase (.hp n) ≠ .ramping) →
    exec (.jackMeasureEnd t n l r) s =
      .next (if u.wants (.hp n) = true ∧ u.phase (.hp n) ≠ .fault ∧ u.hpReady n = true then u.startHp n else u)) ∧
  (∀ (t : Nat) (n a : Nat) (s v : State), v = s.clock t →
    n = 1 ∨ n = 2 →
    (v.hp n).absentAt = some a →
    a + 5000000 ≤ v.now →
    exec (.jackRemove t n) s =
      .next (((v.muteHp n).setHp n { (v.muteHp n).hp n with jack := 0, absentAt := none, loadL := 0xFFFF, loadR := 0xFFFF }).event 0x55 (0x3200 + n)))

/-- PWM_EN_LEAD_END moves a starting output to its settle time, EN_SETTLE of 100 µs each; PWM_EN_SETTLE_END lets the signal ramp
in. PWM_STOP_LEAD_END puts the balls at SAFE_LEVEL and quiesces the output. PWM_EDGE_EVENT of an output that switches and
raises edge events, EDGE_DIV carrier periods after its last, notes the instant, counts in 3200h.06 and reaches the converter.
PWM_SPREAD_UPDATE, when the triangle period is over, takes the spread depth and rate of 2101h and begins the next triangle
period. (10_outputs.md, 04_clocks.md) -/
def Obligations.PwmOutputs : Prop :=
  (∀ (t : Nat) (n : Nat) (s v : State), v = s.clock t →
    (v.pwm n).step = .lead →
    v.phase (.pwm n) = .starting →
    (v.pwm n).at_ ≤ v.now →
    exec (.pwmEnLeadEnd t n) s =
      .next (v.setPwm n { v.pwm n with step := .settle, at_ := v.now + v.rd (0x320F + n) 0x0A * 100000 })) ∧
  (∀ (t : Nat) (n : Nat) (s v : State), v = s.clock t →
    (v.pwm n).step = .settle →
    v.phase (.pwm n) = .starting →
    (v.pwm n).at_ ≤ v.now →
    exec (.pwmEnSettleEnd t n) s =
      .next ((v.setPwm n { v.pwm n with step := .run, gain := (Ramp.rest none).to (v.pwmGoal n) (v.framp (.pwm n)) }).setFn (.pwm n) { v.fn (.pwm n) with wait := 0 })) ∧
  (∀ (t : Nat) (n : Nat) (s v : State), v = s.clock t →
    (v.pwm n).step = .stop →
    (v.pwm n).at_ ≤ v.now →
    exec (.pwmStopLeadEnd t n) s =
      .next ((v.setPwm n { PwmCh.reset with clipAt := (v.pwm n).clipAt }).setFn (.pwm n) ((v.fn (.pwm n)).quiesce ((v.setPwm n { PwmCh.reset with clipAt := (v.pwm n).clipAt }).fframe (.pwm n))))) ∧
  (∀ (t : Nat) (n : Nat) (s v : State), v = s.clock t →
    1 ≤ n →
    n ≤ 16 →
    v.rd (0x320F + n) 0x0B ≠ 0 →
    (v.pwm n).step ≠ .safe →
    v.edgeDue n = true →
    exec (.pwmEdgeEvent t n) s =
      .next (((v.setPwm n { v.pwm n with edgeAt := some v.now }).bump 0x3200 6).hkEdge n)) ∧
  (∀ (t : Nat) (k : Nat) (s v : State), v = s.clock t →
    0 < k →
    k = (((v.now : Rat) - v.clk.triAt) / v.triPeriod).floor.toNat →
    exec (.pwmSpreadUpdate t  ) s =
      .next ({ v with
        clk := { v.clk with
          pwmDepth := v.rd 0x2101 1, pwmRate := v.rd 0x2101 2
          triAt := v.clk.triAt + ((k : Rat) * v.triPeriod).floor.toNat } }))

/-- A frame that starts at a slave direction that is up, or in FAULT, is taken by that direction; a master direction takes its
frames with the ticks of its domain, and the command then changes nothing. A received frame that ends at a receive direction
that is up and has acquired is taken with its slots. SAP_CLOCK_LOST of a slave direction that is up and has had no frame start
for 4 µs puts it in FAULT with CLOCK_LOST set and counts SAP_CLOCK_LOST (62h). (11_serial_ports.md) -/
def Obligations.SerialPortEvents : Prop :=
  (∀ (t : Nat) (p bits : Nat) (dir : SapDir) (s v : State), v = s.clock t →
    p < 16 →
    v.sapUp p dir = true ∨ v.phase (sapFunc p dir) = .fault →
    cfgMaster (v.sapDir p dir).cfg = false →
    exec (.portFrame t p dir (.start bits)) s =
      .next (v.sapStart p dir bits)) ∧
  (∀ (t : Nat) (p bits : Nat) (dir : SapDir) (s v : State), v = s.clock t →
    p < 16 →
    v.sapUp p dir = true →
    cfgMaster (v.sapDir p dir).cfg = true →
    exec (.portFrame t p dir (.start bits)) s =
      .next (v)) ∧
  (∀ (t : Nat) (p : Nat) (slots : List Nat) (s v : State), v = s.clock t →
    p < 16 →
    v.sapUp p .rx = true →
    (v.sapDir p .rx).acquired = true →
    exec (.portFrame t p .rx (.complete slots)) s =
      .next (v.sapComplete p slots)) ∧
  (∀ (t : Nat) (p : Nat) (dir : SapDir) (s v : State), v = s.clock t →
    p < 16 →
    v.sapUp p dir = true →
    cfgMaster (v.sapDir p dir).cfg = false →
    (v.sapDir p dir).startAt + 4000 ≤ v.now →
    exec (.sapClockLost t p dir) s =
      .next (((v.faultSap p dir).setSap p dir { (v.faultSap p dir).sapDir p dir with clockLost := true, good := 0 }).event 0x62 (0x3301 + p)))

/-- LINK_UP of a port whose domain is powered, whose mode is not off and whose link is down starts the port afresh (an edge port
at once where EDGE_PORT is 02h), asks its receive multiplexer for the recovered clock and starts the flows that may start.
LINK_DOWN drops the link. HELLO_SEND sends the node's HELLO when 1 ms has passed since the last. HELLO on a port that may be a
chain port is taken. EDGE_TIMEOUT makes a port without a HELLO for 1 s an edge port, and flows that may start do.
(12_chain.md) -/
def Obligations.ChainPortLinks : Prop :=
  (∀ (t : Nat) (port : ChPort) (s v : State), v = s.clock t →
    v.pdOn 11 = true →
    v.portMode port ≠ 0 →
    (v.port port).up = false →
    exec (.linkUp t port) s =
      .next (((v.setPort port
          { PortSt.down with
            st := if v.rd (portIndex port) 3 = 2 then 4 else 2, up := true, upAt := v.now }).askMux
          (match port with | .cha => .chaRx | .chb => .chbRx) 8).startFlows)) ∧
  (∀ (t : Nat) (port : ChPort) (s v : State), v = s.clock t →
    exec (.linkDown t port) s =
      .next (v.dropLink port)) ∧
  (∀ (t : Nat) (port : ChPort) (s v : State), v = s.clock t →
    (v.port port).up = true →
    v.isEdge port = false →
    (v.port port).sentAt = 0 ∨ (v.port port).sentAt + 1000000 ≤ v.now →
    exec (.helloSend t port) s =
      .next ((v.setPort port { v.port port with sentAt := v.now }).send
        (.hello port uid v.net.node v.net.headId (if v.net.st = 2 ∨ v.net.st = 3 then v.net.headPrio else v.rd 0x4000 7) (v.rateFor port)))) ∧
  (∀ (t : Nat) (port : ChPort) (u node headUid headPrio rate : Nat) (s v : State), v = s.clock t →
    (v.port port).up = true →
    v.rd (portIndex port) 3 ≠ 2 →
    exec (.hello t port u node headUid headPrio rate) s =
      .next (v.takeHello port u node headUid headPrio rate)) ∧
  (∀ (t : Nat) (port : ChPort) (s v : State), v = s.clock t →
    (v.port port).up = true →
    (v.port port).helloAt = none →
    v.rd (portIndex port) 3 = 0 →
    (v.port port).upAt + 1000000000 ≤ v.now →
    exec (.edgeTimeout t port) s =
      .next ((v.setPort port { v.port port with st := 4 }).startFlows))

/-- HEAD_CLAIM of a node that hears no head for its time begins the election: with the priority 255 it only waits; with one chain
link it stands for head with its own claim; with two it sends the claim of a node that is not eligible out of both, and stands
for head if that comes round (how it finds that it is in a ring is the model's choice, log entry 77). HEAD_ELECTION, 50 ms
after the claim, makes the node head where its own claim is the best and otherwise leaves the election; a node without a
candidate sets NO_HEAD. TOPOLOGY frames of a chain link are taken. JOIN_RETRY of a refused node tries again after 10 s.
CHAIN_JOIN admits a node whose offset has stayed within 500 ns for 1 s. NODE_RELEASE takes a number and its slots back at the
head. PEER_DELAY, 15.625 ms after the last exchange, counts the exchange; from the eighth on LINK_DELAY shows the delay, and
the eighth of a joining node asks to join. (12_chain.md) -/
def Obligations.ChainHeadAndMembers : Prop :=
  (∀ (t : Nat) (a : Nat) (s v : State), v = s.clock t →
    v.net.st = 1 →
    (∃ p ∈ v.chainLinks, (v.port p).helloAt = some a ∧ a + 10000000 ≤ v.now) →
    v.net.claimAt = none →
    v.rd 0x4000 7 = 255 →
    exec (.headClaim t) s =
      .next (v.mapNet fun n => { n with claimAt := some v.now })) ∧
  (∀ (t : Nat) (a : Nat) (s v : State), v = s.clock t →
    v.net.st = 1 →
    (∃ p ∈ v.chainLinks, (v.port p).helloAt = some a ∧ a + 10000000 ≤ v.now) →
    v.net.claimAt = none →
    v.rd 0x4000 7 ≠ 255 →
    v.chainLinks.length = 1 →
    exec (.headClaim t) s =
      .next ((v.mapNet fun n => { n with claimAt := some v.now }).standClaim)) ∧
  (∀ (t : Nat) (a : Nat) (s v : State), v = s.clock t →
    v.net.st = 1 →
    (∃ p ∈ v.chainLinks, (v.port p).helloAt = some a ∧ a + 10000000 ≤ v.now) →
    v.net.claimAt = none →
    v.rd 0x4000 7 ≠ 255 →
    v.chainLinks.length ≠ 1 →
    exec (.headClaim t) s =
      .next ((v.mapNet fun n => { n with claimAt := some v.now }).tell v.chainLinks (.claim uid 255 v.ownClaim.2.2))) ∧
  (∀ (t : Nat) (u : State) (s v : State), v = s.clock t →
    v.net.st = 3 →
    v.net.csAt + 1000000000 ≤ v.now →
    v.chainLinks ≠ [] →
    v.net.claimAt = none →
    (u = (v.leaveChain.mapNet fun n => { n with st := 1 }).mapNet fun n => { n with claimAt := some v.leaveChain.now }) →
    exec (.headClaim t  ) s =
      .next (if u.rd 0x4000 7 = 255 then u else if v.chainLinks.length = 1 then u.standClaim else u.tell v.chainLinks (.claim uid 255 u.ownClaim.2.2))) ∧
  (∀ (t : Nat) (a : Nat) (s v : State), v = s.clock t →
    v.net.claimAt = some a →
    v.net.st = 1 →
    a + 50000000 ≤ v.now →
    v.net.best = none →
    exec (.headElection t  ) s =
      .next ((v.setFlag 2 true).mapNet fun n => { n with claimAt := none })) ∧
  (∀ (t : Nat) (a : Nat) (b : Nat × Bool × Nat) (s v : State), v = s.clock t →
    v.net.claimAt = some a →
    v.net.st = 1 →
    a + 50000000 ≤ v.now →
    v.net.best = some b →
    b.1 = uid →
    exec (.headElection t) s =
      .next (v.becomeHead.startFlows)) ∧
  (∀ (t : Nat) (a : Nat) (b : Nat × Bool × Nat) (s v : State), v = s.clock t →
    v.net.claimAt = some a →
    v.net.st = 1 →
    a + 50000000 ≤ v.now →
    v.net.best = some b →
    b.1 ≠ uid →
    exec (.headElection t) s =
      .next (v.mapNet fun n => { n with claimAt := none, best := none })) ∧
  (∀ (t : Nat) (port : ChPort) (msg : TopoMsg) (s v : State), v = s.clock t →
    v.chainLink port = true →
    exec (.topology t port msg) s =
      .next ((v.takeTopology port msg).startFlows)) ∧
  (∀ (t : Nat) (l : List ChPort) (s v : State), v = s.clock t →
    v.net.st = 5 →
    v.net.retryAt ≤ v.now →
    (l = [ChPort.cha, .chb].filter fun p => (v.port p).up && (v.port p).st == 5 && v.rd (portIndex p) 9 == 2) →
    l ≠ [] →
    exec (.joinRetry t  ) s =
      .next (((l.foldl (fun (u : State) p => (u.setPort p { u.port p with st := 2 }).wr (portIndex p) 9 0) v).mapNet fun n =>
        { n with st := 2, retryAt := v.now + 10000000000 }).askJoin)) ∧
  (∀ (t : Nat) (s v : State), v = s.clock t →
    v.net.st = 5 →
    v.net.retryAt ≤ v.now →
    (([ChPort.cha, .chb].filter fun p => (v.port p).up && (v.port p).st == 5 && v.rd (portIndex p) 9 == 2) = []) →
    exec (.joinRetry t) s =
      .next (v.mapNet fun n => { n with retryAt := v.now + 10000000000 })) ∧
  (∀ (t : Nat) (s v : State), v = s.clock t →
    v.net.st = 2 ∨ v.net.st = 3 →
    v.net.node ≠ 0xFFFF →
    (v.net.flags.testBit 0 = false ∨ v.net.st = 2 ∨ (v.chainLinks.any fun p => (v.port p).st == 2) = true) →
    v.net.csAt ≠ 0 →
    v.net.flags.testBit 1 = false →
    -500 ≤ v.net.offset →
    v.net.offset ≤ 500 →
    v.net.goodSince + 1000000000 ≤ v.now →
    exec (.chainJoin t) s =
      .next (v.joined.startFlows)) ∧
  (∀ (t : Nat) (node : Nat) (s v : State), v = s.clock t →
    v.net.st = 4 →
    node ≠ 0 →
    node < 1024 →
    exec (.nodeRelease t node) s =
      .next ((v.mapNet fun n => { n with
        members := n.members.filter fun m => m.number != node
        nodes := if (v.net.members.any fun m => m.number == node) = true ∨ node < n.nodes then n.nodes - 1 else n.nodes }).checkPres)) ∧
  (∀ (t : Nat) (port : ChPort) (ns : Nat) (s v : State), v = s.clock t →
    v.chainLink port = true →
    (v.port port).exchanges = 0 ∨ (v.port port).delayAt + 15625000 ≤ v.now →
    (v.port port).exchanges + 1 < 8 →
    exec (.peerDelay t port ns) s =
      .next (v.setPort port { v.port port with exchanges := (v.port port).exchanges + 1, delayAt := v.now })) ∧
  (∀ (t : Nat) (port : ChPort) (ns : Nat) (u : State) (s v : State), v = s.clock t →
    v.chainLink port = true →
    (v.port port).exchanges = 0 ∨ (v.port port).delayAt + 15625000 ≤ v.now →
    8 ≤ (v.port port).exchanges + 1 →
    u = (v.setPort port { v.port port with exchanges := (v.port port).exchanges + 1, delayAt := v.now }).wr (portIndex port) 6 (ns % 2 ^ 32) →
    exec (.peerDelay t port ns) s =
      .next (if v.net.st = 2 ∧ v.net.node = 0xFFFF ∧ (v.port port).exchanges = 7 then u.askJoin else u))

/-- CYCLE_START_SEND of the head opens a cycle it has not opened: the frame carries the cycle number, its time, the presentation
offset, node count, topology and rate, leaves on every chain link, and the audio of the cycle and a changed HEALTH follow.
CYCLE_START at a joining or synchronised node is forwarded, steers the node and opens its cycle, and flows that may start do;
at the head, or of a cycle that is open, it is only forwarded, and it ends a search. CHAIN_HOLDOVER, 1 ms after the last
CYCLE_START, lets the steer go to its mean over the last second and sets HOLDOVER; CHAIN_SYNC_LOSS clears CHAIN_SYNC after 10
s of it. EDGE_PTP_MESSAGE of the edge port that gives the time steers a head that is locked to it. PRESENTATION_CHANGE takes a
new offset when its time has come. SHARE: the head answers a request, a member takes its grant, and a refusal shows in 4003h.
(12_chain.md) -/
def Obligations.ChainTime : Prop :=
  (∀ (t : Nat) (s v : State), v = s.clock t →
    v.net.st = 4 →
    v.net.cycle ≠ v.ptp / 125000 →
    exec (.cycleStartSend t) s =
      .next ((let u := v.mapNet fun x => { x with cycle := v.ptp / 125000, csAt := v.now }
        let f : CycleStartFrame :=
          { hdr := u.header 1 (v.ptp / 125000) 0xFFFF 0 false, time := v.ptp / 125000 * 125000, correction := 0,
            presentation := u.net.presentation, nodes := u.net.nodes, topology := u.net.topology, rate := u.chainRate,
            headId := uid }
        (u.chainLinks.foldl (fun (w : State) p =>
          w.send (.cycleStart p { f with hdr := w.header 1 (v.ptp / 125000) 0xFFFF 0 (p == .chb) })) u).sendAudio.tellChange))) ∧
  (∀ (t : Nat) (port : ChPort) (f : CycleStartFrame) (u : State) (s v : State), v = s.clock t →
    v.chainLink port = true →
    f.hdr.version = 1 →
    f.hdr.srcNode ≠ v.net.node ∨ v.net.node = 0xFFFF →
    u = v.forwardCs port f →
    u.net.st = 1 ∨ u.net.st = 2 ∨ u.net.st = 3 →
    f.time / 125000 ≠ u.net.cycle ∨ u.net.csAt = 0 →
    exec (.cycleStart t port f) s =
      .next (((((if u.net.st = 1 then u.mapNet fun n => { n with st := 2, headId := f.headId, claimAt := none, best := none } else u).takeCs port f).sendAudio).tellChange).startFlows)) ∧
  (∀ (t : Nat) (port : ChPort) (f : CycleStartFrame) (u : State) (s v : State), v = s.clock t →
    v.chainLink port = true →
    f.hdr.version = 1 →
    f.hdr.srcNode ≠ v.net.node ∨ v.net.node = 0xFFFF →
    u = v.forwardCs port f →
    u.net.st = 4 ∨ u.net.st = 5 ∨ u.net.st = 0 ∨ (f.time / 125000 = u.net.cycle ∧ u.net.csAt ≠ 0) →
    exec (.cycleStart t port f) s =
      .next (u)) ∧
  (∀ (t : Nat) (s v : State), v = s.clock t →
    v.net.st = 3 →
    v.net.flags.testBit 1 = false →
    v.net.csAt + 1000000 ≤ v.now →
    exec (.chainHoldover t) s =
      .next (((v.steerChain (if v.net.servo.hist.isEmpty then v.net.servo.steer v.now else meanOf v.net.servo.hist)).setFlag 1 true).mapNet fun n => { n with holdAt := v.now })) ∧
  (∀ (t : Nat) (s v : State), v = s.clock t →
    v.net.st = 3 →
    v.net.flags.testBit 1 = true →
    v.net.holdAt + 10000000000 ≤ v.now →
    exec (.chainSyncLoss t) s =
      .next (v.setFlag 0 false)) ∧
  (∀ (t : Nat) (port : ChPort) (offset : Int) (s v : State), v = s.clock t →
    (v.port port).up = true →
    v.isEdge port = true →
    v.rd 0x4000 0x11 = 1 →
    exec (.edgePtpMessage t port false offset) s =
      .next (v.mapNet fun n => { n with extLocked := false })) ∧
  (∀ (t : Nat) (port : ChPort) (offset : Int) (s v : State), v = s.clock t →
    (v.port port).up = true →
    v.isEdge port = true →
    v.rd 0x4000 0x11 = 1 →
    v.net.st = 4 →
    exec (.edgePtpMessage t port true offset) s =
      .next ({ v with net := { v.net with extLocked := true }, ptpOffset := v.ptpOffset - offset })) ∧
  (∀ (t : Nat) (x : Nat × Nat) (s v : State), v = s.clock t →
    v.net.presNext = some x →
    x.2 ≤ v.now →
    exec (.presentationChange t) s =
      .next (v.setPres x.1)) ∧
  (∀ (t : Nat) (u k : Nat) (s v : State), v = s.clock t →
    v.net.st = 4 →
    exec (.share t (.request u k)) s =
      .next (v.answerShare u k)) ∧
  (∀ (t : Nat) (u k free : Nat) (s v : State), v = s.clock t →
    exec (.share t (.grant u k free)) s =
      .next (if u = uid ∧ v.net.st = 3 then (v.granted371 k free).startFlows else v.wr 0x4003 5 free)) ∧
  (∀ (t : Nat) (u free : Nat) (s v : State), v = s.clock t →
    exec (.share t (.refuse u free)) s =
      .next (if u = uid ∧ v.net.st = 3 then (v.wr 0x4003 3 2).wr 0x4003 5 free else v))

/-- FRAME_FORWARD sends a frame of a known version on at the other port with one hop more, counting a bad check and a kind that it
does not know, and discards a frame that is too long, counting it. AUDIO from another node is taken by each receive flow that
names its source and flow. TRANSACTION addressed to the node arrives as its requester's transaction; a repeated one is
answered with the response kept. FLOW_LOST marks a receive flow after eight missing cycles and counts FLOW_LOST (76h);
ALT_SOURCE_SWITCH turns it to the other source at a cycle boundary. AES67_PACKET that no AES67 flow expects has no effect but
time. BEACON_REQUEST from a chain link is forwarded and noted, and beacons follow where the node is awake and in the chain;
BEACON_RECEIVE on a sleeping node, 1 s after the last, notes and relays the beacon and wakes the node if its check holds.
SNAPSHOT arms the chain snapshot. (12_chain.md, 18_diagnostics.md) -/
def Obligations.ChainFramesAndFlows : Prop :=
  (∀ (t : Nat) (port : ChPort) (f : ChainFrame) (s v : State), v = s.clock t →
    v.chainLink port = true →
    f.length ≤ 580 →
    f.hdr.version = 1 →
    v.forwards port = true →
    f.hdr.srcNode ≠ v.net.node ∨ v.net.node = 0xFFFF →
    f.hdr.kind ≠ 2 ∨ v.rd (portIndex (otherPort port)) 5 ≠ f.hdr.srcNode ∨ f.hdr.srcNode = 0xFFFF →
    exec (.frameForward t port f) s =
      .next ((if f.fcs = .bad then v.bump (portIndex port) 8 else
        if f.fcs = .good ∧ (f.hdr.kind < 1 ∨ 0x0B < f.hdr.kind) then v.event 0x71 (portIndex port) else v).send
          (.forward (otherPort port) { f with hdr := { f.hdr with hops := f.hdr.hops + 1 }, fcs := if f.fcs = .good then .good else .inverted }))) ∧
  (∀ (t : Nat) (port : ChPort) (f : ChainFrame) (s v : State), v = s.clock t →
    v.chainLink port = true →
    580 < f.length →
    exec (.frameForward t port f) s =
      .next (v.bump (portIndex port) 8)) ∧
  (∀ (t : Nat) (port : ChPort) (f : AudioFrame) (s v : State), v = s.clock t →
    v.chainLink port = true →
    f.hdr.version = 1 →
    f.hdr.srcNode ≠ v.net.node →
    exec (.audio t port f) s =
      .next ((List.range 32).foldl (fun (u : State) r =>
        if u.rxTakes r && u.rd (0x4020 + r) 4 == f.hdr.field % 256 then
          (if u.rd (0x4020 + r) 3 != 0 && u.rd (0x4020 + r) 3 % 2 ^ 40 == f.hdr.src then u.rxFrame r f false
           else if u.rd (0x4020 + r) 5 != 0 && u.rd (0x4020 + r) 5 % 2 ^ 40 == f.hdr.src then u.rxFrame r f true
           else u)
        else u) v)) ∧
  (∀ (t : Nat) (port : ChPort) (f : TransFrame) (s v : State), v = s.clock t →
    v.chainLink port = true →
    f.hdr.version = 1 →
    f.hdr.kind = 3 →
    f.hdr.dst = 0xFFFF ∨ (f.hdr.dst = 0xFFFE ∧ f.target = uid) ∨ (f.hdr.dst = v.net.node ∧ f.hdr.dst < 0xFFFE) →
    f.requester ≠ uid →
    v.canRun (.chain f.requester) = true →
    8 ≤ f.body.length →
    exec (.transaction t port f) s =
      .next ((match v.kept (.chain f.requester) f.body with
        | some r => if f.hdr.flags.testBit 4 = true then v else v.sendResponse f.requester f.hdr.srcNode r
        | none => v.arrive (.chain f.requester) { node := f.hdr.srcNode, reply := !f.hdr.flags.testBit 4, body := f.body }))) ∧
  (∀ (t : Nat) (r : Nat) (s v : State), v = s.clock t →
    r < 32 →
    (v.fn (.flowRx r)).active = true →
    (v.rxFlow r).lost = false →
    8 ≤ (v.rxFlow r).missRun →
    exec (.flowLost t r) s =
      .next ((v.setRx r { v.rxFlow r with lost := true }).event 0x76 (0x4020 + r))) ∧
  (∀ (t : Nat) (r : Nat) (s v : State), v = s.clock t →
    r < 32 →
    (v.fn (.flowRx r)).active = true →
    v.wantsAlt r ≠ (v.rxFlow r).onAlt →
    v.atCycle r = true →
    exec (.altSourceSwitch t r) s =
      .next (v.setRx r { v.rxFlow r with onAlt := v.wantsAlt r, xf := 0 })) ∧
  (∀ (t : Nat) (port : ChPort) (target : Nat) (s v : State), v = s.clock t →
    v.chainLink port = true →
    target ≠ 4 →
    target ≠ 5 →
    exec (.beaconRequest t port target) s =
      .next ((if v.forwards port = true then v.send (.beaconRequest target none) else v).event 0x71 (portIndex port))) ∧
  (∀ (t : Nat) (port : ChPort) (target : Nat) (u : State) (s v : State), v = s.clock t →
    v.chainLink port = true →
    (u = if v.forwards port = true then v.send (.beaconRequest target none) else v) →
    target = 4 ∨ target = 5 →
    (v.net.requestAt = none ∨ (∃ a, v.net.requestAt = some a ∧ a + 1000000000 ≤ v.now)) →
    Mode.awake v.ms.mode = true →
    v.inChain = true →
    exec (.beaconRequest t port target) s =
      .next ((u.mapNet fun n => { n with requestAt := some v.now }).emitBeacons target)) ∧
  (∀ (t : Nat) (port : ChPort) (target hops : Nat) (ok : Bool) (u : State) (s v : State), v = s.clock t →
    v.ms.mode = .slate ∨ v.ms.mode = .indigo →
    v.portMode port ≠ 3 →
    v.portMode port ≠ 0 →
    (v.net.beaconAt = none ∨ (∃ a, v.net.beaconAt = some a ∧ a + 1000000000 ≤ v.now)) →
    (u = v.mapNet fun n => { n with beaconAt := some v.now }) →
    exec (.beaconReceive t port target hops ok) s =
      .next ((let w := if v.rd 0x2003 5 = 1 ∧ v.portMode (otherPort port) ≠ 3 ∧ v.portMode (otherPort port) ≠ 0 ∧ v.rd (portIndex (otherPort port)) 3 ≠ 2 then
            u.send (.beacon (otherPort port) target (min 1023 (hops + 1)) ok) else u
        if ok = true ∧ (target = 4 ∨ target = 5) then w.wake (.beacon hops target) else w))) ∧
  (∀ (t : Nat) (snapAt tag : Nat) (s v : State), v = s.clock t →
    v.pdOn 11 = true →
    exec (.snapshot t snapAt tag) s =
      .next (v.armSnap (snapAt % 2 ^ 64) (tag % 2 ^ 32) true))

/-- A packet of 48 samples at an edge port that is up, for the first active AES67 receive flow that names its address, port and
payload type, with the encoding and channel count of the flow, enters the flow of its destination while that starts, runs,
drains or ramps: bound to ticks, as the block of the ticks that the timestamp names, nearest to the present tick; else through
the ASRC. One whose encoding or channel count differs only marks the format error of the flow. (12_chain.md) -/
def Obligations.EdgePortPackets : Prop :=
  (∀ (t : Nat) (port : ChPort) (p : RtpPacket) (a r : Nat) (s v : State), v = s.clock t →
    v.isEdge port = true →
    (v.port port).up = true →
    p.words.length = 48 →
    (((List.range 16).find? fun a => (v.fn (.aes a)).active && decide (0x10 ≤ v.rd (0x4040 + a) 3) && v.rd (0x4040 + a) 3 != 0xFF &&
        (v.rd (0x4040 + a) 4 == 2) == (port == .chb) && v.rd (0x4040 + a) 5 == p.ip && v.rd (0x4040 + a) 6 == p.udp &&
        v.rd (0x4040 + a) 8 == p.pt) = some a) →
    r = v.rd (0x4040 + a) 3 - 0x10 →
    [Phase.starting, .running, .draining, .ramping].contains (v.fn (.flowRx r)).phase = true →
    (v.rd (0x4040 + a) 7 == 1) = p.l16 →
    (∀ l ∈ p.words, l.length = v.rd (0x4020 + r) 6) →
    v.rd (0x4020 + r) 6 ≤ 8 →
    v.rxTimed r = false →
    exec (.aes67Packet t port p) s =
      .next (v.rxForeign r (p.words.map fun y => y.map rtpSample))) ∧
  (∀ (t : Nat) (port : ChPort) (p : RtpPacket) (a r : Nat) (s v : State), v = s.clock t →
    v.isEdge port = true →
    (v.port port).up = true →
    p.words.length = 48 →
    (((List.range 16).find? fun a => (v.fn (.aes a)).active && decide (0x10 ≤ v.rd (0x4040 + a) 3) && v.rd (0x4040 + a) 3 != 0xFF &&
        (v.rd (0x4040 + a) 4 == 2) == (port == .chb) && v.rd (0x4040 + a) 5 == p.ip && v.rd (0x4040 + a) 6 == p.udp &&
        v.rd (0x4040 + a) 8 == p.pt) = some a) →
    r = v.rd (0x4040 + a) 3 - 0x10 →
    [Phase.starting, .running, .draining, .ramping].contains (v.fn (.flowRx r)).phase = true →
    (v.rd (0x4040 + a) 7 == 1) = p.l16 →
    (∀ l ∈ p.words, l.length = v.rd (0x4020 + r) 6) →
    v.rd (0x4020 + r) 6 ≤ 8 →
    v.rxTimed r = true →
    exec (.aes67Packet t port p) s =
      .next (let i := tickIndex v.ptp 48000
        let low := (p.timestamp + 2 ^ 32 - v.rd (0x4040 + a) 0x0B) % 2 ^ 32
        let c := i / 2 ^ 32 * 2 ^ 32 + low
        let i0 := if c < i + 2 ^ 31 then (if c + 2 ^ 31 < i then c + 2 ^ 32 else c) else c - 2 ^ 32
        v.rxBlock r (i0 / 48) i0 false (p.words.map fun y => y.map rtpSample))) ∧
  (∀ (t : Nat) (port : ChPort) (p : RtpPacket) (a r : Nat) (s v : State), v = s.clock t →
    v.isEdge port = true →
    (v.port port).up = true →
    p.words.length = 48 →
    (((List.range 16).find? fun a => (v.fn (.aes a)).active && decide (0x10 ≤ v.rd (0x4040 + a) 3) && v.rd (0x4040 + a) 3 != 0xFF &&
        (v.rd (0x4040 + a) 4 == 2) == (port == .chb) && v.rd (0x4040 + a) 5 == p.ip && v.rd (0x4040 + a) 6 == p.udp &&
        v.rd (0x4040 + a) 8 == p.pt) = some a) →
    r = v.rd (0x4040 + a) 3 - 0x10 →
    [Phase.starting, .running, .draining, .ramping].contains (v.fn (.flowRx r)).phase = true →
    ((v.rd (0x4040 + a) 7 == 1) ≠ p.l16 ∨ (∃ l ∈ p.words, l.length ≠ v.rd (0x4020 + r) 6) ∨ 8 < v.rd (0x4020 + r) 6) →
    exec (.aes67Packet t port p) s =
      .next (v.setRx r { v.rxFlow r with formatAt := some v.now }))

/-- XO_AMPLITUDE notes the detector and starts the stability count. XO_STABILITY_COUNT_DONE, when that many RCO cycles can have
passed, with a count in range makes XO stable, counts XO_STARTS up and turns the control and PTP clocks to XO; a count out of
range sets FREQ_BAD, starts the count again and counts XO_FREQ_BAD (21h). XO_NO_START after 100 ms of AMBER without amplitude
sets NO_START and counts XO_NO_START (20h). XO_MISSING_EDGE notes the time of the loss, counts XO_LOST (22h), forces the
control and PTP clocks to their fallback and gates the synthesizers. MUX_SWITCH_COMPLETE of any multiplexer whose old input
may have edges passes the new one, MUX_SOURCE_EDGES resumes a switch once the new input has edges, MUX_HANG marks one whose
old input has stopped and counts MUX_HANG (23h). GATE_CLOSE stops the clock of a domain with AUTO_GATE that has been idle for
16 cycles. An event that gates clocks by force aborts the transaction under way on a gated target. (04_clocks.md) -/
def Obligations.CrystalAndMuxes : Prop :=
  (∀ (t : Nat) (on : Bool) (s v : State), v = s.clock t →
    Mode.xoOn v.ms.mode = true →
    v.clk.amp ≠ on →
    exec (.xoAmplitude t on) s =
      .next ({ v with clk := { v.clk with amp := on, countAt := v.now } })) ∧
  (∀ (t : Nat) (s v : State), v = s.clock t →
    v.ms.mode = .amber →
    v.clk.amp = false →
    v.clk.stable = false →
    v.ms.noStart = false →
    v.clk.amberAt + 100000000 ≤ v.now →
    exec (.xoNoStart t) s =
      .next ((v.mapMs fun m => { m with noStart := true }).event 0x20 0x2100)) ∧
  (∀ (t : Nat) (rcoCount : Nat) (s v : State), v = s.clock t →
    Mode.xoOn v.ms.mode = true →
    v.clk.amp = true →
    v.clk.stable = false →
    10133 ≤ rcoCount →
    rcoCount ≤ 11200 →
    v.clk.countAt * 32640000 + rcoCount * 1000000000 ≤ v.now * 32640000 →
    exec (.xoStabilityCountDone t rcoCount) s =
      .next (((((((({ v with clk := { v.clk with stable := true, lost := false, freqBad := false, armed := true } }.wr 0x2100 3
        ((v.rd 0x2100 3 + 1) % 2 ^ 16)).mapMs fun m => { m with noStart := false }).askMux .control 1).askMux .ptp 1).requestWanted).refresh).settleCauses))) ∧
  (∀ (t : Nat) (rcoCount : Nat) (s v : State), v = s.clock t →
    Mode.xoOn v.ms.mode = true →
    v.clk.amp = true →
    v.clk.stable = false →
    rcoCount < 10133 ∨ 11200 < rcoCount →
    v.clk.countAt * 32640000 + rcoCount * 1000000000 ≤ v.now * 32640000 →
    exec (.xoStabilityCountDone t rcoCount) s =
      .next ({ v with clk := { v.clk with freqBad := true, countAt := v.now } }.event 0x21 0x2100)) ∧
  (∀ (t : Nat) (s v : State), v = s.clock t →
    v.clk.armed = true →
    exec (.xoMissingEdge t) s =
      .next (v.abortFrom ((([Syn.a, .b, .s].foldl (fun (u : State) x => u.gateSyn x true) (((
          { ((v.wr 0x2100 7 v.ptp).bump 0x2100 8).event 0x22 0x2100 with
            clk := { (((v.wr 0x2100 7 v.ptp).bump 0x2100 8).event 0x22 0x2100).clk with
              lost := true, stable := false, armed := false,
              countAt := (((v.wr 0x2100 7 v.ptp).bump 0x2100 8).event 0x22 0x2100).now,
              lpoAt := (((v.wr 0x2100 7 v.ptp).bump 0x2100 8).event 0x22 0x2100).now } } : State).forceMux .control 2).forceMux .ptp 3)).loseSynS).settleCauses).refresh)) ∧
  (∀ (t : Nat) (m : Mux) (s v : State), v = s.clock t →
    (v.mux (muxKey m)).st = 1 ∨ (v.mux (muxKey m)).st = 2 →
    v.mayRun m = true →
    exec (.muxSwitchComplete t m) s =
      .next ((let u := v.setMux (muxKey m) { active := (v.mux (muxKey m)).goal m, want := 0, st := 0 }
        match m with
        | .hk => u.hkInvalidate
        | .sap p dir => u.sapSwitched p dir
        | _ => u.settleCauses))) ∧
  (∀ (t : Nat) (m : Mux) (s v : State), v = s.clock t →
    (v.mux (muxKey m)).st = 4 →
    v.hasEdges m (v.mux (muxKey m)).want = true →
    exec (.muxSourceEdges t m) s =
      .next (v.setMux (muxKey m) { v.mux (muxKey m) with st := 1 })) ∧
  (∀ (t : Nat) (m : Mux) (s v : State), v = s.clock t →
    (v.mux (muxKey m)).st = 1 →
    v.mayStop m = true →
    exec (.muxHang t m) s =
      .next (v.abortFrom (let u := (v.setMux (muxKey m) { v.mux (muxKey m) with st := 2 }).event 0x23 (muxIndex m)
        match m with
        | .sap p dir => (u.faultSap p dir).setSap p dir { (u.faultSap p dir).sapDir p dir with clockLost := true, good := 0 }
        | _ => u.settleCauses))) ∧
  (∀ (t : Nat) (cd : Nat) (s v : State), v = s.clock t →
    3 ≤ cd →
    cd < 16 →
    v.rd (0x2110 + cd) 5 = 1 →
    cd ∉ v.clk.closed →
    v.cdWorks cd = false →
    look 0 v.clk.workAt cd + gateIdle cd ≤ v.now →
    exec (.gateClose t cd) s =
      .next ({ v with clk := { v.clk with closed := cd :: v.clk.closed } }))

/-- With the reference ready, SYN_ACQUISITION_START of a stopped synthesizer, SYN_REACQUIRE 10 µs after a gating and
SYN_FAULT_RETRY 100 ms after the last try began begin an acquisition. SYN_LOCK says what the two methods declare, the pin from
300 µs and the window from WINDOW_N cycles into the acquisition on: within 2 ms a lock that LOCK_METHOD accepts shows the lock
time in µs, clears the failures, makes the synthesizer RUNNING and starts what waited; otherwise the declarations are only
shown, and in RUNNING the loss of the selected one gates the output. SYN_UNLOCK of a running synthesizer gates its output.
SYN_ACQUISITION_FAIL after 2 ms tries again; the third failure is FAULT and counts SYN_NO_LOCK (27h). CKO_CHANGE of a draining
output starts it again with two low periods, or quiesces it. (05_synthesizers.md) -/
def Obligations.Synthesizers : Prop :=
  (∀ (t : Nat) (x : Syn) (s v : State), v = s.clock t →
    v.synReady = true →
    (v.syn x).acqAt = 0 →
    v.phase (.syn x) = .off ∨ v.phase (.syn x) = .quiesced ∨ (v.phase (.syn x) = .starting ∧ (v.syn x).refLost = true) →
    exec (.synAcquisitionStart t x) s =
      .next (v.acquireSyn x)) ∧
  (∀ (t : Nat) (x : Syn) (s v : State), v = s.clock t →
    v.synReady = true →
    (v.syn x).acqAt = 0 →
    (v.syn x).refLost = false →
    v.phase (.syn x) = .starting →
    (v.syn x).gatedAt + 10000 ≤ v.now →
    exec (.synReacquire t x) s =
      .next (v.acquireSyn x)) ∧
  (∀ (t : Nat) (x : Syn) (s v : State), v = s.clock t →
    v.phase (.syn x) = .fault →
    (v.syn x).acqAt = 0 →
    (v.syn x).tryAt + 100000000 ≤ v.now →
    v.synReady = true →
    exec (.synFaultRetry t x) s =
      .next (v.acquireSyn x)) ∧
  (∀ (t : Nat) (x : Syn) (pin window : Bool) (p w : Bool) (y : SynState) (s v : State), v = s.clock t →
    y = v.syn x →
    p = (pin && decide (y.tryAt + 300000 ≤ v.now)) →
    w = (window && decide (y.tryAt + refTime y.scale y.winN ≤ v.now)) →
    y.acqAt ≠ 0 →
    v.now ≤ y.acqAt + 2000000 →
    lockedBy y.method p w = true →
    exec (.synLock t x pin window) s =
      .next (v.abortFrom (let u := (v.setSyn x { y with pin := p, window := w }).wr (0x2104 + x.num) 0x0B ((v.now - y.acqAt) / 1000 % 2 ^ 32)
        let u := u.setSyn x { u.syn x with acqAt := 0, gatedAt := 0, fails := 0, refLost := false, lockAt := v.now }
        let u := u.setFn (.syn x) { u.fn (.syn x) with phase := .running }
        let u := (if x = .s then u.memEase .clock else u).refresh.settleCauses
        if u.ms.mode = .crimson then u else u.startAll))) ∧
  (∀ (t : Nat) (x : Syn) (pin window : Bool) (p w : Bool) (y : SynState) (s v : State), v = s.clock t →
    y = v.syn x →
    p = (pin && decide (y.tryAt + 300000 ≤ v.now)) →
    w = (window && decide (y.tryAt + refTime y.scale y.winN ≤ v.now)) →
    (y.acqAt ≠ 0 ∧ v.now ≤ y.acqAt + 2000000 ∧ lockedBy y.method p w = false) ∨ (y.acqAt = 0 ∧ v.phase (.syn x) = .running ∧ lostBy y.method p w = false) →
    exec (.synLock t x pin window) s =
      .next (v.abortFrom (v.setSyn x { y with pin := p, window := w }))) ∧
  (∀ (t : Nat) (x : Syn) (pin window : Bool) (p w : Bool) (y : SynState) (u : State) (s v : State), v = s.clock t →
    y = v.syn x →
    p = (pin && decide (y.tryAt + 300000 ≤ v.now)) →
    w = (window && decide (y.tryAt + refTime y.scale y.winN ≤ v.now)) →
    y.acqAt = 0 →
    v.phase (.syn x) = .running →
    lostBy y.method p w = true →
    u = (v.setSyn x { y with pin := p, window := w }).gateSyn x false →
    exec (.synLock t x pin window) s =
      .next (v.abortFrom ((if x = .s then u.loseSynS else u).settleCauses.refresh))) ∧
  (∀ (t : Nat) (x : Syn) (refLost : Bool) (s v : State), v = s.clock t →
    v.phase (.syn x) = .running →
    (refLost = true → v.clk.stable = false) →
    (refLost = false → (v.syn x).method ≠ 1 ∨ (v.syn x).lockAt + refTime (v.syn x).scale (v.syn x).unlockN ≤ v.now) →
    exec (.synUnlock t x refLost) s =
      .next (v.abortFrom ((if x = .s then (v.gateSyn x refLost).loseSynS else v.gateSyn x refLost).settleCauses.refresh))) ∧
  (∀ (t : Nat) (x : Syn) (u : State) (s v : State), v = s.clock t →
    (v.syn x).acqAt ≠ 0 →
    (v.syn x).acqAt + 2000000 ≤ v.now →
    u = v.setSyn x { v.syn x with fails := (v.syn x).fails + 1, acqAt := 0, stopAt := v.now, pin := false, window := false } →
    exec (.synAcquisitionFail t x) s =
      .next (if v.phase (.syn x) = .fault then u else if (v.syn x).fails < 2 then u.acquireSyn x
        else (u.faultFn (.syn x)).event 0x27 (0x2104 + x.num))) ∧
  (∀ (t : Nat) (n : Nat) (s v : State), v = s.clock t →
    n < 4 →
    (v.fn (.cko n)).phase = .draining →
    (v.fn (.cko n)).startPending = false →
    exec (.ckoChange t n) s =
      .next ((v.setCko n .off).setFn (.cko n) ((v.fn (.cko n)).quiesce 0))) ∧
  (∀ (t : Nat) (n : Nat) (u : State) (s v : State), v = s.clock t →
    n < 4 →
    (v.fn (.cko n)).phase = .draining →
    (v.fn (.cko n)).startPending = true →
    u = v.settleCko n →
    exec (.ckoChange t n) s =
      .next (u.setCko n { u.cko n with lowUntil := u.now + 2 * u.ckoPeriod (u.cko n).src (u.cko n).div }))

/-- LOOP_UPDATE acts on a loop 1 ms after its last update, whose steer it keeps in the history of 1000 updates. A loop that is
being left moves its steer by at most 10 ppb towards 0 and ends there. PULLING asks for the base with the pull limit until the
fill error is 0, and turns into TRACKING once the fill has stayed within 1/8 sample for 1 s; TRACKING and LIMIT ask for the
steer of the bandwidth; each is held within the steer limit. HOLDOVER moves the steer to its mean, and acquires again once the
leader delivers and the synthesizer runs. LOOP_ACQUIRE_END, 100 ms into the acquisition, sets the goal to the present steer
plus the frequency offset that the slope of the fill implies. LOOP_HOLDOVER of a loop whose leader has stopped delivering lets
the steer go to its mean over the last second, counts the holdover and the event LOOP_HOLDOVER (28h). (05_synthesizers.md) -/
def Obligations.TrackingLoops : Prop :=
  (∀ (t : Nat) (loop : Nat) (x : LoopState) (u : State) (s v : State), v = s.clock t →
    loop ≤ 1 →
    (v.loop loop).updAt + 1000000 ≤ v.now →
    x = { v.loop loop with updAt := v.now, hist := ((v.loop loop).steer :: (v.loop loop).hist).take 1000 } →
    u = v.setLoop loop x →
    (v.loop loop).leaving = true →
    exec (.loopUpdate t loop) s =
      .next (if x.steer - within 10 x.steer = 0 then u.setLoop loop { x with steer := 0, st := 0, leaving := false, hist := [] }
        else u.setLoop loop { x with steer := x.steer - within 10 x.steer })) ∧
  (∀ (t : Nat) (loop : Nat) (x : LoopState) (u : State) (g : Nat) (s v : State), v = s.clock t →
    loop ≤ 1 →
    (v.loop loop).updAt + 1000000 ≤ v.now →
    x = { v.loop loop with updAt := v.now, hist := ((v.loop loop).steer :: (v.loop loop).hist).take 1000 } →
    u = v.setLoop loop x →
    (v.loop loop).leaving = false →
    (v.loop loop).st = 2 →
    (g = if 32 < x.fill.natAbs then 0 else if x.goodSince = 0 then v.now else x.goodSince) →
    exec (.loopUpdate t loop) s =
      .next (if x.fill.natAbs ≤ 32 ∧ g + 1000000000 ≤ v.now then u.setLoop loop { x with goodSince := g, st := 3 }
        else u.limitLoop loop { x with goodSince := g } (u.pullGoal loop x) 2)) ∧
  (∀ (t : Nat) (loop : Nat) (x : LoopState) (u : State) (s v : State), v = s.clock t →
    loop ≤ 1 →
    (v.loop loop).updAt + 1000000 ≤ v.now →
    x = { v.loop loop with updAt := v.now, hist := ((v.loop loop).steer :: (v.loop loop).hist).take 1000 } →
    u = v.setLoop loop x →
    (v.loop loop).leaving = false →
    (v.loop loop).st = 3 ∨ (v.loop loop).st = 5 →
    exec (.loopUpdate t loop) s =
      .next (if x.st = 3 then u.limitLoop loop x (Config.loopStep (v.rd (0x2108 + loop) 5) x.fill x.steer) 3
        else u.limitLoop loop { x with goodSince := 0 } (Config.loopStep (v.rd (0x2108 + loop) 5) x.fill x.steer) 2)) ∧
  (∀ (t : Nat) (loop : Nat) (x : LoopState) (u w : State) (s v : State), v = s.clock t →
    loop ≤ 1 →
    (v.loop loop).updAt + 1000000 ≤ v.now →
    x = { v.loop loop with updAt := v.now, hist := ((v.loop loop).steer :: (v.loop loop).hist).take 1000 } →
    u = v.setLoop loop x →
    (v.loop loop).leaving = false →
    (v.loop loop).st = 4 →
    w = u.setLoop loop { x with steer := u.steerTo loop x.mean } →
    exec (.loopUpdate t loop) s =
      .next (if w.delivers (w.leader loop) = true ∧ w.synRuns (loopSyn loop) = true then
          w.setLoop loop { x with steer := u.steerTo loop x.mean, st := 1, since := w.now, slopeFill := x.fill, goodSince := 0 }
        else w)) ∧
  (∀ (t : Nat) (loop : Nat) (x : LoopState) (u : State) (s v : State), v = s.clock t →
    loop ≤ 1 →
    (v.loop loop).updAt + 1000000 ≤ v.now →
    x = { v.loop loop with updAt := v.now, hist := ((v.loop loop).steer :: (v.loop loop).hist).take 1000 } →
    u = v.setLoop loop x →
    (v.loop loop).leaving = false →
    (v.loop loop).st = 0 ∨ (v.loop loop).st = 1 →
    exec (.loopUpdate t loop) s =
      .next (u)) ∧
  (∀ (t : Nat) (loop : Nat) (s v : State), v = s.clock t →
    loop ≤ 1 →
    (v.loop loop).st = 1 →
    (v.loop loop).leaving = false →
    (v.loop loop).since + 100000000 ≤ v.now →
    exec (.loopAcquireEnd t loop) s =
      .next ((let base := (v.loop loop).steer + roundRat ((((v.loop loop).fill - (v.loop loop).slopeFill : Int) : Rat) * 1000000000 * 1000000000 /
          (256 * (v.now - (v.loop loop).since : Nat) * v.rate (v.srcDom (v.leader loop))))
        v.limitLoop loop { v.loop loop with mean := base, goodSince := 0 } base 2))) ∧
  (∀ (t : Nat) (loop : Nat) (s v : State), v = s.clock t →
    loop ≤ 1 →
    v.delivers (v.leader loop) = false →
    exec (.loopHoldover t loop) s =
      .next (if (v.loop loop).st = 0 ∨ (v.loop loop).st = 4 ∨ (v.loop loop).leaving = true then v
        else ((v.setLoop loop { v.loop loop with
            st := 4, mean := if (v.loop loop).hist.isEmpty then (v.loop loop).steer else meanOf (v.loop loop).hist }).bump
          (0x2108 + loop) 8).event 0x28 (0x2108 + loop)))

/-- An ARB_BEAT of the member's pair with its epoch is heard, one with a newer epoch stores it; one that names the member grants
it, one that names the other releases a driving member at once and makes any other standby. REVOKE that names the member
begins its ordered release if it drives, and is answered with RELEASED if it does not. PEER_ACT_IN of a falling line notes the
time it fell, and of a rising one clears the conflict and lets a granted member take over. INTERLOCK_WAIT_END, 1 ms into a
wait with the peer still low, blocks the takeover: role 3, and INTERLOCK_BLOCKED (80h) is counted. (13_pairs.md) -/
def Obligations.PairMemberGrants : Prop :=
  (∀ (t : Nat) (m : PairMsg) (s v : State), v = s.clock t →
    v.forMember m = true →
    newerEpoch m.epoch v.pair.epoch = true →
    m.member = uid →
    exec (.arbBeat t m) s =
      .next (((((v.mapPair fun p => { p with arbAt := v.now, arbLost := false, selfReleased := false }).takeEpoch m.epoch).mapPair fun p =>
        { p with granted := true }).takeGrant))) ∧
  (∀ (t : Nat) (m : PairMsg) (s v : State), v = s.clock t →
    v.forMember m = true →
    newerEpoch m.epoch v.pair.epoch = true →
    m.member ≠ uid →
    v.pair.driving = true →
    exec (.arbBeat t m) s =
      .next ((((v.mapPair fun p => { p with arbAt := v.now, arbLost := false, selfReleased := false }).takeEpoch m.epoch).releaseNow 0))) ∧
  (∀ (t : Nat) (m : PairMsg) (s v : State), v = s.clock t →
    v.forMember m = true →
    newerEpoch m.epoch v.pair.epoch = true →
    m.member ≠ uid →
    v.pair.driving = false →
    exec (.arbBeat t m) s =
      .next (((((v.mapPair fun p => { p with arbAt := v.now, arbLost := false, selfReleased := false }).takeEpoch m.epoch).mapPair fun p =>
        { p with granted := false, blocked := false, waitAt := none }).setRole 1 0))) ∧
  (∀ (t : Nat) (m : PairMsg) (s v : State), v = s.clock t →
    v.forMember m = true →
    newerEpoch m.epoch v.pair.epoch = false →
    m.epoch = v.pair.epoch →
    exec (.arbBeat t m) s =
      .next (v.mapPair fun p => { p with arbAt := v.now, arbLost := false, selfReleased := false })) ∧
  (∀ (t : Nat) (m : PairMsg) (u : State) (s v : State), v = s.clock t →
    v.forMember m = true →
    m.member = uid →
    newerEpoch m.epoch v.pair.epoch = true ∨ m.epoch = v.pair.epoch →
    (u = if newerEpoch m.epoch v.pair.epoch = true then v.takeEpoch m.epoch else v) →
    exec (.revoke t m) s =
      .next (if v.pair.driving = true then u.beginRelease 2
        else ((u.mapPair fun p => { p with granted := false, blocked := false, waitAt := none }).setRole 1 2).tellArbiter 4)) ∧
  (∀ (t : Nat) (s v : State), v = s.clock t →
    v.pair.driving = false →
    v.pair.peerHigh = true →
    exec (.peerActIn t false) s =
      .next (v.mapPair fun p => { p with peerHigh := false, peerLowAt := v.now, conflict := p.conflict })) ∧
  (∀ (t : Nat) (u : State) (s v : State), v = s.clock t →
    v.pair.driving = false →
    (u = v.mapPair fun p => { p with peerHigh := true, conflict := false }) →
    exec (.peerActIn t true) s =
      .next (if v.paired = true ∧ v.pair.granted = true then u.takeGrant else u)) ∧
  (∀ (t : Nat) (a : Nat) (s v : State), v = s.clock t →
    v.pair.waitAt = some a →
    a + 1000000 ≤ v.now →
    v.pair.peerHigh = false →
    exec (.interlockWaitEnd t) s =
      .next (((v.mapPair fun p => { p with waitAt := none, blocked := true }).setRole 3 0).event 0x80 0x4100))

/-- TAKEOVER_RAMP_START, at a tick 1 ms or more after the drivers came on, begins the ramp to 0 dB. SELF_RELEASE of a driving
member that has heard no arbiter for its time begins an ordered release with cause 4. ARBITER_LOST 3 ms after the last beat
sets the flag and counts it (84h). SELF_CHECK_PASS, 1 s of passing checks, makes the self-check pass; REVERT_HOLDOFF_END asks
for the revert. HEARTBEAT_SEND, once in every eighth cycle, sends the HEARTBEAT of a paired member in a chain to its arbiter,
and the ARB_BEATs of the pairs that an arbiter has started. (13_pairs.md) -/
def Obligations.PairMemberRuns : Prop :=
  (∀ (t : Nat) (s v : State), v = s.clock t →
    v.pair.step = 2 →
    v.pair.driving = true →
    v.pair.leaving = false →
    v.pair.stepAt + 1000000 ≤ v.now →
    v.atTick (v.outDom 1) = true →
    exec (.takeoverRampStart t) s =
      .next (v.mapPair fun p => { p with step := 3, ramp := p.ramp.to (some 0) v.takeoverLen })) ∧
  (∀ (t : Nat) (s v : State), v = s.clock t →
    v.paired = true →
    v.pair.driving = true →
    v.pair.leaving = false →
    v.rd 0x4100 0x0A ≠ 0 →
    v.pair.arbAt + v.rd 0x4100 0x0A * 1000000 ≤ v.now →
    exec (.selfRelease t) s =
      .next ((v.mapPair fun p => { p with selfReleased := true }).beginRelease 4)) ∧
  (∀ (t : Nat) (s v : State), v = s.clock t →
    v.paired = true →
    v.pair.arbLost = false →
    v.pair.arbAt + 3000000 ≤ v.now →
    exec (.arbiterLost t) s =
      .next ((v.mapPair fun p => { p with arbLost := true }).event 0x84 0x4100)) ∧
  (∀ (t : Nat) (a : Nat) (s v : State), v = s.clock t →
    v.noteCheck.pair.checkAt = some a →
    a + 1000000000 ≤ v.noteCheck.now →
    exec (.selfCheckPass t) s =
      .next ((v.noteCheck.mapPair fun p => { p with checkOk := true }).noteCheck)) ∧
  (∀ (t : Nat) (a : Nat) (s v : State), v = s.clock t →
    v.noteCheck.pair.holdoffAt = some a →
    a + v.noteCheck.rd 0x4100 8 * 1000000000 ≤ v.noteCheck.now →
    exec (.revertHoldoffEnd t) s =
      .next (v.noteCheck.mapPair fun p => { p with holdoffAt := none, revertReq := true })) ∧
  (∀ (t : Nat) (u w : State) (s v : State), v = s.clock t →
    v.ptp / 125000 % 8 = 0 →
    v.net.beatCycle ≠ some (v.ptp / 125000) →
    (u = v.mapNet fun x => { x with beatCycle := some (v.ptp / 125000) }) →
    (w = if v.paired = true ∧ v.inChain = true ∧ v.rd 0x4100 6 ≠ 0 then u.checkConflict.noteCheck.tellArbiter 1 else u) →
    exec (.heartbeatSend t  ) s =
      .next (if w.arbRuns = true then ((List.range 16).filter fun i => w.arbUsed i && (w.arbPair i).on).foldl State.sendArbBeat w else w))

/-- ARBITER_START, once both members have been heard or 10 ms after the pair was configured, starts it and grants its first
holder, finds no candidate, or leaves it to the host. HEARTBEAT of a member of a pair is stored, and acted on where the pair
has started; two members that are both primary count PAIR_PREFERENCE (89h) once. HEARTBEAT_WINDOW, once in each millisecond,
without a heartbeat counts one more missed window, and the third of the holder is its failure; one with a heartbeat clears the
count. RELEASED of the holder completes the change that waits for it, or grants the other member. REVOKE_TIMEOUT 15 ms after
the REVOKE of a failover completes it. (13_pairs.md) -/
def Obligations.PairArbiter : Prop :=
  (∀ (t : Nat) (pair : Nat) (s v : State), v = s.clock t →
    pair < 16 →
    v.arbRuns = true →
    v.arbUsed pair = true →
    (v.arbPair pair).on = false →
    ((v.arbPair pair).m0.beatAt.isSome = true ∧ (v.arbPair pair).m1.beatAt.isSome = true) ∨ (v.arbPair pair).startAt + 10000000 ≤ v.now →
    v.rd 0x4101 2 = 1 →
    exec (.arbiterStart t pair) s =
      .next ((v.setArb pair { v.arbPair pair with on := true }).setArb pair { (v.setArb pair { v.arbPair pair with on := true }).arbPair pair with st := 3 })) ∧
  (∀ (t : Nat) (pair : Nat) (s v : State), v = s.clock t →
    pair < 16 →
    v.arbRuns = true →
    v.arbUsed pair = true →
    (v.arbPair pair).on = false →
    ((v.arbPair pair).m0.beatAt.isSome = true ∧ (v.arbPair pair).m1.beatAt.isSome = true) ∨ (v.arbPair pair).startAt + 10000000 ≤ v.now →
    v.rd 0x4101 2 = 0 →
    (v.setArb pair { v.arbPair pair with on := true }).firstHolder pair ≠ 0 →
    exec (.arbiterStart t pair) s =
      .next ((v.setArb pair { v.arbPair pair with on := true }).grantTo pair ((v.setArb pair { v.arbPair pair with on := true }).firstHolder pair))) ∧
  (∀ (t : Nat) (pair : Nat) (s v : State), v = s.clock t →
    pair < 16 →
    v.arbRuns = true →
    v.arbUsed pair = true →
    (v.arbPair pair).on = false →
    ((v.arbPair pair).m0.beatAt.isSome = true ∧ (v.arbPair pair).m1.beatAt.isSome = true) ∨ (v.arbPair pair).startAt + 10000000 ≤ v.now →
    v.rd 0x4101 2 = 0 →
    (v.setArb pair { v.arbPair pair with on := true }).firstHolder pair = 0 →
    exec (.arbiterStart t pair) s =
      .next ((v.setArb pair { v.arbPair pair with on := true }).noCandidate pair)) ∧
  (∀ (t : Nat) (m : PairMsg) (i k : Nat) (x : ArbPair) (u : State) (s v : State), v = s.clock t →
    v.arbFind m = some (i, k) →
    v.arbRuns = true →
    (x = ({ v.arbPair i with
          epoch := if (v.arbPair i).on = true then (v.arbPair i).epoch
            else if ((v.arbPair i).m0.beatAt.isNone && (v.arbPair i).m1.beatAt.isNone || newerEpoch m.epoch (v.arbPair i).epoch) = true then m.epoch
            else (v.arbPair i).epoch } : ArbPair).setMember k
          { (v.arbPair i).member k with
            beatAt := some v.now, health := m.health, role := m.role, got := true, missed := 0,
            failed := ((v.arbPair i).member k).failed && m.health.testBit 1,
            primary := ((v.arbPair i).member k).primary || m.health.testBit 2 }) →
    (u = if (x.m0.primary && x.m1.primary && !x.prefSeen) = true then
          ((v.setArb i x).setArb i { x with prefSeen := true }).event 0x89 (0x4110 + i) else v.setArb i x) →
    exec (.heartbeat t m) s =
      .next (if (v.arbPair i).on = true then u.actOnBeat i k ((v.arbPair i).member k).health m else u)) ∧
  (∀ (t : Nat) (pair member : Nat) (a : ArbMember) (s v : State), v = s.clock t →
    pair < 16 →
    member < 2 →
    v.arbRuns = true →
    v.arbUsed pair = true →
    (v.arbPair pair).on = true →
    a = (v.arbPair pair).member (member + 1) →
    a.win ≠ v.ptp / 1000000 →
    a.got = false →
    ¬(a.missed + 1 = 3 ∧ (v.arbPair pair).holder = member + 1) →
    exec (.heartbeatWindow t pair member) s =
      .next (v.setArb pair ((v.arbPair pair).setMember (member + 1)
          { a with win := v.ptp / 1000000, missed := a.missed + 1, failed := a.failed || decide (3 ≤ a.missed + 1) }))) ∧
  (∀ (t : Nat) (pair member : Nat) (a : ArbMember) (s v : State), v = s.clock t →
    pair < 16 →
    member < 2 →
    v.arbRuns = true →
    v.arbUsed pair = true →
    (v.arbPair pair).on = true →
    a = (v.arbPair pair).member (member + 1) →
    a.win ≠ v.ptp / 1000000 →
    a.got = false →
    a.missed = 2 →
    (v.arbPair pair).holder = member + 1 →
    exec (.heartbeatWindow t pair member) s =
      .next ((v.setArb pair ((v.arbPair pair).setMember (member + 1)
          { a with win := v.ptp / 1000000, missed := 3, failed := true })).holderFailed pair false)) ∧
  (∀ (t : Nat) (pair member : Nat) (a : ArbMember) (s v : State), v = s.clock t →
    pair < 16 →
    member < 2 →
    v.arbRuns = true →
    v.arbUsed pair = true →
    (v.arbPair pair).on = true →
    a = (v.arbPair pair).member (member + 1) →
    a.win ≠ v.ptp / 1000000 →
    a.got = true →
    exec (.heartbeatWindow t pair member) s =
      .next (v.setArb pair ((v.arbPair pair).setMember (member + 1) { a with win := v.ptp / 1000000, got := false, missed := 0 }))) ∧
  (∀ (t : Nat) (m : PairMsg) (i k : Nat) (s v : State), v = s.clock t →
    v.arbFind m = some (i, k) →
    v.arbRuns = true →
    (v.arbPair i).on = true →
    (v.arbPair i).holder = k →
    (v.arbPair i).st = 2 →
    exec (.released t m) s =
      .next (v.finishChange i (v.arbPair i).next (v.arbPair i).failover (v.arbPair i).revert)) ∧
  (∀ (t : Nat) (m : PairMsg) (i k : Nat) (s v : State), v = s.clock t →
    v.arbFind m = some (i, k) →
    v.arbRuns = true →
    (v.arbPair i).on = true →
    (v.arbPair i).holder = k →
    (v.arbPair i).st = 1 →
    v.rd 0x4101 2 = 0 →
    exec (.released t m) s =
      .next (v.finishChange i (3 - k) false false)) ∧
  (∀ (t : Nat) (pair a : Nat) (s v : State), v = s.clock t →
    (v.arbPair pair).revokeAt = some a →
    v.arbRuns = true →
    (v.arbPair pair).st = 2 →
    (v.arbPair pair).failover = true →
    a + 15000000 ≤ v.now →
    exec (.revokeTimeout t pair) s =
      .next (v.finishChange pair (v.arbPair pair).next true false))

/-- LISTEN_FRAME of an active path takes a frame when one is due; in INDIGO a detection wakes the device. MATCHER_FRAME after ten
frames takes the energies, and in an open window the scores, which end in a decision when the energy has stayed 10 dB low for
100 ms or 2.5 s have passed; a match that wakes does so. HANG_END closes the gate after HANG without voice or pilot.
FRONT_END_SETTLED makes the front end ready. FEED_SWITCH turns the feed to the awake input. RING_OVERLAP_END ends the overlap
of a splice, READER_AT_END stops a reader that has run out. (14_listen_wake.md) -/
def Obligations.ListeningPath : Prop :=
  (∀ (t : Nat) (env : ListenEnv) (u : State) (d : Bool) (s v : State), v = s.clock t →
    v.frameDue = true →
    (v.fn .listen).active = true →
    (u, d) = v.listenFrame env →
    exec (.listenFrame t env) s =
      .next (if d = true ∧ u.settlePrearm.ms.mode = .indigo then u.settlePrearm.wake .acoustic else u.settlePrearm)) ∧
  (∀ (t : Nat) (energies scores : List Nat) (energy : Nat) (s v : State), v = s.clock t →
    (v.fn .listen).active = true →
    v.listen.stage2 = true →
    10 ≤ v.listen.tenth →
    v.listen.win = none →
    exec (.matcherFrame t energies scores energy) s =
      .next (v.mapListen fun l => { l with hist := ((energy, energies) :: l.hist).take 200, since := l.since + 1, tenth := l.tenth - 10 })) ∧
  (∀ (t : Nat) (energies scores : List Nat) (energy : Nat) (w x : MatchWin) (u r : State) (d : Bool) (s v : State), v = s.clock t →
    (v.fn .listen).active = true →
    10 ≤ v.listen.tenth →
    v.listen.win = some w →
    (x = { w with
          level := if w.level = 0 then energy else w.level
          low := if 10 * energy ≤ (if w.level = 0 then energy else w.level) then w.low + 1 else 0
          temps := w.temps.map fun x => (x.1, x.2.1, max x.2.2.1 (scores.getD x.1 0), scores.getD x.1 0) }) →
    (u = (v.mapListen fun l => { l with hist := ((energy, energies) :: l.hist).take 200, since := l.since + 1, tenth := l.tenth - 10 }).mapListen fun l => { l with win := some x }) →
    ((r, d) = if 10 ≤ x.low then
          ((u.decideWindow x (·.2.1)).1.mapListen fun l => { l with voice := false, pauseRun := 0, voiceRun := 0 }, (u.decideWindow x (·.2.1)).2)
        else if x.openedAt + 2500000000 ≤ v.now then u.decideWindow x (·.2.2) else (u, false)) →
    exec (.matcherFrame t energies scores energy) s =
      .next (if d = true ∧ r.matchWakes = true then r.wake .acoustic else r)) ∧
  (∀ (t : Nat) (s v : State), v = s.clock t →
    v.listen.gate = true →
    v.listen.voice = false →
    v.listen.pilot = false →
    v.listen.heardAt + v.rd 0x3A00 0x0E * 1000000 ≤ v.now →
    exec (.hangEnd t) s =
      .next (v.mapListen fun l => { l with gate := false, stage2 := false, voiceRun := min 64 l.voiceRun, pauseRun := 0 })) ∧
  (∀ (t : Nat) (s v : State), v = s.clock t →
    v.listen.front = true →
    v.listen.frontOk = false →
    exec (.frontEndSettled t) s =
      .next (v.mapListen fun l =>
        { l with
          frontOk := true, returnDue := l.returnDue || (l.prearm == 1 && l.feed),
          prearm := if l.prearm = 1 ∧ !l.feed then 2 else l.prearm })) ∧
  (∀ (t : Nat) (s v : State), v = s.clock t →
    (v.fn .listen).active = true →
    v.listen.feed = false →
    v.awakeFeed = true →
    v.ms.mode ≠ .indigo →
    v.listen.prearm = 0 →
    v.ring.spliceDue = false →
    (∀ w, v.listen.win = some w → w.acrossWake = false) →
    exec (.feedSwitch t) s =
      .next (v.mapListen fun l => { l with feed := true, feedXf := 0, feedDue := false })) ∧
  (∀ (t : Nat) (s v : State), v = s.clock t →
    v.ring.st = 2 →
    v.ring.left = 0 →
    exec (.ringOverlapEnd t) s =
      .next (v.mapRing fun r => { r with st := 3 })) ∧
  (∀ (t : Nat) (r : Nat) (s v : State), v = s.clock t →
    r < 8 →
    (v.fn (.reader r)).active = true →
    v.readerDone r = true →
    exec (.readerAtEnd t r) s =
      .next ((v.setReader r { v.reader r with atEnd := true }).setFn (.reader r) ((v.fn (.reader r)).quiesce 0)))

/-- HK_CONVERSION_COMPLETE of a slice whose time has run ends its conversion with the code, and the supervision acts on a valid
one; what that gates aborts the transaction under way on it. CALIBRATION_COMPLETE ends the calibration and rotates the spare
slice. SCAN_CONVERSION_DUE, HK_TIMER and SUPERVISION_SCAN queue their conversions. PWM_DELAY_END acts as PWM_ACTION selects.
REF_SETTLED ends the settling of the reference. MAINS_EDGE and MAINS_LOSS drive the mains lock. (15_housekeeping.md) -/
def Obligations.HousekeepingConverter : Prop :=
  (∀ (t : Nat) (slice : Nat) (code : Int) (c : HkConv) (s v : State), v = s.clock t →
    v.slice slice = some c →
    c.at_ + c.len ≤ v.now →
    c.invalid = false →
    exec (.hkConversionComplete t slice code) s =
      .next (v.abortFrom ((v.finishConv slice c code).supervise c.ch c.at_))) ∧
  (∀ (t : Nat) (slice : Nat) (code : Int) (c : HkConv) (s v : State), v = s.clock t →
    v.slice slice = some c →
    c.at_ + c.len ≤ v.now →
    c.invalid = true →
    exec (.hkConversionComplete t slice code) s =
      .next (v.abortFrom (v.finishConv slice c code))) ∧
  (∀ (t : Nat) (a : Nat) (s v : State), v = s.clock t →
    v.hk.calAt = some a →
    a ≤ v.now →
    exec (.calibrationComplete t) s =
      .next (((v.mapHk fun h => { h with calAt := none, calOk := true }).rotate).hkDispatch)) ∧
  (∀ (t : Nat) (s v : State), v = s.clock t →
    v.hk.on = true →
    v.hk.user ≠ [] →
    v.hk.queued = false →
    v.hk.due ≤ v.now →
    exec (.scanConversionDue t) s =
      .next ((v.mapHk fun h => { h with queued := true }).hkDispatch)) ∧
  (∀ (t : Nat) (s v : State), v = s.clock t →
    v.hk.on = true →
    v.phase .scan = .running →
    v.hk.trigger = 1 →
    v.hk.timerAt ≤ v.now →
    exec (.hkTimer t) s =
      .next (((v.mapHk fun h => { h with timerAt := v.hk.timerAt + v.rd 0x2200 5 * 1000000 }).hkTrigger 1).hkDispatch)) ∧
  (∀ (t : Nat) (p : Nat) (s v : State), v = s.clock t →
    v.hk.on = true →
    (p = if v.rcoRuns = true then 10000000 else 1000000000) →
    (v.hk.supAt = none ∨ (∃ a, v.hk.supAt = some a ∧ a + p ≤ v.now)) →
    exec (.supervisionScan t  ) s =
      .next ((v.mapHk fun h => { h with supAt := some v.now, sup := if h.sup.isEmpty then supChannels (!v.rcoRuns) else h.sup }).hkDispatch)) ∧
  (∀ (t : Nat) (a : Nat) (s v : State), v = s.clock t →
    v.hk.delayAt = some a →
    a ≤ v.now →
    v.rd 0x2200 8 = 0 →
    exec (.pwmDelayEnd t) s =
      .next (if v.hk.trigger = 2 then ((v.mapHk fun h => { h with delayAt := none }).hkTrigger 2).hkDispatch else v.mapHk fun h => { h with delayAt := none })) ∧
  (∀ (t : Nat) (a : Nat) (s v : State), v = s.clock t →
    v.hk.delayAt = some a →
    a ≤ v.now →
    v.rd 0x2200 8 = 1 →
    exec (.pwmDelayEnd t) s =
      .next ((v.mapHk fun h => { h with delayAt := none }).urgentReq (0xE000 + v.rd 0x2200 0x15 % 0x2000) 4)) ∧
  (∀ (t : Nat) (a : Nat) (s v : State), v = s.clock t →
    v.hk.delayAt = some a →
    a ≤ v.now →
    v.rd 0x2200 8 = 2 →
    v.rd 0x2200 0x15 / 0x2000 ≠ 7 →
    exec (.pwmDelayEnd t) s =
      .next ((v.mapHk fun h => { h with delayAt := none }).urgentReq (v.rd 0x2200 0x15) 4)) ∧
  (∀ (t : Nat) (a : Nat) (s v : State), v = s.clock t →
    v.hk.delayAt = some a →
    a ≤ v.now →
    v.rd 0x2200 8 = 2 →
    v.rd 0x2200 0x15 / 0x2000 = 7 →
    exec (.pwmDelayEnd t) s =
      .next ((v.mapHk fun h => { h with delayAt := none }).dropUrgent)) ∧
  (∀ (t : Nat) (s v : State), v = s.clock t →
    v.hk.refSettled = false →
    v.hk.refAt + 5000000 ≤ v.now →
    exec (.refSettled t) s =
      .next (v.mapHk fun h => { h with refSettled := true })) ∧
  (∀ (t : Nat) (s v : State), v = s.clock t →
    v.windowMode = 0 ∨ v.hk.on = false ∨ v.hk.edgeAt = none →
    exec (.mainsEdge t) s =
      .next (v.mapHk fun h => { h with edgeAt := if v.hk.on = true then some v.now else none })) ∧
  (∀ (t : Nat) (a p : Nat) (l : List Nat) (u : State) (s v : State), v = s.clock t →
    v.hk.on = true →
    v.windowMode ≠ 0 →
    v.hk.edgeAt = some a →
    p = v.now - a →
    19 * 1000000000 ≤ 20 * mainsHz v.windowMode * p →
    20 * mainsHz v.windowMode * p ≤ 21 * 1000000000 →
    l = (p :: v.hk.periods).take 8 →
    (u = v.mapHk fun h => { h with edgeAt := some v.now, periods := l }) →
    exec (.mainsEdge t  ) s =
      .next (if l.length < 8 then u
        else if v.hk.locked = true then u.mapHk fun h => { h with locked := true, window := l.sum / 8 }
        else (u.mapHk fun h => { h with locked := true, window := l.sum / 8 }).hkInvalidate)) ∧
  (∀ (t : Nat) (a : Nat) (u : State) (s v : State), v = s.clock t →
    v.hk.on = true →
    v.windowMode ≠ 0 →
    v.hk.edgeAt = some a →
    20 * mainsHz v.windowMode * (v.now - a) < 19 * 1000000000 ∨ 21 * 1000000000 < 20 * mainsHz v.windowMode * (v.now - a) →
    (u = v.mapHk fun h => { h with edgeAt := some v.now }) →
    exec (.mainsEdge t  ) s =
      .next (u.loseMains.mapHk fun h => { h with periods := [] })) ∧
  (∀ (t : Nat) (a : Nat) (s v : State), v = s.clock t →
    v.hk.edgeAt = some a →
    v.windowMode ≠ 0 →
    2 * 1000000000 ≤ (v.now - a) * mainsHz v.windowMode →
    exec (.mainsLoss t) s =
      .next (v.loseMains.mapHk fun h => { h with periods := [], edgeAt := none }))

/-- With PD_MEM on and SYN_S running, MEM_TRAINING_START trains an idle interface; MEM_READY with a listed size and rank count, 11
ms and 0.7 ms for each GB into the attempt, makes it ready and starts what waited. A first or second MEM_TRAIN_FAIL tries
again from step 2, the third counts MEM_TRAIN_FAIL (C0h) and is a fault. ZQ_CALIBRATION every 256 ms and DQS_CHECK every 100
ms note their time. MR4_POLL every 16 ms shows the code and raises or clears the thermal cause. MEM_FAULT with its cause
present is a fault. AUTO_RETRAIN, 100 ms after the causes have cleared and 10 s after the last, trains again. TRANSPORT_START
starts a due transport at the tick that is due. (17_memory_capture.md) -/
def Obligations.MemoryInterface : Prop :=
  (∀ (t : Nat) (s v : State), v = s.clock t →
    v.memPowered = true →
    v.phase .mem = .off →
    v.mem.training = false →
    exec (.memTrainingStart t) s =
      .next (v.beginTraining)) ∧
  (∀ (t : Nat) (sizeMiB ranks : Nat) (s v : State), v = s.clock t →
    v.mem.training = true →
    memSizes.contains sizeMiB = true →
    ranks = 1 ∨ ranks = 2 →
    v.memPowered = true →
    v.mem.attemptAt + (11000000 + 700000 * (sizeMiB / 1024)) ≤ v.now →
    exec (.memReady t sizeMiB ranks) s =
      .next ((v.memUp sizeMiB ranks).startAll)) ∧
  (∀ (t : Nat) (s v : State), v = s.clock t →
    v.mem.training = true →
    v.mem.tries < 2 →
    exec (.memTrainFail t) s =
      .next (v.mapMem fun m => { m with tries := m.tries + 1, attemptAt := v.now - 50000 })) ∧
  (∀ (t : Nat) (s v : State), v = s.clock t →
    v.mem.training = true →
    2 ≤ v.mem.tries →
    exec (.memTrainFail t) s =
      .next ((v.event 0xC0 0x3B00).memFault .train)) ∧
  (∀ (t : Nat) (s v : State), v = s.clock t →
    v.mem.ready = true →
    v.mem.zqAt + 256000000 ≤ v.now →
    exec (.zqCalibration t) s =
      .next (v.mapMem fun m => { m with zqAt := v.now })) ∧
  (∀ (t : Nat) (drift : Bool) (s v : State), v = s.clock t →
    v.mem.ready = true →
    v.mem.dqsAt + 100000000 ≤ v.now →
    exec (.dqsCheck t drift) s =
      .next (v.mapMem fun m => { m with dqsAt := v.now })) ∧
  (∀ (t : Nat) (code : Nat) (s v : State), v = s.clock t →
    v.mem.ready = true ∨ v.mem.held.contains .thermal = true →
    v.mem.mr4At + 16000000 ≤ v.now →
    exec (.mr4Poll t code true) s =
      .next (((v.mapMem fun m => { m with mr4At := v.now }).wr 0x3B00 0x0B (code % 256)).memFault .thermal)) ∧
  (∀ (t : Nat) (code : Nat) (s v : State), v = s.clock t →
    v.mem.ready = true ∨ v.mem.held.contains .thermal = true →
    v.mem.mr4At + 16000000 ≤ v.now →
    exec (.mr4Poll t code false) s =
      .next (((v.mapMem fun m => { m with mr4At := v.now }).wr 0x3B00 0x0B (code % 256)).memEase .thermal)) ∧
  (∀ (t : Nat) (s v : State), v = s.clock t →
    v.ms.low.contains .vdd2 = true →
    exec (.memFault t .supply) s =
      .next (v.memFault .supply)) ∧
  (∀ (t : Nat) (s v : State), v = s.clock t →
    v.synRuns .s = false →
    exec (.memFault t .clock) s =
      .next (v.memFault .clock)) ∧
  (∀ (t : Nat) (s v : State), v = s.clock t →
    v.pdOn 10 = false →
    exec (.memFault t .power) s =
      .next (v.memFault .power)) ∧
  (∀ (t : Nat) (s v : State), v = s.clock t →
    exec (.memFault t .thermal) s =
      .next (v.memFault .thermal)) ∧
  (∀ (t : Nat) (s v : State), v = s.clock t →
    v.rd 0x3B00 0x0C = 1 →
    v.phase .mem = .fault →
    v.memClear = true →
    v.memPowered = true →
    v.mem.since + 100000000 ≤ v.now →
    (v.mem.trainAt = none ∨ (∃ a, v.mem.trainAt = some a ∧ a + 10000000000 ≤ v.now)) →
    exec (.autoRetrain t) s =
      .next ((v.mapMem fun m => { m with trainAt := some v.now }).beginTraining)) ∧
  (∀ (t : Nat) (tr : Nat) (s v : State), v = s.clock t →
    tr < 8 →
    v.transDue tr = true →
    (v.dom (v.transDom tr)).running = true →
    (v.dom (v.transDom tr)).fresh = true ∨ (v.dom (v.transDom tr)).tickAt < v.now →
    exec (.transportStart t tr) s =
      .next (v.startTransport tr ((v.dom (v.transDom tr)).tick v.now).frame))

/-- DRAIN_COMPLETE of a draining function whose drain has nothing left to wait for goes on to its ramp. FUNCTION_RAMP_END of a
ramping function whose ramp is over brings it to rest. QUIESCE_FORCED, at the bound of a function that is still draining or
ramping, forces it to rest and counts QUIESCE_FORCED (03h). START_PENDING_START of a function that has stopped and whose start
is pending tries the start. (01_architecture.md) -/
def Obligations.FunctionLifecycle : Prop :=
  (∀ (t : Nat) (f : Func) (s v : State), v = s.clock t →
    (v.fn f).phase = .draining →
    (v.fn f).wait = 0 →
    f ≠ .scan →
    exec (.drainComplete t f) s =
      .next (v.drainFn f)) ∧
  (∀ (t : Nat) (f : Func) (s v : State), v = s.clock t →
    (v.fn f).phase = .ramping →
    v.rampOver f = true →
    exec (.functionRampEnd t f) s =
      .next (v.endRamp f)) ∧
  (∀ (t : Nat) (f : Func) (s v : State), v = s.clock t →
    (v.fn f).phase = .draining ∨ (v.fn f).phase = .ramping →
    (v.fn f).bound ≤ v.now →
    exec (.quiesceForced t f) s =
      .next (((v.setFn f ((v.fn f).force (v.fframe f))).stoppedFn f).event 0x03 f.index)) ∧
  (∀ (t : Nat) (f : Func) (s v : State), v = s.clock t →
    v.waitsToStart f = true →
    exec (.startPendingStart t f) s =
      .next ((v.tryStart f).grantAll))

/-- PMBUS_ACK in the middle of a transfer: an acknowledged VOUT_MODE sets the format, an acknowledged request is carried out, both
clear the LOST flag; a transfer that is not acknowledged counts in 2301h.07 and is a failed attempt. PMBUS_RETRY after 1 ms
and AVS_LOST_RETRY after 1 s try the transfer again. AVS_HOLD_END, 1 s into IVORY, begins the evaluation, which AVS_EVALUATE
makes every 1 ms. (03_modes_power.md, 16_control_bus_host.md) -/
def Obligations.AdaptiveVoltage : Prop :=
  (∀ (t : Nat) (op : PmbusOp) (s v : State), v = s.clock t →
    v.avs.op = some op →
    v.avs.waiting = false →
    exec (.pmbusAck t .nack) s =
      .next ((v.bump 0x2301 7).avsFail)) ∧
  (∀ (t : Nat) (data : Nat) (s v : State), v = s.clock t →
    v.avs.op = some .voutMode →
    v.avs.waiting = false →
    exec (.pmbusAck t (.ack data)) s =
      .next (((v.avsFlag 1 false).mapAvs fun a => { a with lost := false }).avsFormat data)) ∧
  (∀ (t : Nat) (data mV word : Nat) (up : Bool) (s v : State), v = s.clock t →
    v.avs.op = some (.request mV word up) →
    v.avs.waiting = false →
    exec (.pmbusAck t (.ack data)) s =
      .next (((v.avsFlag 1 false).mapAvs fun a => { a with lost := false }).avsAcked mV)) ∧
  (∀ (t : Nat) (op : PmbusOp) (s v : State), v = s.clock t →
    v.avs.op = some op →
    v.avs.waiting = true →
    v.avs.lost = false →
    v.avs.triedAt + 1000000 ≤ v.now →
    exec (.pmbusRetry t  ) s =
      .next (v.mapAvs fun a => { a with waiting := false })) ∧
  (∀ (t : Nat) (op : PmbusOp) (s v : State), v = s.clock t →
    v.avs.op = some op →
    v.avs.waiting = true →
    v.avs.lost = true →
    v.avs.triedAt + 1000000000 ≤ v.now →
    exec (.avsLostRetry t  ) s =
      .next (v.mapAvs fun a => { a with waiting := false })) ∧
  (∀ (t : Nat) (s v : State), v = s.clock t →
    v.ms.mode = .ivory →
    v.ms.changedAt + 1000000000 ≤ v.now →
    v.avs.evaluating = false →
    v.avs.first = false →
    exec (.avsHoldEnd t) s =
      .next (v.mapAvs fun a => { a with evaluating := true, evalAt := v.now, highSince := none })) ∧
  (∀ (t : Nat) (s v : State), v = s.clock t →
    v.avs.evaluating = true →
    v.avsCan = true →
    v.avs.evalAt + 1000000 ≤ v.now →
    exec (.avsEvaluate t) s =
      .next (v.avsEval))

/-- DESCENT_BEGIN, 1 ms after the descent was asked for, begins it: a self-test is abandoned, the domains that go off start
draining, and the functions that must stop are disabled. DOMAIN_SWITCH_OFF of a begun descent ends it once everything has
stopped. MODE_ADVANCE enters the next mode when the condition of its step holds. WAKE_SOURCE_FIRE of a control, timer or pin
source wakes the device; a beacon does if it asks for AMBER or TEAL. STAGGER_END powers up at its time. (03_modes_power.md) -/
def Obligations.ModeSteps : Prop :=
  (∀ (t : Nat) (target : Mode) (a : Nat) (s v : State), v = s.clock t →
    v.ms.trans = .descent target a false →
    a + 1000000 ≤ v.now →
    target ≠ .indigo →
    exec (.descentBegin t  ) s =
      .next (let u := v.abortTest.mapMs fun m => { m with trans := .descent target a true }
        ((u.descentOrder target).foldl
          (fun s i => match s.phase (.pd i) with
            | .starting => s.switchOff i
            | .running => s.setPd i .draining
            | _ => s) u).stopForDescent target)) ∧
  (∀ (t : Nat) (target : Mode) (a : Nat) (s v : State), v = s.clock t →
    v.ms.trans = .descent target a true →
    v.descentQuiet target = true →
    exec (.domainSwitchOff t  ) s =
      .next (v.endDescent target)) ∧
  (∀ (t : Nat) (m : Mode) (s v : State), v = s.clock t →
    v.nextMode = some m →
    exec (.modeAdvance t  ) s =
      .next (((((v.mapMs fun x => { x with trans := .none }).enterMode m 0).applyTarget).settleCauses))) ∧
  (∀ (t : Nat) (src : WakeSource) (s v : State), v = s.clock t →
    src ≠ .acoustic →
    (∀ n g, src ≠ .beacon n g) →
    exec (.wakeSourceFire t src) s =
      .next (v.wake src)) ∧
  (∀ (t : Nat) (n target : Nat) (s v : State), v = s.clock t →
    target = 4 ∨ target = 5 →
    exec (.wakeSourceFire t (.beacon n target)) s =
      .next (v.wake (.beacon n target))) ∧
  (∀ (t : Nat) (u : Nat) (s v : State), v = s.clock t →
    v.ms.trans = .stagger u →
    u ≤ v.now →
    exec (.staggerEnd t  ) s =
      .next (v.powerUp))

/-- RESET_N_LOW in tolerance resets the rights, enters ASH, sets TARGET_MODE to TEAL (04h) in 2000h.02, and clamps.
RESET_CLAMP_END 12 ms later switches everything off, and starts the device if RESET_N is high. RESET_N_HIGH in ASH reads the
strap balls and, with AVDD33 there, starts the housekeeping converter and, unless the clamp still holds, the device.
AVDD33_LOW loses what AVDD33 supplies; AVDD33_RETENTION_LOSS loses PD_AO too: the state is that of reset, but for the flash,
the fused key hash and security version, the commands that wait and the time. POWER_ON in ASH ends the loss, takes an EPOCH
where none is held, and starts the device if RESET_N is high. (03_modes_power.md) -/
def Obligations.ResetAndPower : Prop :=
  (∀ (t : Nat) (s v : State), v = s.clock t →
    v.resetIgnored = false →
    v.ms.resetHigh = true →
    v.ms.low.contains .avdd33 = false →
    exec (.resetNLow t) s =
      .next (((({ (v.mapMs fun m => { m with resetHigh := false }) with
            rights := .default, boot := { v.boot with resetBoot := true } }).enterAsh 2).wr 0x2000 2 4).mapMs
        fun m => { m with resetAt := (({ (v.mapMs fun m => { m with resetHigh := false }) with
            rights := .default, boot := { v.boot with resetBoot := true } }).enterAsh 2).now, clamping := true })) ∧
  (∀ (t : Nat) (s v : State), v = s.clock t →
    v.ms.clamping = true →
    v.ms.resetAt + 12000000 ≤ v.now →
    exec (.resetClampEnd t) s =
      .next (let u := v.allOff.mapMs fun m => { m with clamping := false }
        if u.ms.resetHigh then u.startUp else u)) ∧
  (∀ (t : Nat) (banks addr : Nat) (u w : State) (s v : State), v = s.clock t →
    v.resetIgnored = false →
    v.ms.resetHigh = false →
    v.ms.mode = .ash →
    (u = (v.wr 0x2006 1 (banks % 16)).mapMs fun m => { m with resetHigh := true }) →
    w = { u with host := { u.host with addr := 0x48 + addr % 4 } } →
    exec (.resetNHigh t banks addr) s =
      .next (if v.ms.low.contains .avdd33 = true then w else if w.startHk.ms.clamping = true then w.startHk else w.startHk.startUp)) ∧
  (∀ (t : Nat) (s v : State), v = s.clock t →
    exec (.avdd33Low t) s =
      .next (v.loseAvdd33)) ∧
  (∀ (t : Nat) (s v : State), v = s.clock t →
    v.ms.low.contains .avdd33 = true →
    exec (.avdd33RetentionLoss t) s =
      .next (({ State.reset with
          now := v.now, freeCtr := v.freeCtr, pending := v.pending,
          boot := { Boot.reset with keyHash := v.boot.keyHash, flash := v.boot.flash },
          ms := { ModeState.reset with low := v.ms.low, changedAt := v.now, resetHigh := v.ms.resetHigh } } : State).wr 0x2303 5 (v.rd 0x2303 5))) ∧
  (∀ (t : Nat) (epoch : Nat) (u w : State) (s v : State), v = s.clock t →
    v.ms.mode = .ash →
    (u = v.mapMs fun m => { m with low := m.low.filter fun r => r != .avdd33 }) →
    (w = if v.journal.drawn = true then u else { u with journal := { u.journal with epoch := epoch % 2 ^ 32, drawn := true } }) →
    exec (.powerOn t epoch) s =
      .next (if v.ms.low.contains .avdd33 = true ∧ v.ms.resetHigh = true then w.startHk.startUp else w))

/-- GOVERNOR_WINDOW admits the starts that wait, in their order, as far as the balance of the windows allows. DOMAIN_POWER_GOOD of
a domain that was admitted makes it RUNNING; DOMAIN_FAULT 1 ms after it was admitted is its fault, with DOMAIN_FAULT (04h).
SUPPLY_TRIP and SUPPLY_CLEAR trip and untrip a rail; what a trip switches off aborts the transaction under way on it.
CRIMSON_RESUME, 10 ms after the last cause has gone, and with automatic resume or an acknowledgement, leaves CRIMSON.
(03_modes_power.md) -/
def Obligations.GovernorAndSupplies : Prop :=
  (∀ (t : Nat) (bal : Int) (r : List (Nat × Nat) × Int) (s v : State), v = s.clock t →
    v.gov.window + 100000 ≤ v.now →
    bal = v.balanceAt (max 1 ((v.now - v.gov.window) / 100000)) →
    (r = admitStarts (v.rd 0x2002 1) bal true (orderStarts (fun i => v.rd (0x2010 + i) 3) v.gov.queue)) →
    exec (.governorWindow t  ) s =
      .next (r.1.foldl (fun s x => s.startNext x.1 x.2) (v.mapGov fun g => { g with balance := r.2, window := max 1 v.now }))) ∧
  (∀ (t : Nat) (pd a : Nat) (s v : State), v = s.clock t →
    pd < 12 →
    [1, 3, 7, 8, 9, 10].contains pd = false →
    v.phase (.pd pd) = .starting →
    look 0 v.gov.admitted pd = a + 1 →
    exec (.domainPowerGood t pd) s =
      .next (((v.setPd pd .running).mapGov fun g => { g with admitted := put 0 g.admitted pd 0 }).refresh)) ∧
  (∀ (t : Nat) (a : Nat) (s v : State), v = s.clock t →
    v.phase (.pd 3) = .starting →
    look 0 v.gov.admitted 3 = a + 1 →
    exec (.domainPowerGood t 3) s =
      .next (((v.setPd 3 .running).mapGov fun g => { g with admitted := put 0 g.admitted 3 0 }).coreUp)) ∧
  (∀ (t : Nat) (pd a : Nat) (s v : State), v = s.clock t →
    v.phase (.pd pd) = .starting →
    look 0 v.gov.admitted pd = a + 1 →
    a + 1 + 1000000 ≤ v.now →
    exec (.domainFault t pd) s =
      .next ((((v.mapGov fun g => { g with admitted := put 0 g.admitted pd 0 }).faultFn (.pd pd)).event 0x04 (0x2010 + pd)))) ∧
  (∀ (t : Nat) (rail : Rail) (s v : State), v = s.clock t →
    rail ≠ .avdd33 →
    exec (.supplyTrip t rail) s =
      .next (v.abortFrom (v.trip rail))) ∧
  (∀ (t : Nat) (s v : State), v = s.clock t →
    exec (.supplyTrip t .avdd33) s =
      .next (v.abortFrom v.loseAvdd33)) ∧
  (∀ (t : Nat) (rail : Rail) (s v : State), v = s.clock t →
    exec (.supplyClear t rail) s =
      .next (v.untrip rail)) ∧
  (∀ (t : Nat) (s v : State), v = s.clock t →
    v.noteCauses.ms.mode = .crimson →
    v.noteCauses.causes = 0 →
    v.noteCauses.ms.clear = true →
    v.noteCauses.ms.clearAt + 10000000 ≤ v.noteCauses.now →
    v.noteCauses.rd 0x2000 5 = 1 ∨ v.noteCauses.ms.ack = true →
    v.noteCauses.ms.ctlHeld = false →
    exec (.crimsonResume t) s =
      .next (let s := v.noteCauses.mapMs fun m => { m with ack := false, trans := .none }
        let s := { s with outs := { s.outs with safe := false } }
        let s := s.enterMode (if s.tealReady then .teal else .amber) 0
        let s := (if v.noteCauses.ms.entered = .amber then s.wantedDomains else s.unkept).foldl
          State.requestDomain s
        s.applyTarget.settleCauses))

/-- SNAP_AT_REACHED takes the armed snapshot at its instant. TEST_ITEM_COMPLETE with a pass or a fail writes the result of the
item, a pass without a failing item, counts SELFTEST_FAIL (0Dh) on a fail, and goes on to the next item or ends the tests.
MIRROR_COPY waits for the memory and copies the next entry into the mirror ring; MIRROR_RESUME takes the mirror up again.
JOURNAL_PUSH sends up to 16 new entries, JOURNAL_PUSH_RESEND those without an acknowledgement for 10 ms, JOURNAL_ACK of
entries that were sent notes the acknowledgement. STAGE_TIMEOUT discards the staging set, closes the open block and drops the
journal cursor that a silent requester left. (02_dictionary.md, 12_chain.md, 18_diagnostics.md) -/
def Obligations.DiagnosticsAndJournal : Prop :=
  (∀ (t : Nat) (x : Snap) (s v : State), v = s.clock t →
    v.snap = some x →
    x.at_ ≤ v.ptp →
    exec (.snapAtReached t  ) s =
      .next ({ v with snap := none }.takeSnap x.tag x.chain x.late)) ∧
  (∀ (t : Nat) (result n : Nat) (rest : List Nat) (u : State) (s v : State), v = s.clock t →
    v.test.left = n :: rest →
    v.testing = true →
    v.testQuiet = true →
    bits result 31 30 = 1 →
    u = { v.wr 0x2461 (n + 1) 0x4000FFFF with test := { v.test with left := rest, waiting := false } } →
    exec (.testItemComplete t result) s =
      .next (if rest = [] then u.endTests else u.enterTest)) ∧
  (∀ (t : Nat) (result n : Nat) (rest : List Nat) (u : State) (s v : State), v = s.clock t →
    v.test.left = n :: rest →
    v.testing = true →
    v.testQuiet = true →
    bits result 31 30 = 2 →
    u = ({ v.wr 0x2461 (n + 1) (result % 2 ^ 24 + 2 * 2 ^ 30) with test := { v.test with left := rest, waiting := false } } : State).event 0x0D 0x2460 →
    exec (.testItemComplete t result) s =
      .next (if rest = [] then u.endTests else u.enterTest)) ∧
  (∀ (t : Nat) (e : Entry) (s v : State), v = s.clock t →
    v.journal.mirrorOn = true →
    v.mem.ready = true →
    v.journal.mirrorNext ≠ v.journal.nextSeq →
    v.journal.lostFrom v.journal.mirrorNext = 0 →
    ((v.journal.ring.find? fun e => e.seq == v.journal.mirrorNext) = some e) →
    exec (.mirrorCopy t  ) s =
      .next (v.bgWait.mapJournal fun j => { j with mirror := (e :: j.mirror).take 65536, mirrorNext := (j.mirrorNext + 1) % 2 ^ 32 })) ∧
  (∀ (t : Nat) (s v : State), v = s.clock t →
    v.mem.ready = true →
    v.pdOn 10 = true →
    v.journal.mirrorOn = false →
    exec (.mirrorResume t) s =
      .next ((v.mirrorSkip.draw 65536).2.mapJournal fun j =>
        { j with mirrorOn := true, mirror := j.survivors (v.mirrorSkip.draw 65536).1, mirrorNext := j.oldestOnChip })) ∧
  (∀ (t : Nat) (s v : State), v = s.clock t →
    v.pushing = true →
    v.journal.lostFrom v.journal.pushNext = 0 →
    v.journal.pushNext ≠ v.journal.nextSeq →
    v.journal.pushNext < 2 ^ 32 →
    v.journal.nextSeq < 2 ^ 32 →
    exec (.journalPush t) s =
      .next ((v.pushFrame v.journal.pushNext (min 16 ((v.journal.nextSeq + 2 ^ 32 - v.journal.pushNext) % 2 ^ 32))).mapJournal fun j =>
        { j with
          pushNext := (j.pushNext + min 16 ((v.journal.nextSeq + 2 ^ 32 - v.journal.pushNext) % 2 ^ 32)) % 2 ^ 32
          pushSentAt := v.now })) ∧
  (∀ (t : Nat) (n : Nat) (s v : State), v = s.clock t →
    v.pushing = true →
    v.journal.lostFrom ((v.journal.pushAcked + 1) % 2 ^ 32) = 0 →
    n = min ((v.journal.pushNext + 2 ^ 32 - (v.journal.pushAcked + 1) % 2 ^ 32) % 2 ^ 32) ((v.journal.nextSeq + 2 ^ 32 - (v.journal.pushAcked + 1) % 2 ^ 32) % 2 ^ 32) →
    0 < n →
    v.journal.pushSentAt + 10000000 ≤ v.now →
    exec (.journalPushResend t  ) s =
      .next (((List.range ((n + 15) / 16)).foldl
          (fun s k => s.pushFrame (((v.journal.pushAcked + 1) % 2 ^ 32 + 16 * k) % 2 ^ 32) (n - 16 * k)) v).mapJournal
        fun j => { j with pushSentAt := v.now })) ∧
  (∀ (t : Nat) (epoch ackSeq : Nat) (s v : State), v = s.clock t →
    epoch = v.journal.epoch →
    v.pushing = true →
    0 < (ackSeq + 2 ^ 32 - v.journal.pushAcked) % 2 ^ 32 →
    (ackSeq + 2 ^ 32 - v.journal.pushAcked) % 2 ^ 32 ≤ (v.journal.pushNext + 2 ^ 32 - 1 - v.journal.pushAcked) % 2 ^ 32 →
    exec (.journalAck t epoch ackSeq) s =
      .next (v.mapJournal fun j => { j with pushAcked := ackSeq % 2 ^ 32 })) ∧
  (∀ (t : Nat) (who : Requester) (u w : State) (s v : State), v = s.clock t →
    v.pdOn 3 = true →
    (v.req who).stageTimeout ≠ 0 →
    (v.req who).lastSeen + (v.req who).stageTimeout * 1000000 ≤ v.now →
    (u = if (v.req who).staged = [] then v else v.discardSet who (v.req who).node 1) →
    (w = if (v.req who).buffer.isSome = true then u.releaseBuffer who else u) →
    exec (.stageTimeout t who) s =
      .next ((match who with
        | .chain _ => if (v.req who).cursor.isSome = true then w.mapReq who fun y => { y with cursor := none } else w
        | _ => w)))

/-- BOOT_IMAGE_ACCEPTED of a flash slot whose image passes every check boots with it. BOOT_FAIL notes a flash that did not answer
or two bad slots (which of them is free), and waits for a pushed image, or for 1 s when BOOT_SOURCE is 02h, after which
BOOT_RETRY tries again. RECIPE_RECORDS, once a rate domain runs, loads the records, and those that it cannot load yet wait on.
VERIFY_SLOT is a write of 2303h.0Bh: when it is accepted it sets the bit of the slot in 2303h.0Ch to what the slot holds.
(16_control_bus_host.md) -/
def Obligations.BootAndRecipes : Prop :=
  (∀ (t : Nat) (img : BootImage) (eeprom : List Byte) (s v : State), v = s.clock t →
    v.booting = true →
    v.rd 0x2303 1 ≠ 1 →
    img.source = 1 ∨ img.source = 2 →
    v.ms.low.contains .vddioD = false →
    v.imageOk img = true →
    exec (.bootImageAccepted t img eeprom) s =
      .next (v.bootWith img eeprom)) ∧
  (∀ (t : Nat) (u : State) (s v : State), v = s.clock t →
    v.booting = true →
    (u = if v.rd 0x2303 1 = 1 then v
          else (v.draw 1).2.mapBoot fun b => if (v.draw 1).1 = 1 then { b with noFlash := true } else { b with slot0Bad := true, slot1Bad := true }) →
    exec (.bootFail t  ) s =
      .next (u.mapBoot fun b => if v.rd 0x2303 1 = 2 then { b with failed := true, retryAt := v.now } else { b with pushWait := true })) ∧
  (∀ (t : Nat) (s v : State), v = s.clock t →
    v.pdOn 3 = true →
    v.ms.booted = false →
    v.boot.failed = true →
    v.boot.retryAt + 1000000000 ≤ v.now →
    exec (.bootRetry t) s =
      .next (v.mapBoot fun b => { b with failed := false })) ∧
  (∀ (t : Nat) (r : State × List BootRecord) (u : State) (s v : State), v = s.clock t →
    v.hostUp = true →
    v.ms.recipesLoaded = false →
    Mode.awake v.ms.mode = true →
    (∃ d, d < 3 ∧ (v.dom d).running = true) →
    r = v.recipeRecords v.boot.records →
    (u = r.1.mapBoot fun b => { b with records := r.2 }) →
    exec (.recipeRecords t  ) s =
      .next (if r.2 = [] then u.mapMs fun m => { m with recipesLoaded := true } else u)) ∧
  (∀ (t : Nat) (q : Req) (data : List Byte) (slotOk : Bool) (s v : State), v = s.clock t →
    exec (.verifySlot t q data slotOk) s =
      .next (if ((v.transactWrite q 0x2303 0x0B data).journal.ring.head?.any fun e => decide ((v.transactWrite q 0x2303 0x0B data).journal.head ≠ v.journal.head ∧ e.kind = .write ∧ e.index = 0x2303 ∧ e.sub = 0x0B ∧ e.status = 0)) then
          (v.transactWrite q 0x2303 0x0B data).wrBit 0x2303 0x0C (((v.transactWrite q 0x2303 0x0B data).journal.ring.head?.map (·.value)).getD 0 - 1) slotOk
        else v.transactWrite q 0x2303 0x0B data))

/-- While transactions execute and VDDIO_C is in tolerance, a transfer ends a stretch, and DEVICE_ID is answered with 9648h,
STATUS with the status byte of the port. RESPONSE is answered with the oldest unread response behind its byte count, and a
controller that takes all of it removes it; with none waiting and no request in progress it is answered with the count 0, and
with a request waiting the device stretches SCL. RESPONSE_LEN is answered with the length of that response or 0, RESEND with
the last response taken or the count 0. ATTENTION is answered with the attention word, and reading it clears its latched bits;
as the object 2300h.06 it is a transaction. An unknown command code is answered with nothing. (16_control_bus_host.md) -/
def Obligations.Twb0Answers : Prop :=
  (∀ (t : Nat) (u : State) (s v : State), v = s.clock t →
    v.ms.low.contains .vddioC = false →
    v.hostUp = true →
    (u = v.mapHost fun h => { h with stretching := false }) →
    exec (.deviceId t  ) s =
      .next (u.twbSends 0x01 (leBytes 2 0x9648))) ∧
  (∀ (t : Nat) (u : State) (s v : State), v = s.clock t →
    v.ms.low.contains .vddioC = false →
    v.hostUp = true →
    (u = v.mapHost fun h => { h with stretching := false }) →
    exec (.status t  ) s =
      .next (u.twbSends 0x02 (leBytes 1 (u.statusByte .twb0)))) ∧
  (∀ (t : Nat) (taken : Bool) (r : Response) (l : List Response) (u : State) (s v : State), v = s.clock t →
    v.ms.low.contains .vddioC = false →
    v.hostUp = true →
    (u = v.mapHost fun h => { h with stretching := false }) →
    v.twb0.out = r :: l →
    exec (.response t taken) s =
      .next ((if taken = true then u.takeResponse .twb0 r else u).twbSends 0x11 (counted r.bytes))) ∧
  (∀ (t : Nat) (taken : Bool) (u : State) (s v : State), v = s.clock t →
    v.ms.low.contains .vddioC = false →
    v.hostUp = true →
    (u = v.mapHost fun h => { h with stretching := false }) →
    v.twb0.out = [] →
    v.twb0.queue = [] →
    exec (.response t taken) s =
      .next (u.twbSends 0x11 [0])) ∧
  (∀ (t : Nat) (taken : Bool) (u : State) (s v : State), v = s.clock t →
    v.ms.low.contains .vddioC = false →
    v.hostUp = true →
    (u = v.mapHost fun h => { h with stretching := false }) →
    v.twb0.out = [] →
    v.twb0.queue ≠ [] →
    exec (.response t taken) s =
      .next ((u.mapHost fun h => { h with stretching := true, stretchAt := u.now, stretchTaken := taken }).twbSends 0x11 [])) ∧
  (∀ (t : Nat) (r : Response) (l : List Response) (u : State) (s v : State), v = s.clock t →
    v.ms.low.contains .vddioC = false →
    v.hostUp = true →
    (u = v.mapHost fun h => { h with stretching := false }) →
    v.twb0.out = r :: l →
    exec (.responseLen t  ) s =
      .next (u.twbSends 0x12 (leBytes 1 r.bytes.length))) ∧
  (∀ (t : Nat) (u : State) (s v : State), v = s.clock t →
    v.ms.low.contains .vddioC = false →
    v.hostUp = true →
    (u = v.mapHost fun h => { h with stretching := false }) →
    v.twb0.out = [] →
    exec (.responseLen t  ) s =
      .next (u.twbSends 0x12 (leBytes 1 0))) ∧
  (∀ (t : Nat) (r : Response) (u : State) (s v : State), v = s.clock t →
    v.ms.low.contains .vddioC = false →
    v.hostUp = true →
    (u = v.mapHost fun h => { h with stretching := false }) →
    v.host.lastTwb = some r →
    exec (.resend t  ) s =
      .next (u.twbSends 0x13 (counted r.bytes))) ∧
  (∀ (t : Nat) (u : State) (s v : State), v = s.clock t →
    v.ms.low.contains .vddioC = false →
    v.hostUp = true →
    (u = v.mapHost fun h => { h with stretching := false }) →
    v.host.lastTwb = none →
    exec (.resend t  ) s =
      .next (u.twbSends 0x13 (counted []))) ∧
  (∀ (t : Nat) (u : State) (s v : State), v = s.clock t →
    v.ms.low.contains .vddioC = false →
    v.hostUp = true →
    (u = v.mapHost fun h => { h with stretching := false }) →
    exec (.attention t .twb0) s =
      .next (u.attnRead.twbSends 0x14 (leBytes 2 u.attention))) ∧
  (∀ (t : Nat) (q : Req) (len : Nat) (s v : State), v = s.clock t →
    exec (.attention t (.object q len)) s =
      .next (v.transact q { op := 1, tid := q.tid, index := 0x2300, sub := 6, len, data := [] })) ∧
  (∀ (t : Nat) (code : Nat) (u : State) (s v : State), v = s.clock t →
    v.ms.low.contains .vddioC = false →
    v.hostUp = true →
    (u = v.mapHost fun h => { h with stretching := false }) →
    twbCodes.contains code = false →
    exec (.unknownCommand t code) s =
      .next (u.twbSends code []))

/-- A REQUEST ends a stretch. One whose PEC fails counts TWB_PEC (B2h) and 2300h.09; one whose length does not fit counts in
2300h.0Ah; a sound one arrives in the queue of TWB0. START_IN_ACK counts TWB_RS_IN_ACK (B0h) and 2300h.07, SCL_TIMEOUT
TWB_TIMEOUT (B1h) and 2300h.08; STRETCH_TIMEOUT, 10 ms into a stretch, answers with the count 0. HOST_NOTIFY sends the notify
that is due, NOTIFY_RETRY sends it again 1 ms later. ARBITRATION_LOST at a stop or restart condition counts ARB_LOST_STOP
(B5h) or ARB_LOST_RS (B6h) and the counter of the bus, one at an address or a data byte counts nothing; on TWB1 its instant is
noted. BUS_RECOVERY recovers the bus, and BUS_STUCK_RETRY does so every 1 s while it is stuck. (16_control_bus_host.md) -/
def Obligations.Twb0RequestsAndErrors : Prop :=
  (∀ (t : Nat) (x : TwbWrite) (u w : State) (s v : State), v = s.clock t →
    v.ms.low.contains .vddioC = false →
    v.hostUp = true →
    (u = v.mapHost fun h => { h with stretching := false }) →
    (w = if v.pecFails x.pec = true then (u.bump 0x2300 9).event 0xB2 0x2300 else if x.count < 8 ∨ x.bytes.length < x.count ∨ bodyFits (x.bytes.take x.count) = false then u.bump 0x2300 0x0A else u.arrive .twb0 { node := 0xFFFF, reply := true, body := x.bytes.take x.count }) →
    exec (.request t x) s =
      .next (w.twbSends 0x10 [])) ∧
  (∀ (t : Nat) (u : State) (s v : State), v = s.clock t →
    v.ms.low.contains .vddioC = false →
    v.hostUp = true →
    (u = v.mapHost fun h => { h with stretching := false }) →
    exec (.startInAck t  ) s =
      .next (((u.twbSends 0 []).bump 0x2300 7).event 0xB0 0x2300)) ∧
  (∀ (t : Nat) (u : State) (s v : State), v = s.clock t →
    v.ms.low.contains .vddioC = false →
    v.hostUp = true →
    (u = v.mapHost fun h => { h with stretching := false }) →
    exec (.sclTimeout t  ) s =
      .next (((u.twbSends 0 []).bump 0x2300 8).event 0xB1 0x2300)) ∧
  (∀ (t : Nat) (u : State) (s v : State), v = s.clock t →
    v.ms.low.contains .vddioC = false →
    v.hostUp = true →
    (u = v.mapHost fun h => { h with stretching := false }) →
    v.host.stretching = true →
    v.twb0.out = [] →
    v.host.stretchAt + 10000000 ≤ v.now →
    exec (.stretchTimeout t  ) s =
      .next (u.twbSends 0x11 [0])) ∧
  (∀ (t : Nat) (ack : Bool) (s v : State), v = s.clock t →
    v.mayNotify = true →
    v.host.notify = 0 →
    v.notifyDue = true →
    exec (.hostNotify t ack) s =
      .next ((v.mapHost fun h => { h with attempts := 0 }).sendNotify ack)) ∧
  (∀ (t : Nat) (ack : Bool) (s v : State), v = s.clock t →
    v.mayNotify = true →
    v.host.notify = 2 →
    v.host.notifyAt + 1000000 ≤ v.now →
    exec (.notifyRetry t ack) s =
      .next (v.sendNotify ack)) ∧
  (∀ (t : Nat) (during : ArbPhase) (s v : State), v = s.clock t →
    v.controls 0 = true →
    exec (.arbitrationLost t 0 during) s =
      .next (match during with
        | .address _ => v
        | .data => v
        | .stop => (v.bump 0x2300 0x0C).event 0xB5 0x2300
        | .restart => (v.bump 0x2300 0x0D).event 0xB6 0x2300)) ∧
  (∀ (t : Nat) (during : ArbPhase) (u : State) (s v : State), v = s.clock t →
    v.controls 1 = true →
    (u = v.mapHost fun h => { h with arbAt := some v.now }) →
    exec (.arbitrationLost t 1 during) s =
      .next (match during with
        | .address _ => u
        | .data => u
        | .stop => (u.bump 0x2301 0x0A).event 0xB5 0x2301
        | .restart => (u.bump 0x2301 0x0A).event 0xB6 0x2301)) ∧
  (∀ (t : Nat) (bus pulses : Nat) (s v : State), v = s.clock t →
    bus < 2 →
    v.pdOn 3 = true →
    exec (.busRecovery t bus pulses) s =
      .next (v.recover bus pulses)) ∧
  (∀ (t : Nat) (pulses : Nat) (s v : State), v = s.clock t →
    v.pdOn 3 = true →
    v.host.stuck0 = true →
    v.host.recoverAt0 + 1000000000 ≤ v.now →
    exec (.busStuckRetry t 0 pulses) s =
      .next (v.recover 0 pulses)) ∧
  (∀ (t : Nat) (pulses : Nat) (s v : State), v = s.clock t →
    v.pdOn 3 = true →
    v.host.stuck1 = true →
    v.host.recoverAt1 + 1000000000 ≤ v.now →
    exec (.busStuckRetry t 1 pulses) s =
      .next (v.recover 1 pulses))

/-- Every frame counts in 2302h.04 and changes the lanes at its end. A request that fits and whose CRC is right arrives in the
queue of HSPI; one that does not fit counts in 2302h.03, one with a wrong CRC counts HSPI_CRC (B8h). A FETCH is answered with
the status byte, the oldest unread response and the CRC, and removes the response when the frame is taken whole; REFETCH is
answered with the last response taken, STATUS as its frame says; each cut short is a frame error. PUSH that fits and whose CRC
is right stores its piece while the boot ROM waits for a push. PUSH_END then of an image that passes its checks boots with it,
and of one that does not clears the pieces. While the boot ROM waits, REQUEST, FETCH and REFETCH do nothing more.
HSPI_FRAME_ABORT is a frame error. (16_control_bus_host.md) -/
def Obligations.HspiFrames : Prop :=
  (∀ (t : Nat) (body : List Byte) (crc : Nat) (u w : State) (s v : State), v = s.clock t →
    v.ms.low.contains .vddioD = false →
    v.hostUp = true →
    v.boot.pushWait = false →
    u = v.bump 0x2302 4 →
    (w = if bodyFits body = false then u.frameError else if crc16 (0x01 :: body) = crc then u.arrive .hspi { node := 0xFFFF, reply := true, body } else u.crcFails) →
    exec (.hspiRequest t body crc) s =
      .next (w.mapHost fun h => { h with sentHspi := u.bare, lanes := w.rd 0x2302 1 })) ∧
  (∀ (t : Nat) (full : Bool) (r : Response) (l : List Response) (u w : State) (s v : State), v = s.clock t →
    v.ms.low.contains .vddioD = false →
    v.hostUp = true →
    v.boot.pushWait = false →
    u = v.bump 0x2302 4 →
    v.hspi.out = r :: l →
    (w = if full = true then u.takeResponse .hspi r else u.frameError) →
    exec (.fetch t full) s =
      .next (w.mapHost fun h => { h with sentHspi := withCrc (leBytes 1 (u.statusByte .hspi) ++ r.bytes), lanes := w.rd 0x2302 1 })) ∧
  (∀ (t : Nat) (full : Bool) (u w : State) (s v : State), v = s.clock t →
    v.ms.low.contains .vddioD = false →
    v.hostUp = true →
    v.boot.pushWait = false →
    u = v.bump 0x2302 4 →
    v.hspi.out = [] →
    (w = if full = true then u else u.frameError) →
    exec (.fetch t full) s =
      .next (w.mapHost fun h => { h with sentHspi := withCrc (leBytes 1 (u.statusByte .hspi)), lanes := w.rd 0x2302 1 })) ∧
  (∀ (t : Nat) (full : Bool) (u w : State) (s v : State), v = s.clock t →
    v.ms.low.contains .vddioD = false →
    v.hostUp = true →
    v.boot.pushWait = false →
    u = v.bump 0x2302 4 →
    (w = if full = true then u else u.frameError) →
    exec (.refetch t full) s =
      .next (w.mapHost fun h => { h with sentHspi := match v.host.lastHspi with
            | some r => withCrc (leBytes 1 (u.statusByte .hspi) ++ r.bytes)
            | none => withCrc (leBytes 1 (u.statusByte .hspi)), lanes := w.rd 0x2302 1 })) ∧
  (∀ (t : Nat) (full : Bool) (u : State) (r : State × List Byte) (s v : State), v = s.clock t →
    v.ms.low.contains .vddioD = false →
    v.hostUp = true ∨ v.boot.pushWait = true →
    u = v.bump 0x2302 4 →
    r = u.hspiStatusFrame full →
    exec (.hspiStatus t full) s =
      .next (r.1.mapHost fun h => { h with sentHspi := r.2, lanes := r.1.rd 0x2302 1 })) ∧
  (∀ (t : Nat) (u w : State) (s v : State), v = s.clock t →
    v.ms.low.contains .vddioD = false →
    v.hostUp = true ∨ v.boot.pushWait = true →
    u = v.bump 0x2302 4 →
    w = u.frameError →
    exec (.hspiFrameAbort t  ) s =
      .next (w.mapHost fun h => { h with sentHspi := u.bare, lanes := w.rd 0x2302 1 })) ∧
  (∀ (t : Nat) (offset : Nat) (data : List Byte) (crc : Nat) (u w : State) (s v : State), v = s.clock t →
    v.ms.low.contains .vddioD = false →
    v.hostUp = true ∨ v.boot.pushWait = true →
    u = v.bump 0x2302 4 →
    (w = if data.length = 0 ∨ 512 < data.length ∨ 0x400000 < offset + data.length then u.frameError else if crc16 (0x10 :: (leBytes 4 offset ++ leBytes 2 data.length ++ data)) ≠ crc then u.crcFails else if u.boot.pushWait = true then { u with boot := { u.boot with pushed := u.boot.pushed ++ [(offset, data.length)] } } else u) →
    exec (.push t offset data crc) s =
      .next (w.mapHost fun h => { h with sentHspi := u.bare, lanes := w.rd 0x2302 1 })) ∧
  (∀ (t : Nat) (length crc : Nat) (img : BootImage) (u w : State) (s v : State), v = s.clock t →
    v.ms.low.contains .vddioD = false →
    v.boot.pushWait = true →
    u = v.bump 0x2302 4 →
    crc16 (0x11 :: leBytes 4 length) ≠ crc →
    w = u.crcFails →
    exec (.pushEnd t length crc img) s =
      .next (w.mapHost fun h => { h with sentHspi := u.bare, lanes := w.rd 0x2302 1 })) ∧
  (∀ (t : Nat) (length crc : Nat) (img : BootImage) (u w : State) (s v : State), v = s.clock t →
    v.ms.low.contains .vddioD = false →
    v.boot.pushWait = true →
    u = v.bump 0x2302 4 →
    crc16 (0x11 :: leBytes 4 length) = crc →
    (v.boot.pushed = [] ∨ (∃ x ∈ v.boot.pushed, length < x.1 + x.2) ∨ v.imageOk img = false) →
    w = { u with boot := { u.boot with pushed := [], pushErr := true } } →
    exec (.pushEnd t length crc img) s =
      .next (w.mapHost fun h => { h with sentHspi := u.bare, lanes := w.rd 0x2302 1 })) ∧
  (∀ (t : Nat) (length crc : Nat) (img : BootImage) (u w : State) (r : Nat × State) (s v : State), v = s.clock t →
    v.ms.low.contains .vddioD = false →
    v.boot.pushWait = true →
    u = v.bump 0x2302 4 →
    crc16 (0x11 :: leBytes 4 length) = crc →
    v.boot.pushed ≠ [] →
    (∀ x ∈ v.boot.pushed, x.1 + x.2 ≤ length) →
    v.imageOk img = true →
    r = u.draw 129 →
    (w = r.2.bootWith { img with source := 3 } (if r.1.testBit 128 = true then leBytes 16 r.1 else [])) →
    exec (.pushEnd t length crc img) s =
      .next (w.mapHost fun h => { h with sentHspi := u.bare, lanes := w.rd 0x2302 1 })) ∧
  (∀ (t : Nat) (body : List Byte) (crc : Nat) (u : State) (s v : State), v = s.clock t →
    v.ms.low.contains .vddioD = false →
    v.boot.pushWait = true →
    u = v.bump 0x2302 4 →
    exec (.hspiRequest t body crc) s =
      .next (u.mapHost fun h => { h with sentHspi := u.bare, lanes := u.rd 0x2302 1 })) ∧
  (∀ (t : Nat) (full : Bool) (u : State) (s v : State), v = s.clock t →
    v.ms.low.contains .vddioD = false →
    v.boot.pushWait = true →
    u = v.bump 0x2302 4 →
    exec (.fetch t full) s =
      .next (u.mapHost fun h => { h with sentHspi := u.bare, lanes := u.rd 0x2302 1 })) ∧
  (∀ (t : Nat) (full : Bool) (u : State) (s v : State), v = s.clock t →
    v.ms.low.contains .vddioD = false →
    v.boot.pushWait = true →
    u = v.bump 0x2302 4 →
    exec (.refetch t full) s =
      .next (u.mapHost fun h => { h with sentHspi := u.bare, lanes := u.rd 0x2302 1 })) ∧
  (∀ (t : Nat) (length crc : Nat) (img : BootImage) (u : State) (s v : State), v = s.clock t →
    v.ms.low.contains .vddioD = false →
    v.hostUp = true →
    v.boot.pushWait = false →
    u = v.bump 0x2302 4 →
    exec (.pushEnd t length crc img) s =
      .next (u.mapHost fun h => { h with sentHspi := u.bare, lanes := u.rd 0x2302 1 }))

/-- For every command and every state, a step with that command at the front of the queue is exec of it on the state whose queue
is the rest. (02_dictionary.md) -/
def Obligations.StepRunsFront : Prop :=
  ∀ (c : Instr) (l : List Instr) (s : State),
    step { s with pending := c :: l } = exec c { s with pending := l }

/-- With an empty queue a step answers the same state: the model's choice, log entry 2. (00_scope.md) -/
def Obligations.StepIdles : Prop :=
  ∀ s : State, s.pending = [] → step s = .next s

/-- For every command and every state, exec answers a next state, neither a fault nor a refusal, in which the queue is as it was.
That no rule stops the block is the model's reading, log entry 8. (02_dictionary.md, 95_what_each_step_holds.md) -/
def Obligations.CommandsAlwaysAnswer : Prop :=
  ∀ (c : Instr) (s : State), ∃ u, exec c s = .next u ∧ u.pending = s.pending

/-- From every state, whatever commands wait, a run of any number of steps is safe: no step is a fault or a refusal (log entry 8).
(02_dictionary.md, 95_what_each_step_holds.md) -/
def Obligations.EveryRunIsSafe : Prop :=
  ∀ (n : Nat) (s : State), SafeRun n s

/-- In every state whose masks have bits 31:22 at 0, and whose read masks have bits 0 and 2 at 1, each step leaves masks of the
same kind, whatever command stands at the front of the queue. (02_dictionary.md) -/
def Obligations.RightsStayLegal : Prop :=
  ∀ s u : State, s.rights.legal = true → step s = .next u → u.rights.legal = true

/-- State.reset is in ASH with no command waiting, the rights at their defaults and legal, no power domain, synthesizer or other
function on, an empty journal with head 0, and the clock sources of XO off; the defaults of the rights are 003FFFFFh with LOCK
at 0. That the queue is empty and that XO is off are the model's choices, log entry 3. (02_dictionary.md, 03_modes_power.md) -/
def Obligations.ResetState : Prop :=
  State.reset.rights.legal = true ∧ State.reset.ms.mode = .ash ∧ State.reset.pending = [] ∧
    State.reset.rights.chainWrite = 0x3FFFFF ∧ State.reset.rights.twb0Write = 0x3FFFFF ∧
    State.reset.rights.hspiWrite = 0x3FFFFF ∧ State.reset.rights.chainRead = 0x3FFFFF ∧
    State.reset.rights.twb0Read = 0x3FFFFF ∧ State.reset.rights.hspiRead = 0x3FFFFF ∧ State.reset.rights.lock = false ∧
    (∀ f : Func, State.reset.phase f = .off) ∧ State.reset.journal.head = 0 ∧ State.reset.journal.ring = [] ∧
    State.reset.clk.amp = false ∧ State.reset.clk.stable = false

/-- For every request body whose fields fit their places in the 8-byte header, reading the bytes made of it gives it back: OP,
TID, INDEX, SUB, LEN and the data. (02_dictionary.md) -/
def Obligations.RequestBodyRoundTrip : Prop :=
  ∀ b : Body, b.fits = true → parseBody b.bytes = some b

/-- For every command that is one transaction, whose fields fit and which arrives with nothing waiting: the requester is noted as
heard, the turn passes on, the body executes for its requester and node, and the response leaves for it (how a row of a
transaction meets the queues is the model's reading, log entries 6 and 18). So for READ, WRITE, STAGE, the block transfers,
COMMIT, DISCARD, LOCK, UNKNOWN_OP and every row that is the read or the write of an object of its own. (02_dictionary.md) -/
def Obligations.TransactionExecutes : Prop :=
  ∀ (c : Instr) (t : Nat) (q : Req) (b : Body) (s v : State), asks c = some (t, q, b) → v = s.clock t → b.fits = true →
    v.free q b = true →
    exec c s = .next (((v.opened q b).execBody q.who q.node b).sent q b)

/-- A WRITE that none of the statuses of R59 meets is journalled as one WRITE entry and applies as a commit of that one write, and
the response carries the sequence number of the entry. So for WRITE and for TARGET_MODE, KEEP_OFF, CRIMSON_ACK, CEILING,
FORCE_SWITCH, REF_SCALE, LEADER, OVER_LATCH, BLOCK_LIVE_VALUE, FAULT_CLEAR, JACK_ACTION, SHARE_REQUEST, SEND_BEACON,
SWITCH_REQUEST, GRANT_TO, RING_RELEASE, SW_TRIGGER, URGENT_BANK, URGENT_SLICE, REF_SOURCE, WINDOW_MODE, COMMIT_SV, RETRAIN,
TRANSPORT_COMMAND, COUNTER_SOURCE, COUNTER_CLEAR, SNAP_NOW, SNAP_CHAIN, TEST_RUN and LOCK, with the body that `asks` gives.
(02_dictionary.md) -/
def Obligations.WritesApply : Prop :=
  ∀ (c : Instr) (t : Nat) (q : Req) (b : Body) (s v u : State), asks c = some (t, q, b) → v = s.clock t → b.fits = true →
    v.free q b = true → u = v.working q b → b.op = 2 →
    u.takesWrite q.who b = true →
    exec c s =
      .next ((State.written (u.logged q.who q.node .write b false 0) q.who q.node
        (itemOf b.index b.sub (leNat b.field))).sent q b)

/-- A STAGE that none of the statuses meets is journalled as a STAGE entry, and the write enters the staging set of the requester
with the sequence number of that entry, in the place of an earlier write of the same object. (02_dictionary.md) -/
def Obligations.StagesEnter : Prop :=
  ∀ (c : Instr) (t : Nat) (q : Req) (b : Body) (s v u : State), asks c = some (t, q, b) → v = s.clock t → b.fits = true →
    v.free q b = true → u = v.working q b → b.op = 3 →
    u.takesStage q.who b = true →
    exec c s =
      .next ((State.staged (u.logged q.who q.node .stage b false 0) q.who
        (itemOf b.index b.sub (leNat b.field))).sent q b)

/-- A READ that none of the statuses meets is answered with the value of the object in its length and with HEAD_SEQ, is not
journalled, and leaves what a read of that object leaves: the SEEN bits of CRIMSON_CAUSE, FRESH bits, latched attention bits
and held peaks clear. So for READ, METER_READ, HK_RESULT_READ, CRIMSON_CAUSE_READ and ATTENTION of 2300h.06.
(02_dictionary.md) -/
def Obligations.ReadsAnswer : Prop :=
  ∀ (c : Instr) (t : Nat) (q : Req) (b : Body) (r : Row) (s v u : State), asks c = some (t, q, b) → v = s.clock t → b.fits = true →
    v.free q b = true → u = v.working q b → b.op = 1 →
    u.takesRead q.who b = true → rowOf b.index b.sub = some r →
    exec c s =
      .next (((u.afterRead b.index b.sub).plain 0
        (leBytes r.ty.size (u.readVal q.who b.index b.sub))).sent q b)

/-- COMMIT of a set that passes every check is journalled as one COMMIT entry with the number of its writes and its first sequence
number, empties the set, notes LAST_STATUS, LAST_SEQ and COMMIT_ID, marks lateness, and applies the writes. DISCARD drops the
set with a DISCARD entry of cause 0 and answers with HEAD_SEQ. (02_dictionary.md) -/
def Obligations.CommitAndDiscard : Prop :=
  (∀ (t : Nat) (q : Req) (b : Body) (u : State) (x : ReqState) (e : State) (s v : State), v = s.clock t →
    b = writeBody 2 q 0x1010 1 [1] →
    b.fits = true →
    v.free q b = true →
    u = v.working q b →
    u.accessStatus q.who true 0x1010 1 = 0 →
    x = u.req q.who →
    (u.commitStatus x.staged (x.staged.any fun y => u.conflict q.who y.key) x.commitAt = 0) →
    e = u.setEntry .commit q.who (entryNode q.who q.node) 0 x.staged.length 0 (firstSeq x.staged) →
    exec (.commit t q) s =
      .next (let w := (e.setReq q.who { x with
            staged := [], closed := true, lastStatus := 0, lastSeq := e.journal.head, commitId := e.journal.head
            appliedMask := bit (decide (x.commitAt ≠ 0) && decide (x.commitAt < u.ptp)) 6 }).releaseCursor q.who
        (Reply.mk
          ((w.accept q.who (entryNode q.who q.node) true e.journal.head x.staged.length (firstSeq x.staged) x.commitAt
            (x.staged.filter fun y => !y.own)).applyOwn q.who q.node (x.staged.filter WItem.own))
          0 e.journal.head []).sent q b)) ∧
  (∀ (t : Nat) (q : Req) (b : Body) (u : State) (s v : State), v = s.clock t →
    b = writeBody 2 q 0x1010 1 [2] →
    b.fits = true →
    v.free q b = true →
    u = v.working q b →
    u.accessStatus q.who true 0x1010 1 = 0 →
    exec (.discard t q) s =
      .next (((u.discardSet q.who q.node 0).plain 0 []).sent q b))

/-- BLOCK_OPEN with a length in range opens a zeroed buffer of that length and is journalled. BLOCK_WRITE puts its segment at its
offset into the open buffer of that index and is not journalled. BLOCK_READ is answered with the bytes of the block in force
from its offset. BLOCK_CLOSE whose CRC-32, header and resources pass releases the buffer and is journalled with the CRC; as a
WRITE it applies, as a STAGE it enters the set. (02_dictionary.md, 17_memory_capture.md) -/
def Obligations.BlockTransfers : Prop :=
  (∀ (t : Nat) (q : Req) (index : Nat) (data : List Byte) (b : Body) (u : State) (r : Row) (s v : State), v = s.clock t →
    b = writeBody 2 q index 2 data →
    b.fits = true →
    v.free q b = true →
    u = v.working q b →
    u.accessStatus q.who true index 2 = 0 →
    isDomain index = true →
    rowOf index 2 = some r →
    r.ty ≠ .domain →
    r.ty.size = data.length →
    leNat data ≠ 0 →
    leNat data ≤ blockMax index →
    (isWindow index && u.capBusy (index - 0x5200)) = false →
    u.chipTaken q.who = false →
    exec (.blockOpen t q index data) s =
      .next (let w := u.mapReq q.who fun x => { x with buffer := some { index, data := List.replicate (leNat data) 0 } }
        let w := if w.mem.ready then w else { w with mem := { w.mem with chipBuf := some q.who } }
        (w.logged q.who q.node .write b false 0).sent q b)) ∧
  (∀ (t : Nat) (q : Req) (index sub offset : Nat) (seg : List Byte) (b : Body) (u : State) (x : BlockBuf) (s v : State), v = s.clock t →
    b = writeBody 5 q index sub (leBytes 4 offset ++ seg) →
    b.fits = true →
    v.free q b = true →
    u = v.working q b →
    u.accessStatus q.who true index sub = 0 →
    (rowOf index sub).map Row.ty = some .domain →
    offset < 2 ^ 32 →
    seg.length + 4 ≤ 512 →
    (u.req q.who).buffer = some x →
    x.index = index →
    offset + seg.length ≤ x.data.length →
    isWindow index = false ∨ (u.mem.ready = true ∧ u.capBusy (index - 0x5200) = false) →
    exec (.blockWrite t q index sub offset seg) s =
      .next ((((if u.mem.ready = true then u.bgWait else u).mapReq q.who fun y => { y with buffer := some { x with data := patchBytes x.data offset seg } }).plain 0 []).sent q b)) ∧
  (∀ (t : Nat) (q : Req) (index sub offset len : Nat) (b : Body) (u : State) (s v : State), v = s.clock t →
    b = { op := 4, tid := q.tid, index, sub, len, data := leBytes 4 offset } →
    b.fits = true →
    v.free q b = true →
    u = v.working q b →
    u.accessStatus q.who false index sub = 0 →
    (rowOf index sub).map Row.ty = some .domain →
    offset < 2 ^ 32 →
    len ≤ maxLen q.who →
    exec (.blockRead t q index sub offset len) s =
      .next (((if (isWindow index && u.mem.ready) = true then u.bgWait else u).plain 0 (Machine.slice (u.blockInForce q.who index) offset (readLimit q.who len))).sent q b)) ∧
  (∀ (t : Nat) (q : Req) (index : Nat) (stage : Bool) (data : List Byte) (b : Body) (u : State) (r : Row) (x : BlockBuf) (y : WItem) (s v : State), v = s.clock t →
    (b = writeBody (if stage then 3 else 2) q index 3 data) →
    b.fits = true →
    v.free q b = true →
    u = v.working q b →
    u.accessStatus q.who true index 3 = 0 →
    isDomain index = true →
    rowOf index 3 = some r →
    r.ty ≠ .domain →
    r.ty.size = data.length →
    (u.req q.who).buffer = some x →
    x.index = index →
    y = u.closeItem q.who index (leNat data) x.data →
    u.closeStatus q.who stage (some x) (leNat data) y = 0 →
    exec (.blockClose t q index stage data) s =
      .next (if stage then
          (State.staged ((u.releaseBuffer q.who).logged q.who q.node .stage b true 0) q.who y).sent q b
        else (State.written ((u.releaseBuffer q.who).logged q.who q.node .write b true 0) q.who q.node y).sent q b))

/-- READ_FROM within the retained entries sets the cursor of the requester and is not journalled. ENTRIES_READ answers with the
whole entries from the cursor, LEN div 32 of them and at most 16, and advances the cursor by their number. (02_dictionary.md) -/
def Obligations.JournalReads : Prop :=
  (∀ (t : Nat) (q : Req) (data : List Byte) (b : Body) (u : State) (r : Row) (s v : State), v = s.clock t →
    b = writeBody 2 q 0x1F00 7 data →
    b.fits = true →
    v.free q b = true →
    u = v.working q b →
    u.accessStatus q.who true 0x1F00 7 = 0 →
    rowOf 0x1F00 7 = some r →
    r.ty ≠ .domain →
    r.ty.size = data.length →
    u.journal.retains (leNat data) = true →
    u.tableRoom q.who = true →
    exec (.readFrom t q data) s =
      .next (((u.mapReq q.who fun x => { x with cursor := some (leNat data), closed := false }).plain 0 []).sent q b)) ∧
  (∀ (t : Nat) (q : Req) (len : Nat) (b : Body) (u : State) (n back : Nat) (s v : State), v = s.clock t →
    b = { op := 1, tid := q.tid, index := 0x1F01, sub := 1, len, data := [] } →
    b.fits = true →
    v.free q b = true →
    u = v.working q b →
    u.accessStatus q.who false 0x1F01 1 = 0 →
    len ≤ maxLen q.who →
    n = min 16 (readLimit q.who len / 32) →
    back = (u.journal.nextSeq + 2 ^ 32 - u.readFrom q.who) % 2 ^ 32 →
    u.journal.mirrorState ≠ 1 ∨ min n back = 0 ∨ back ≤ u.journal.ring.length →
    min n back ≤ (u.journal.take (u.readFrom q.who) n).length →
    exec (.entriesRead t q len) s =
      .next ((((if (u.req q.who).cursor.isSome || u.tableRoom q.who then
            u.mapReq q.who fun x =>
              { x with cursor := some ((u.readFrom q.who + (u.journal.take (u.readFrom q.who) n).length) % 2 ^ 32) }
          else u).releaseCursor q.who).plain 0 ((u.journal.take (u.readFrom q.who) n).flatMap Entry.bytes)).sent q b))

/-- TRANSACTION_ARRIVE notes when the requester was heard. At a queue of fewer than 8 transactions it enters at the end; at one
that holds 8 it is answered BUSY_RETRY at once and not taken, over the host port or the chain; at a host port that holds 16
responses it is dropped and counted. Where no transaction of the requester can execute, one on a host bus is a wake source
only. UNKNOWN_OP, a request whose OP is none of 01h to 05h, completes with TYPE_MISMATCH and HEAD_SEQ. (02_dictionary.md) -/
def Obligations.ArrivalsAndUnknownOps : Prop :=
  (∀ (t : Nat) (q : Req) (body : List Byte) (u : State) (s v : State), v = s.clock t →
    8 ≤ body.length →
    v.canRun q.who = true →
    (v.req q.who).queue.length < 8 →
    q.who ≠ .twb0 ∧ q.who ≠ .hspi ∨ (v.req q.who).out.length < 16 →
    (u = (v.busGate q.who).mapReq q.who fun x => { x with lastSeen := v.now }) →
    exec (.transactionArrive t q body) s =
      .next (u.mapReq q.who fun x => { x with queue := x.queue ++ [{ node := q.node, reply := true, body }] })) ∧
  (∀ (t : Nat) (q : Req) (body : List Byte) (b : Body) (u : State) (s v : State), v = s.clock t →
    parseBody body = some b →
    v.canRun q.who = true →
    8 ≤ (v.req q.who).queue.length →
    q.who = .twb0 ∨ q.who = .hspi →
    (v.req q.who).out.length < 16 →
    (u = (v.busGate q.who).mapReq q.who fun x => { x with lastSeen := v.now }) →
    exec (.transactionArrive t q body) s =
      .next (u.give q.who { op := b.op % 128 + 128, tid := b.tid, status := 9, seq := u.journal.head, data := [] })) ∧
  (∀ (t : Nat) (q : Req) (uid : Nat) (body : List Byte) (b : Body) (u : State) (s v : State), v = s.clock t →
    parseBody body = some b →
    q.who = .chain uid →
    v.canRun q.who = true →
    8 ≤ (v.req q.who).queue.length →
    (u = (v.busGate q.who).mapReq q.who fun x => { x with lastSeen := v.now }) →
    exec (.transactionArrive t q body) s =
      .next (u.sendResponse uid q.node { op := b.op % 128 + 128, tid := b.tid, status := 9, seq := u.journal.head, data := [] })) ∧
  (∀ (t : Nat) (q : Req) (body : List Byte) (u : State) (s v : State), v = s.clock t →
    8 ≤ body.length →
    v.canRun q.who = true →
    q.who = .twb0 ∨ q.who = .hspi →
    16 ≤ (v.req q.who).out.length →
    (u = (v.busGate q.who).mapReq q.who fun x => { x with lastSeen := v.now }) →
    exec (.transactionArrive t q body) s =
      .next (u.dropHost)) ∧
  (∀ (t : Nat) (q : Req) (body : List Byte) (s v : State), v = s.clock t →
    8 ≤ body.length →
    v.canRun q.who = false →
    exec (.transactionArrive t q body) s =
      .next (match q.who with
        | .twb0 => (v.busGate q.who).wake .twb0
        | .hspi => (v.busGate q.who).wake .hspi
        | _ => v.busGate q.who)) ∧
  (∀ (t : Nat) (q : Req) (op : Nat) (b : Body) (u : State) (s v : State), v = s.clock t →
    between 1 5 (op % 256) = false →
    b = { op, tid := q.tid, index := 0x1000, sub := 0, len := 0, data := [] } →
    b.fits = true →
    v.free q b = true →
    u = v.working q b →
    exec (.unknownOp t q op) s =
      .next ((u.plain 5 []).sent q b))

/-- A written action acknowledges CRIMSON, forces a multiplexer, begins the retry of an output or a headphone, sends beacons,
requests a switch of a pair, releases the ring, triggers the housekeeping converter or makes an urgent request, raises the
minimum security version, trains memory again, clears a counter to 0, takes a snapshot on this device or the chain, or starts
the self-tests. (18_diagnostics.md, 10_outputs.md, 13_pairs.md, 15_housekeeping.md, 03_modes_power.md) -/
def Obligations.ActionsAct : Prop :=
  ∀ s : State,
    s.applyAction (itemOf 0x2000 6 1) = s.applyAck ∧
    (∀ i sub m, forceOf i sub = some m → s.applyAction (itemOf i sub 1) = s.forceSwitch m) ∧
    (∀ n, 1 ≤ n → n ≤ 48 → s.applyAction (itemOf (0x3100 + n) 0x0A 1) = s.beginRetry (.output n) fun _ => true) ∧
    (∀ n, 1 ≤ n → n ≤ 2 → s.applyAction (itemOf (0x3200 + n) 0x10 1) = s.beginRetry (.hp n) fun _ => true) ∧
    (∀ a, s.applyAction (itemOf 0x4000 0x0D a) = s.sendBeacons a) ∧
    (∀ p a, p < 16 → s.applyAction (itemOf (0x4110 + p) 6 a) = s.requestSwitch p a) ∧
    (s.paired = true →
      s.applyAction (itemOf 0x4100 0x0B 1) = s.mapPair fun p => { p with switchAt := some s.now }) ∧
    s.applyAction (itemOf 0x3A01 4 1) = s.ringRelease ∧
    s.applyAction (itemOf 0x2200 0x0B 1) = s.writeHk 0x0B 1 ∧
    (∀ a, s.applyAction (itemOf 0x2200 0x14 a) = s.writeHk 0x14 a) ∧
    s.applyAction (itemOf 0x2303 6 1) = s.wr 0x2303 5 (max (s.rd 0x2303 5) (s.rd 0x2303 4)) ∧
    s.applyAction (itemOf 0x3B00 0x0D 1) = s.doRetrain ∧
    (∀ n, n < 64 → s.applyAction (itemOf (0x2410 + n) 4 1) = s.setCounter n { s.counter n with count := 0 }) ∧
    s.applyAction (itemOf 0x2400 1 1) = s.takeSnap (s.rd 0x2400 3) false false ∧
    s.applyAction (itemOf 0x2400 4 1) = s.snapChain ∧
    s.applyAction (itemOf 0x2460 3 1) = s.runTests

/-- A new TARGET_MODE starts the way there; KEEP_OFF, REF_SCALE, LEADER, the housekeeping settings, a transport command, a share
request, OVER_LATCH and the jack settings act on their own unit, each by its index. CEILING and an ordinary object take the
written value, OVER_LATCH loses the bits written as 1, and COUNTER_SOURCE claims the counter and sets its count to 0.
(02_dictionary.md, 03_modes_power.md, 05_synthesizers.md, 15_housekeeping.md, 18_diagnostics.md) -/
def Obligations.SettingsAct : Prop :=
  ∀ s : State,
    (∀ a, a ≠ s.ms.mode.code →
      s.applyControl [itemOf 0x2000 2 a] 0x2000 [2] = s.applyTarget) ∧
    (∀ l p, p < 12 → s.applyControl l (0x2010 + p) [4] = s.applyKeepOff p) ∧
    (∀ l x, s.applyControl l (0x2104 + Syn.num x) [2] = s.applyRefScale x) ∧
    (∀ l k, k < 2 → s.applyControl l (0x2108 + k) [1] = s.applyLeader k) ∧
    (∀ l subs, s.applyControl l 0x2200 subs = s.applyHk subs) ∧
    (∀ k, k < 8 → s.applyPlane (0x3B60 + k) [1] = s.applyTransport k) ∧
    s.applyPlane 0x4003 [1] = s.askShare.startFlows ∧
    (∀ n subs, 1 ≤ n → n ≤ 48 → s.applyPlane (0x3000 + n) subs = s.applyInput n subs) ∧
    (∀ n subs, 1 ≤ n → n ≤ 2 → s.applyPlane (0x3200 + n) subs = s.applyHp n subs) ∧
    (∀ a, s.store (itemOf 0x2004 2 a) = s.wr 0x2004 2 a) ∧
    (∀ n a, 1 ≤ n → n ≤ 48 →
      s.store (itemOf (0x3000 + n) 0x0A a) =
        s.wr (0x3000 + n) 0x0A (s.rd (0x3000 + n) 0x0A - (s.rd (0x3000 + n) 0x0A &&& a))) ∧
    (∀ n a, n < 64 →
      s.store (itemOf (0x2410 + n) 1 a) = s.setCounter n { s.counter n with source := a, count := 0 })

/-- An index that is not present gives NO_OBJECT, a present index with an absent sub NO_SUB; then a right that the origin lacks
gives ACCESS_DENIED, a write of an RO or CONST object READ_ONLY and a read of a WO object WRITE_ONLY. The internal origin
holds every right. While LOCK is set, a write of 1020h.01 to 07h by an origin with the right gives READ_ONLY.
(02_dictionary.md) -/
def Obligations.AccessStatuses : Prop :=
  ∀ (s : State) (w : Requester) (write : Bool) (i sub : Nat),
    (indexPresent i = false → s.accessStatus w write i sub = 1) ∧
    (indexPresent i = true → rowOf i sub = none → s.accessStatus w write i sub = 2) ∧
    (∀ r, indexPresent i = true → rowOf i sub = some r →
      (s.mayAccess w write i = false → s.accessStatus w write i sub = 0x0A) ∧
      (s.mayAccess w write i = true →
        ((r.acc = .ro ∨ r.acc = .const) → write = true → s.accessStatus w write i sub = 3) ∧
        (r.acc = .wo → write = false → s.accessStatus w write i sub = 4) ∧
        (r.acc = .rw → write = false → s.accessStatus w write i sub = 0))) ∧
    s.mayAccess .internal write i = true ∧
    (s.rights.lock = true → s.mayAccess w true 0x1020 = true → 1 ≤ sub → sub ≤ 7 → s.accessStatus w true 0x1020 sub = 3)

/-- The tag byte holds V in bit 7, O in 6, S in 5, N in 4 and Q in 3, its bits 2:0 are written as 0, and reading a 24-in-4 word
ignores them. (R195) -/
def Obligations.TagByteLayout : Prop :=
  ∀ x : Sample,
    (tagByte x).testBit 7 = x.v ∧ (tagByte x).testBit 6 = x.o ∧ (tagByte x).testBit 5 = x.s ∧
    (tagByte x).testBit 4 = x.n ∧ (tagByte x).testBit 3 = x.q ∧ tagByte x % 8 = 0 ∧ tagByte x < 256 ∧
    ∀ u k, k < 8 → unpack 1 (8 * u + k) = unpack 1 (8 * u)

/-- A 24-bit code is sign-extended and multiplied by 16; a 24-in-4 word takes its tags from the tag byte, the other packings give
V=1 and no other tag; the code 800000h unpacks to −2^27 with O set. (R196) -/
def Obligations.UnpackRule : Prop :=
  ∀ u c : Nat, u < 2 ^ 24 → c < 256 →
    (unpack 0 u).w.toInt = (if u < 2 ^ 23 then (u : Int) else u - 2 ^ 24) * 16 ∧
    (unpack 1 (u * 256 + c)).w = (unpack 0 u).w ∧
    (unpack 0 u).v = true ∧ (unpack 0 u).o = (u == 0x800000) ∧ (unpack 0 u).s = false ∧ (unpack 0 u).n = false ∧
    (unpack 0 u).q = false ∧
    (unpack 1 (u * 256 + c)).v = c.testBit 7 ∧ (unpack 1 (u * 256 + c)).o = (c.testBit 6 || u == 0x800000) ∧
    (unpack 1 (u * 256 + c)).s = c.testBit 5 ∧ (unpack 1 (u * 256 + c)).n = c.testBit 4 ∧
    (unpack 1 (u * 256 + c)).q = c.testBit 3 ∧
    (unpack 0 0x800000).w.toInt = -2 ^ 27 ∧
    ∀ x : Nat, x < 2 ^ 32 →
      unpack 2 x = { w := BitVec.ofNat 32 x, v := true, o := false, s := false, n := false, q := false }

/-- The source points are those of the table: inputs, the two listening channels, serial receive slots, chain receive channels,
playback channels, lane outputs, buses, generators and ring playback; every other number is not present. (R197) -/
def Obligations.SourcePoints : Prop :=
  (∀ p, sourcePresent p = true ↔ p ≤ 0x31 ∨ 0x100 ≤ p ∧ p ≤ 0x817) ∧
    (∀ n, 1 ≤ n → n ≤ 48 → srcFunc (n - 1) = some (.input n)) ∧ srcFunc 0x30 = some .listen ∧
    srcFunc 0x31 = some .listen ∧
    (∀ port slot, port < 16 → slot < 32 → srcFunc (0x100 + port * 32 + slot) = some (.sapRx port)) ∧
    (∀ c, c < 512 → srcFunc (0x300 + c) = some (.flowRx (c / 16))) ∧
    (∀ c, c < 256 → srcFunc (0x500 + c) = some (.play c)) ∧
    (∀ n k, n < 128 → k < 2 → srcFunc (0x600 + n * 2 + k) = some (.lane n)) ∧
    (∀ b, b < 256 → srcFunc (0x700 + b) = some (.bus b)) ∧ (∀ g, g < 16 → srcFunc (0x800 + g) = none) ∧
    (∀ r, r < 8 → srcFunc (0x810 + r) = some (.reader r))

/-- Packing a sample into a 24-in-4 word and unpacking it gives the word rounded to a multiple of 16 and clamped to 7FFFFFh and
800001h, with the tags of the sample, and with O where it was clamped. (07_samples_router.md) -/
def Obligations.PackThenUnpack : Prop :=
  ∀ x : Sample,
    unpack 1 (pack 1 x).1 =
      { x with w := BitVec.ofInt 32 ((packCode 24 x.w).1 * 16), o := x.o || (packCode 24 x.w).2 } ∧
    -(2 ^ 23 - 1) ≤ (packCode 24 x.w).1 ∧ (packCode 24 x.w).1 ≤ 2 ^ 23 - 1 ∧
    ((packCode 24 x.w).2 = false →
      -8 ≤ (packCode 24 x.w).1 * 16 - x.w.toInt ∧ (packCode 24 x.w).1 * 16 - x.w.toInt ≤ 8)

/-- Sample i of a ramp over L samples from G0 to G1 has the gain G0 + (G1 − G0)(i + 1)/L dB, with mute at −100.00 dB and exactly 0
on the last sample of a ramp toward mute; from sample L on the gain is G1. Every step counts one sample until L; a change
during the ramp starts a new full ramp at the gain applied to the last sample. (09_mixing_meters.md) -/
def Obligations.GainRampLaw : Prop :=
  ∀ r : Ramp,
    (∀ i (a c : Rat), r.g0 = some a → r.g1 = some c → i < r.len →
      r.gainAt i = some (a + (c - a) * (i + 1) / r.len)) ∧
    (∀ i (a : Rat), r.g0 = some a → r.g1 = none → i + 1 < r.len →
      r.gainAt i = some (a + (-10000 - a) * (i + 1) / r.len)) ∧
    (∀ i (c : Rat), r.g0 = none → r.g1 = some c → i < r.len →
      r.gainAt i = some (-10000 + (c + 10000) * (i + 1) / r.len)) ∧
    (0 < r.len → r.g1 = none → r.gainAt (r.len - 1) = none) ∧
    (∀ i, r.len ≤ i → r.gainAt i = r.g1) ∧
    (∀ n, ((Nat.iterate Ramp.step n r).i = min (r.i + n) (max r.i r.len)) ∧ (Nat.iterate Ramp.step n r).len = r.len) ∧
    (∀ g len, 0 < len → (r.to g len).g1 = g ∧ (r.to g len).i = 0 ∧ (r.to g len).len = len) ∧
    (∀ g len, 0 < len → 0 < r.i → r.i < r.len → (r.to g len).g0 = r.gainAt (r.i - 1))

/-- An event adds one to every counter whose source names its code and either its raising index or FFFFh, unless the function is
under self-test; each other counter keeps its count. A counter at 2^48 − 1 stays there, and the one that reaches it sets
SATURATED. Sources never change. (18_diagnostics.md) -/
def Obligations.CountersCount : Prop :=
  (∀ (s : State) (code idx n : Nat), s.test.left = [] →
    (s.event code idx).counter n =
      if sourceHits (s.counter n).source code idx then
        { s.counter n with count := countUp (s.counter n).count }
      else s.counter n) ∧
  (∀ c : Nat,
    (c + 1 < 2 ^ 48 - 1 → countUp c = c + 1) ∧ countUp (2 ^ 48 - 2) = 2 ^ 63 + (2 ^ 48 - 1) ∧
    (2 ^ 48 - 1 ≤ c → countUp c = c) ∧ (c < 2 ^ 64 → countUp c < 2 ^ 64))

/-- A new entry takes HEAD_SEQ + 1 modulo 2^32, stands at the head of the on-chip ring, which keeps the newest 1024, and carries
the status and the value given; the entries before it stay in their order. An entry with a status other than OK counts
JOURNAL_REJECT (0Ch). The bytes of an entry are 32, the last four the CRC-32 of the first 28. (02_dictionary.md) -/
def Obligations.JournalEntries : Prop :=
  (∀ (s : State) (k : EntryKind) (o st n i sub : Nat) (h : Bool) (x : Nat),
    ((s.entry k o st n i sub h x).journal.head = (s.journal.head + 1) % 2 ^ 32) ∧
    (∃ e : Entry, (s.entry k o st n i sub h x).journal.ring = (e :: s.journal.ring).take 1024 ∧
      e.seq = (s.journal.head + 1) % 2 ^ 32 ∧ e.kind = k ∧ e.status = st ∧ e.index = i ∧ e.sub = sub ∧ e.value = x ∧
      e.time = s.ptp) ∧
    (st = 0 → (s.entry k o st n i sub h x).counters = s.counters) ∧
    (s.test.left = [] → st ≠ 0 → (s.entry k o st n i sub h x).counters = countAll s.counters 0x0C 0x1F00)) ∧
  (∀ e : Entry, e.bytes.length = 32 ∧ e.bytes.drop 28 = leBytes 4 (crc32 (e.bytes.take 28)))

/-- When a write of 1020h.01 to 06h takes effect, its mask takes the written value with bits 31:22 at 0, a read mask with bits 0
and 2 at 1; a write of 01h to 07h sets LOCK. Every other right stays as it was. (02_dictionary.md) -/
def Obligations.RightsWrites : Prop :=
  ∀ (s : State) (v : Nat),
    (s.applyWrites [itemOf 0x1020 1 v]).rights = { s.rights with chainWrite := BitVec.ofNat 32 (v % 2 ^ 22) } ∧
    (s.applyWrites [itemOf 0x1020 2 v]).rights = { s.rights with twb0Write := BitVec.ofNat 32 (v % 2 ^ 22) } ∧
    (s.applyWrites [itemOf 0x1020 3 v]).rights = { s.rights with hspiWrite := BitVec.ofNat 32 (v % 2 ^ 22) } ∧
    (s.applyWrites [itemOf 0x1020 4 v]).rights = { s.rights with chainRead := BitVec.ofNat 32 (v % 2 ^ 22) ||| 5 } ∧
    (s.applyWrites [itemOf 0x1020 5 v]).rights = { s.rights with twb0Read := BitVec.ofNat 32 (v % 2 ^ 22) ||| 5 } ∧
    (s.applyWrites [itemOf 0x1020 6 v]).rights = { s.rights with hspiRead := BitVec.ofNat 32 (v % 2 ^ 22) ||| 5 } ∧
    (s.applyWrites [itemOf 0x1020 7 1]).rights = { s.rights with lock := true }
end

