-- ==== Sys2Proof/Laws/Fixed.lean ====
section
/-!
SUPPORT. The part of the state that few commands write: the rights of 1020h and the queue of waiting commands. Every
operation of the model that is not named in Laws/Rights.lean leaves it as it was; one lemma for each says so.
-/

set_option autoImplicit false

namespace Sys2Proof.Machine

/-- The rights and the queue of waiting commands. -/
def State.fixed (s : State) : Rights × List Instr := (s.rights, s.pending)

/-- The same of the next state that an outcome answers. -/
def fixedOf (o : Host.Outcome State Fault Refusal) : Option (Rights × List Instr) :=
  match o with
  | .next u => some u.fixed
  | _ => none

@[simp] theorem fixedOf_next (u : State) : fixedOf (.next u) = some u.fixed := by rfl

@[simp] theorem State.fixed_pair (s : State) : (s.rights, s.pending) = s.fixed := by rfl

@[simp] theorem State.fixed_ite (c : Prop) [Decidable c] (a b : State) :
    (if c then a else b).fixed = if c then a.fixed else b.fixed := apply_ite State.fixed c a b

@[simp] theorem State.fixed_mk (a0 : Nat) (a1 : Int) (a2 : Nat) (a3 : Sparse Nat) (a4 : Sparse (List Byte)) (a5 : Rights)
    (a6 : Sparse FuncState) (a7 : ReqState) (a8 : ReqState) (a9 : ReqState) (a10 : List (Nat × ReqState)) (a11 : Nat) (a12 :
    List Part) (a13 : Journal) (a14 : ModeState) (a15 : Governor) (a16 : Avs) (a17 : Clocks) (a18 : Option Snap) (a19 :
    Sparse Counter) (a20 : TestState) (a21 : Sparse InputCh) (a22 : Sparse RefGroup) (a23 : Phantom) (a24 : Router) (a25 :
    Sparse LaneState) (a26 : SlackWin) (a27 : Sparse BusState) (a28 : Sparse Meter) (a29 : Sparse LinkState) (a30 : Sparse
    DelayLine) (a31 : Outputs) (a32 : Sparse SapDirSt) (a33 : Net) (a34 : PairMember) (a35 : Sparse ArbPair) (a36 : Listen)
    (a37 : Ring) (a38 : Sparse Reader) (a39 : Hk) (a40 : HostPorts) (a41 : Boot) (a42 : Mem) (a43 : List Instr) :
    (State.mk a0 a1 a2 a3 a4 a5 a6 a7 a8 a9 a10 a11 a12 a13 a14 a15 a16 a17 a18 a19 a20 a21 a22 a23 a24 a25 a26 a27 a28 a29
    a30 a31 a32 a33 a34 a35 a36 a37 a38 a39 a40 a41 a42 a43).fixed = (a5, a43) := by rfl

@[simp] theorem State.fixed_ite_fst {β : Type} (c : Prop) [Decidable c] (a b : State × β) :
    (if c then a else b).1.fixed = if c then a.1.fixed else b.1.fixed := by split <;> rfl

@[simp] theorem State.fixed_ite_snd {β : Type} (c : Prop) [Decidable c] (a b : β × State) :
    (if c then a else b).2.fixed = if c then a.2.fixed else b.2.fixed := by split <;> rfl

/-- A fold of an operation that keeps the part keeps it. -/
@[simp] theorem foldl_fixed {α : Type} (f : State → α → State) (l : List α) (s : State) (h : ∀ u x, (f u x).fixed = u.fixed) :
    (l.foldl f s).fixed = s.fixed := by
  induction l generalizing s with
  | nil => rfl
  | cons x l ih => rw [List.foldl_cons, ih, h]

/-- The same for a fold that carries something beside the state. -/
@[simp] theorem foldl_snd_fixed {α β : Type} (f : β × State → α → β × State) (l : List α) (a : β × State)
    (h : ∀ u x, (f u x).2.fixed = u.2.fixed) : (l.foldl f a).2.fixed = a.2.fixed := by
  induction l generalizing a with
  | nil => rfl
  | cons x l ih => rw [List.foldl_cons, ih, h]

@[simp] theorem foldl_fst_fixed {α β : Type} (f : State × β → α → State × β) (l : List α) (a : State × β)
    (h : ∀ u x, (f u x).1.fixed = u.1.fixed) : (l.foldl f a).1.fixed = a.1.fixed := by
  induction l generalizing a with
  | nil => rfl
  | cons x l ih => rw [List.foldl_cons, ih, h]

end Sys2Proof.Machine
end

