-- ==== Sys2Proof/Laws/FixedOps.lean ====
section
/-!
SUPPORT. The operations of Machine/Ops.lean leave the rights and the queue of commands as they were.
-/

set_option autoImplicit false

namespace Sys2Proof.Machine

@[simp] theorem State.clock_fixed (x0 : State) (x1 : ℕ) :
    (State.clock x0 x1).fixed = x0.fixed := by
  simp [State.clock]

@[simp] theorem State.wr_fixed (x0 : State) (x1 : ℕ) (x2 : ℕ) (x3 : ℕ) :
    (State.wr x0 x1 x2 x3).fixed = x0.fixed := by
  simp [State.wr]

@[simp] theorem State.bumpBy_fixed (x0 : State) (x1 : ℕ) (x2 : ℕ) (x3 : ℕ) :
    (State.bumpBy x0 x1 x2 x3).fixed = x0.fixed := by
  simp [State.bumpBy]

@[simp] theorem State.bump_fixed (x0 : State) (x1 : ℕ) (x2 : ℕ) :
    (State.bump x0 x1 x2).fixed = x0.fixed := by
  simp [State.bump]

@[simp] theorem State.wrBit_fixed (x0 : State) (x1 : ℕ) (x2 : ℕ) (x3 : ℕ) (x4 : Bool) :
    (State.wrBit x0 x1 x2 x3 x4).fixed = x0.fixed := by
  simp [State.wrBit]

@[simp] theorem State.draw_fixed (x0 : State) (x1 : ℕ) :
    (State.draw x0 x1).2.fixed = x0.fixed := by
  simp [State.draw]

@[simp] theorem State.setFn_fixed (x0 : State) (x1 : Func) (x2 : FuncState) :
    (State.setFn x0 x1 x2).fixed = x0.fixed := by
  simp [State.setFn]

@[simp] theorem State.setInp_fixed (x0 : State) (x1 : ℕ) (x2 : InputCh) :
    (State.setInp x0 x1 x2).fixed = x0.fixed := by
  simp [State.setInp]

@[simp] theorem State.setRef_fixed (x0 : State) (x1 : ℕ) (x2 : RefGroup) :
    (State.setRef x0 x1 x2).fixed = x0.fixed := by
  simp [State.setRef]

@[simp] theorem State.setRoute_fixed (x0 : State) (x1 : ℕ) (x2 : RouteState) :
    (State.setRoute x0 x1 x2).fixed = x0.fixed := by
  simp [State.setRoute]

@[simp] theorem State.setSink_fixed (x0 : State) (x1 : ℕ) (x2 : Sample) :
    (State.setSink x0 x1 x2).fixed = x0.fixed := by
  simp [State.setSink]

@[simp] theorem State.setSrc_fixed (x0 : State) (x1 : ℕ) (x2 : Sample) :
    (State.setSrc x0 x1 x2).fixed = x0.fixed := by
  simp [State.setSrc]

@[simp] theorem State.setAsrc_fixed (x0 : State) (x1 : ℕ) (x2 : Option AsrcCh) :
    (State.setAsrc x0 x1 x2).fixed = x0.fixed := by
  simp [State.setAsrc]

@[simp] theorem State.setDom_fixed (x0 : State) (x1 : ℕ) (x2 : DomState) :
    (State.setDom x0 x1 x2).fixed = x0.fixed := by
  simp [State.setDom]

@[simp] theorem State.setGen_fixed (x0 : State) (x1 : ℕ) (x2 : GenState) :
    (State.setGen x0 x1 x2).fixed = x0.fixed := by
  simp [State.setGen]

@[simp] theorem State.setLane_fixed (x0 : State) (x1 : ℕ) (x2 : LaneState) :
    (State.setLane x0 x1 x2).fixed = x0.fixed := by
  simp [State.setLane]

@[simp] theorem State.setBus_fixed (x0 : State) (x1 : ℕ) (x2 : BusState) :
    (State.setBus x0 x1 x2).fixed = x0.fixed := by
  simp [State.setBus]

@[simp] theorem State.setMeter_fixed (x0 : State) (x1 : ℕ) (x2 : Meter) :
    (State.setMeter x0 x1 x2).fixed = x0.fixed := by
  simp [State.setMeter]

@[simp] theorem State.setLink_fixed (x0 : State) (x1 : ℕ) (x2 : LinkState) :
    (State.setLink x0 x1 x2).fixed = x0.fixed := by
  simp [State.setLink]

@[simp] theorem State.setLine_fixed (x0 : State) (x1 : ℕ) (x2 : DelayLine) :
    (State.setLine x0 x1 x2).fixed = x0.fixed := by
  simp [State.setLine]

@[simp] theorem State.setOut_fixed (x0 : State) (x1 : ℕ) (x2 : OutCh) :
    (State.setOut x0 x1 x2).fixed = x0.fixed := by
  simp [State.setOut]

@[simp] theorem State.setHp_fixed (x0 : State) (x1 : ℕ) (x2 : HpCh) :
    (State.setHp x0 x1 x2).fixed = x0.fixed := by
  simp [State.setHp]

@[simp] theorem State.setPwm_fixed (x0 : State) (x1 : ℕ) (x2 : PwmCh) :
    (State.setPwm x0 x1 x2).fixed = x0.fixed := by
  simp [State.setPwm]

@[simp] theorem State.setSap_fixed (x0 : State) (x1 : ℕ) (x2 : SapDir) (x3 : SapDirSt) :
    (State.setSap x0 x1 x2 x3).fixed = x0.fixed := by
  simp [State.setSap]

@[simp] theorem State.setTx_fixed (x0 : State) (x1 : ℕ) (x2 : FlowTxSt) :
    (State.setTx x0 x1 x2).fixed = x0.fixed := by
  simp [State.setTx]

@[simp] theorem State.setRx_fixed (x0 : State) (x1 : ℕ) (x2 : FlowRxSt) :
    (State.setRx x0 x1 x2).fixed = x0.fixed := by
  simp [State.setRx]

@[simp] theorem State.setArb_fixed (x0 : State) (x1 : ℕ) (x2 : ArbPair) :
    (State.setArb x0 x1 x2).fixed = x0.fixed := by
  simp [State.setArb]

@[simp] theorem State.setReader_fixed (x0 : State) (x1 : ℕ) (x2 : Reader) :
    (State.setReader x0 x1 x2).fixed = x0.fixed := by
  simp [State.setReader]

@[simp] theorem State.setCap_fixed (x0 : State) (x1 : ℕ) (x2 : CapBuf) :
    (State.setCap x0 x1 x2).fixed = x0.fixed := by
  simp [State.setCap]

@[simp] theorem State.setPlay_fixed (x0 : State) (x1 : ℕ) (x2 : PlayCh) :
    (State.setPlay x0 x1 x2).fixed = x0.fixed := by
  simp [State.setPlay]

@[simp] theorem State.setTransport_fixed (x0 : State) (x1 : ℕ) (x2 : Transport) :
    (State.setTransport x0 x1 x2).fixed = x0.fixed := by
  simp [State.setTransport]

@[simp] theorem State.setMux_fixed (x0 : State) (x1 : ℕ) (x2 : MuxState) :
    (State.setMux x0 x1 x2).fixed = x0.fixed := by
  simp [State.setMux]

@[simp] theorem State.switchMux_fixed (x0 : State) (x1 : Mux) (x2 : ℕ) :
    (State.switchMux x0 x1 x2).fixed = x0.fixed := by
  simp [State.switchMux]

@[simp] theorem State.setSyn_fixed (x0 : State) (x1 : Syn) (x2 : SynState) :
    (State.setSyn x0 x1 x2).fixed = x0.fixed := by
  unfold State.setSyn
  split <;> simp

@[simp] theorem State.setCko_fixed (x0 : State) (x1 : ℕ) (x2 : CkoSt) :
    (State.setCko x0 x1 x2).fixed = x0.fixed := by
  simp [State.setCko]

@[simp] theorem State.setCounter_fixed (x0 : State) (x1 : ℕ) (x2 : Counter) :
    (State.setCounter x0 x1 x2).fixed = x0.fixed := by
  simp [State.setCounter]

@[simp] theorem State.mapMs_fixed (x0 : State) (x1 : ModeState → ModeState) :
    (State.mapMs x0 x1).fixed = x0.fixed := by
  simp [State.mapMs]

@[simp] theorem State.mapNet_fixed (x0 : State) (x1 : Net → Net) :
    (State.mapNet x0 x1).fixed = x0.fixed := by
  simp [State.mapNet]

@[simp] theorem State.setPort_fixed (x0 : State) (x1 : ChPort) (x2 : PortSt) :
    (State.setPort x0 x1 x2).fixed = x0.fixed := by
  unfold State.setPort
  split <;> simp

@[simp] theorem State.emit_fixed (x0 : State) (x1 : Sent) :
    (State.emit x0 x1).fixed = x0.fixed := by
  simp [State.emit]

@[simp] theorem State.send_fixed (x0 : State) (x1 : Sent) :
    (State.send x0 x1).fixed = x0.fixed := by
  unfold State.send
  split <;> simp

@[simp] theorem State.event_fixed (x0 : State) (x1 : ℕ) (x2 : ℕ) :
    (State.event x0 x1 x2).fixed = x0.fixed := by
  unfold State.event
  split <;> simp

@[simp] theorem State.latch_fixed (x0 : State) (x1 : ℕ) :
    (State.latch x0 x1).fixed = x0.fixed := by
  simp [State.latch]

@[simp] theorem State.entryAt_fixed (x0 : State) (x1 : ℕ) (x2 : EntryKind) (x3 : ℕ) (x4 : ℕ) (x5 : ℕ) (x6 : ℕ) (x7 : ℕ) (x8 : Bool) (x9 : ℕ) :
    (State.entryAt x0 x1 x2 x3 x4 x5 x6 x7 x8 x9).fixed = x0.fixed := by
  simp [State.entryAt]

@[simp] theorem State.entry_fixed (x0 : State) (x1 : EntryKind) (x2 : ℕ) (x3 : ℕ) (x4 : ℕ) (x5 : ℕ) (x6 : ℕ) (x7 : Bool) (x8 : ℕ) :
    (State.entry x0 x1 x2 x3 x4 x5 x6 x7 x8).fixed = x0.fixed := by
  simp [State.entry]

@[simp] theorem State.setReq_fixed (x0 : State) (x1 : Requester) (x2 : ReqState) :
    (State.setReq x0 x1 x2).fixed = x0.fixed := by
  unfold State.setReq
  split <;> simp

@[simp] theorem State.setEntry_fixed (x0 : State) (x1 : EntryKind) (x2 : Requester) (x3 : ℕ) (x4 : ℕ) (x5 : ℕ) (x6 : ℕ) (x7 : ℕ) :
    (State.setEntry x0 x1 x2 x3 x4 x5 x6 x7).fixed = x0.fixed := by
  simp [State.setEntry]

@[simp] theorem State.abandonPart_fixed (x0 : State) (x1 : Part) :
    (State.abandonPart x0 x1).fixed = x0.fixed := by
  simp [State.abandonPart]

@[simp] theorem State.abandonParts_fixed (x0 : State) (x1 : ℕ) :
    (State.abandonParts x0 x1).fixed = x0.fixed := by
  simp [State.abandonParts]

end Sys2Proof.Machine
end

