-- ==== Sys2Proof/Laws/FixedFunctions.lean ====
section
/-!
SUPPORT. The operations of Machine/Functions.lean leave the rights and the queue of commands as they were.
-/

set_option autoImplicit false

namespace Sys2Proof.Machine

@[simp] theorem State.offFn_fixed (x0 : State) (x1 : Func) :
    (State.offFn x0 x1).fixed = x0.fixed := by
  simp [State.offFn]

@[simp] theorem State.gateFn_fixed (x0 : State) (x1 : Func) :
    (State.gateFn x0 x1).fixed = x0.fixed := by
  simp [State.gateFn]

@[simp] theorem State.discardStaged_fixed (x0 : State) (x1 : Func) :
    (State.discardStaged x0 x1).fixed = x0.fixed := by
  simp [State.discardStaged]

@[simp] theorem State.stopFn_fixed (x0 : State) (x1 : Func) :
    (State.stopFn x0 x1).fixed = x0.fixed := by
  simp [State.stopFn]

@[simp] theorem State.faultFn_fixed (x0 : State) (x1 : Func) :
    (State.faultFn x0 x1).fixed = x0.fixed := by
  simp [State.faultFn]

end Sys2Proof.Machine
end

