-- ==== Sys2Proof/Laws/FixedMux.lean ====
section
/-!
SUPPORT. The operations of Machine/Mux.lean leave the rights and the queue of commands as they were.
-/

set_option autoImplicit false

namespace Sys2Proof.Machine

@[simp] theorem State.askMux_fixed (x0 : State) (x1 : Mux) (x2 : ℕ) :
    (State.askMux x0 x1 x2).fixed = x0.fixed := by
  simp [State.askMux]

@[simp] theorem State.forceMux_fixed (x0 : State) (x1 : Mux) (x2 : ℕ) :
    (State.forceMux x0 x1 x2).fixed = x0.fixed := by
  simp [State.forceMux]

@[simp] theorem State.autoMux_fixed (x0 : State) :
    (State.autoMux x0).fixed = x0.fixed := by
  simp [State.autoMux]

end Sys2Proof.Machine
end

