-- ==== Sys2Proof/Laws/FixedInputs.lean ====
section
/-!
SUPPORT. The operations of Machine/Inputs.lean leave the rights and the queue of commands as they were.
-/

set_option autoImplicit false

namespace Sys2Proof.Machine

@[simp] theorem State.inPhantom_fixed (x0 : State) (x1 : ℕ) :
    (State.inPhantom x0 x1).fixed = x0.fixed := by
  simp [State.inPhantom]

@[simp] theorem State.rephantom_fixed (x0 : State) (x1 : State) (x2 : ℕ) :
    (State.rephantom x0 x1 x2).fixed = x1.fixed := by
  simp [State.rephantom]

@[simp] theorem State.applyInput_fixed (x0 : State) (x1 : ℕ) (x2 : List ℕ) :
    (State.applyInput x0 x1 x2).fixed = x0.fixed := by
  simp [State.applyInput]

@[simp] theorem State.refOn_fixed (x0 : State) (x1 : ℕ) :
    (State.refOn x0 x1).fixed = x0.fixed := by
  simp [State.refOn]

@[simp] theorem State.startInput_fixed (x0 : State) (x1 : ℕ) :
    (State.startInput x0 x1).fixed = x0.fixed := by
  simp [State.startInput]

@[simp] theorem State.haltInput_fixed (x0 : State) (x1 : ℕ) :
    (State.haltInput x0 x1).fixed = x0.fixed := by
  simp [State.haltInput]

@[simp] theorem State.rampInput_fixed (x0 : State) (x1 : ℕ) :
    (State.rampInput x0 x1).fixed = x0.fixed := by
  simp [State.rampInput]

@[simp] theorem State.refOff_fixed (x0 : State) (x1 : ℕ) :
    (State.refOff x0 x1).fixed = x0.fixed := by
  simp [State.refOff]

@[simp] theorem State.refsOff_fixed (x0 : State) :
    (State.refsOff x0).fixed = x0.fixed := by
  simp [State.refsOff]

@[simp] theorem State.inputClip_fixed (x0 : State) (x1 : ℕ) (x2 : Bool) (x3 : Bool) :
    (State.inputClip x0 x1 x2 x3).fixed = x0.fixed := by
  simp [State.inputClip]

@[simp] theorem State.inputRampIn_fixed (x0 : State) (x1 : ℕ) :
    (State.inputRampIn x0 x1).fixed = x0.fixed := by
  simp [State.inputRampIn]

@[simp] theorem State.inputWaits_fixed (x0 : State) (x1 : List InConv) (x2 : ℕ) :
    (State.inputWaits x0 x1 x2).fixed = x0.fixed := by
  simp [State.inputWaits]

@[simp] theorem State.tickInput_fixed (x0 : State) (x1 : List InConv) (x2 : ℕ) :
    (State.tickInput x0 x1 x2).fixed = x0.fixed := by
  simp [State.tickInput]

@[simp] theorem State.tickIdleInputs_fixed (x0 : State) (x1 : ℕ) :
    (State.tickIdleInputs x0 x1).fixed = x0.fixed := by
  simp [State.tickIdleInputs]

@[simp] theorem State.overLatch_fixed (x0 : State) (x1 : ℕ) (x2 : ℕ) :
    (State.overLatch x0 x1 x2).fixed = x0.fixed := by
  simp [State.overLatch]

@[simp] theorem State.markNeighbours_fixed (x0 : State) (x1 : ℕ) :
    (State.markNeighbours x0 x1).fixed = x0.fixed := by
  simp [State.markNeighbours]

@[simp] theorem execCombinerCrossfade_fixed (x0 : ℕ) (x1 : ℕ) (x2 : State) :
    fixedOf (execCombinerCrossfade x0 x1 x2) = some x2.fixed := by
  unfold execCombinerCrossfade
  simp only []
  split <;> simp

@[simp] theorem execCombinerReturn_fixed (x0 : ℕ) (x1 : ℕ) (x2 : State) :
    fixedOf (execCombinerReturn x0 x1 x2) = some x2.fixed := by
  unfold execCombinerReturn
  simp only []
  split <;> simp

@[simp] theorem execInputOverload_fixed (x0 : ℕ) (x1 : ℕ) (x2 : State) :
    fixedOf (execInputOverload x0 x1 x2) = some x2.fixed := by
  unfold execInputOverload
  simp only []
  split <;> simp

@[simp] theorem execInputOverloadRecovery_fixed (x0 : ℕ) (x1 : ℕ) (x2 : State) :
    fixedOf (execInputOverloadRecovery x0 x1 x2) = some x2.fixed := by
  unfold execInputOverloadRecovery
  simp only []
  split <;> simp

@[simp] theorem execInputClampEngage_fixed (x0 : ℕ) (x1 : ℕ) (x2 : State) :
    fixedOf (execInputClampEngage x0 x1 x2) = some x2.fixed := by
  unfold execInputClampEngage
  simp only []
  split <;> simp

@[simp] theorem execInputClampRelease_fixed (x0 : ℕ) (x1 : ℕ) (x2 : State) :
    fixedOf (execInputClampRelease x0 x1 x2) = some x2.fixed := by
  unfold execInputClampRelease
  simp only []
  split <;> simp

@[simp] theorem execReferenceSettled_fixed (x0 : ℕ) (x1 : ℕ) (x2 : State) :
    fixedOf (execReferenceSettled x0 x1 x2) = some x2.fixed := by
  unfold execReferenceSettled
  simp only []
  split <;> simp

@[simp] theorem execRefFault_fixed (x0 : ℕ) (x1 : ℕ) (x2 : State) :
    fixedOf (execRefFault x0 x1 x2) = some x2.fixed := by
  unfold execRefFault
  simp only []
  split <;> simp

@[simp] theorem execRefRecover_fixed (x0 : ℕ) (x1 : ℕ) (x2 : State) :
    fixedOf (execRefRecover x0 x1 x2) = some x2.fixed := by
  unfold execRefRecover
  simp only []
  split <;> simp

@[simp] theorem State.phBack_fixed (x0 : State) (x1 : ℕ) :
    (State.phBack x0 x1).fixed = x0.fixed := by
  simp [State.phBack]

@[simp] theorem State.phChannel_fixed (x0 : State) (x1 : ℕ) (x2 : Bool) :
    (State.phChannel x0 x1 x2).fixed = x0.fixed := by
  simp [State.phChannel]

@[simp] theorem State.phFrame_fixed (x0 : State) (x1 : ℕ) :
    (State.phFrame x0 x1).fixed = x0.fixed := by
  simp [State.phFrame]

@[simp] theorem execPhantomFrame_fixed (x0 : ℕ) (x1 : ℕ) (x2 : State) :
    fixedOf (execPhantomFrame x0 x1 x2) = some x2.fixed := by
  unfold execPhantomFrame
  simp only []
  split <;> simp

@[simp] theorem execPhAlert_fixed (x0 : ℕ) (x1 : List ℕ) (x2 : State) :
    fixedOf (execPhAlert x0 x1 x2) = some x2.fixed := by
  unfold execPhAlert
  simp only []
  split <;> simp

@[simp] theorem execPhSettleEnd_fixed (x0 : ℕ) (x1 : ℕ) (x2 : State) :
    fixedOf (execPhSettleEnd x0 x1 x2) = some x2.fixed := by
  unfold execPhSettleEnd
  simp only []
  split <;> simp

@[simp] theorem State.phClear_fixed (x0 : State) :
    (State.phClear x0).fixed = x0.fixed := by
  simp [State.phClear]

end Sys2Proof.Machine
end

