-- ==== Sys2Proof/Laws/FixedRouter.lean ====
section
/-!
SUPPORT. The operations of Machine/Router.lean leave the rights and the queue of commands as they were.
-/

set_option autoImplicit false

namespace Sys2Proof.Machine

@[simp] theorem State.restartMeters_fixed (x0 : State) (x1 : ℕ) :
    (State.restartMeters x0 x1).fixed = x0.fixed := by
  simp [State.restartMeters]

@[simp] theorem State.restartTaps_fixed (x0 : State) (x1 : ℕ) :
    (State.restartTaps x0 x1).fixed = x0.fixed := by
  simp [State.restartTaps]

@[simp] theorem State.rerouteMeter_fixed (x0 : State) (x1 : State) (x2 : ℕ) :
    (State.rerouteMeter x0 x1 x2).fixed = x1.fixed := by
  simp [State.rerouteMeter]

@[simp] theorem State.grant_fixed (x0 : State) (x1 : Claim) :
    (State.grant x0 x1).fixed = x0.fixed := by
  unfold State.grant
  simp only []
  repeat' split
  all_goals simp

@[simp] theorem State.grantAll_fixed (x0 : State) :
    (State.grantAll x0).fixed = x0.fixed := by
  simp [State.grantAll]

@[simp] theorem State.sweep_fixed (x0 : State) :
    (State.sweep x0).fixed = x0.fixed := by
  simp [State.sweep]

@[simp] theorem State.asrcOut_fixed (x0 : State) (x1 : AsrcCh) (x2 : ℕ) :
    (State.asrcOut x0 x1 x2).2.fixed = x0.fixed := by
  simp [State.asrcOut]

@[simp] theorem State.foreignIn_fixed (x0 : State) (x1 : ℕ) (x2 : Sample) :
    (State.foreignIn x0 x1 x2).fixed = x0.fixed := by
  simp [State.foreignIn]

@[simp] theorem State.tickAsrc_fixed (x0 : State) (x1 : ℕ) :
    (State.tickAsrc x0 x1).fixed = x0.fixed := by
  simp [State.tickAsrc]

@[simp] theorem State.sinkIn_fixed (x0 : State) (x1 : ℕ) (x2 : Sample) :
    (State.sinkIn x0 x1 x2).fixed = x0.fixed := by
  simp [State.sinkIn]

@[simp] theorem State.takeSink_fixed (x0 : State) (x1 : ℕ) (x2 : ℕ) :
    (State.takeSink x0 x1 x2).2.fixed = x0.fixed := by
  unfold State.takeSink
  split <;> simp

@[simp] theorem State.cutRoute_fixed (x0 : State) (x1 : ℕ) (x2 : ℕ) :
    (State.cutRoute x0 x1 x2).fixed = x0.fixed := by
  simp [State.cutRoute]

@[simp] theorem State.startRoute_fixed (x0 : State) (x1 : ℕ) :
    (State.startRoute x0 x1).fixed = x0.fixed := by
  simp [State.startRoute]

@[simp] theorem State.applyRoute_fixed (x0 : State) (x1 : ℕ) :
    (State.applyRoute x0 x1).fixed = x0.fixed := by
  simp [State.applyRoute]

@[simp] theorem State.tickRoute_fixed (x0 : State) (x1 : ℕ) :
    (State.tickRoute x0 x1).fixed = x0.fixed := by
  simp [State.tickRoute]

@[simp] theorem State.tickForeign_fixed (x0 : State) (x1 : ℕ) :
    (State.tickForeign x0 x1).fixed = x0.fixed := by
  simp [State.tickForeign]

@[simp] theorem execCrossfadeEnd_fixed (x0 : ℕ) (x1 : ℕ) (x2 : State) :
    fixedOf (execCrossfadeEnd x0 x1 x2) = some x2.fixed := by
  unfold execCrossfadeEnd
  simp only []
  repeat' split
  all_goals simp

@[simp] theorem State.applyGen_fixed (x0 : State) (x1 : ℕ) (x2 : List ℕ) :
    (State.applyGen x0 x1 x2).fixed = x0.fixed := by
  simp [State.applyGen]

@[simp] theorem State.tickGen_fixed (x0 : State) (x1 : ℕ) :
    (State.tickGen x0 x1).fixed = x0.fixed := by
  simp [State.tickGen]

@[simp] theorem State.tickGens_fixed (x0 : State) (x1 : ℕ) :
    (State.tickGens x0 x1).fixed = x0.fixed := by
  simp [State.tickGens]

@[simp] theorem State.startDom_fixed (x0 : State) (x1 : ℕ) :
    (State.startDom x0 x1).fixed = x0.fixed := by
  simp [State.startDom]

@[simp] theorem State.stopDom_fixed (x0 : State) (x1 : ℕ) :
    (State.stopDom x0 x1).fixed = x0.fixed := by
  simp [State.stopDom]

@[simp] theorem execAsrcAcquired_fixed (x0 : ℕ) (x1 : ℕ) (x2 : State) :
    fixedOf (execAsrcAcquired x0 x1 x2) = some x2.fixed := by
  unfold execAsrcAcquired
  simp only []
  repeat' split
  all_goals simp

@[simp] theorem execAsrcUnlock_fixed (x0 : ℕ) (x1 : ℕ) (x2 : State) :
    fixedOf (execAsrcUnlock x0 x1 x2) = some x2.fixed := by
  unfold execAsrcUnlock
  simp only []
  repeat' split
  all_goals simp

end Sys2Proof.Machine
end

