-- ==== Sys2Proof/Laws/FixedOperands.lean ====
section
/-!
SUPPORT. The operations of Machine/Operands.lean leave the rights and the queue of commands as they were.
-/

set_option autoImplicit false

namespace Sys2Proof.Machine

@[simp] theorem State.setBlock_fixed (x0 : State) (x1 : ℕ) (x2 : List Byte) :
    (State.setBlock x0 x1 x2).fixed = x0.fixed := by
  simp [State.setBlock]

end Sys2Proof.Machine
end

