-- ==== Sys2Proof/Laws/FixedFabric.lean ====
section
/-!
SUPPORT. The operations of Machine/Fabric.lean leave the rights and the queue of commands as they were.
-/

set_option autoImplicit false

namespace Sys2Proof.Machine

@[simp] theorem State.grantPages_fixed (x0 : State) (x1 : ℕ → Bool) (x2 : List (ℕ × List Byte)) :
    (State.grantPages x0 x1 x2).fixed = x0.fixed := by
  simp [State.grantPages]

@[simp] theorem State.rollSlack_fixed (x0 : State) :
    (State.rollSlack x0).fixed = x0.fixed := by
  simp [State.rollSlack]

@[simp] theorem State.noteSlack_fixed (x0 : State) (x1 : ℕ) (x2 : ℕ) :
    (State.noteSlack x0 x1 x2).fixed = x0.fixed := by
  simp [State.noteSlack]

@[simp] theorem execLaneFrameFinish_fixed (x0 : ℕ) (x1 : ℕ) (x2 : State) :
    fixedOf (execLaneFrameFinish x0 x1 x2) = some x2.fixed := by
  unfold execLaneFrameFinish
  simp only []
  split <;> simp

@[simp] theorem State.lateLane_fixed (x0 : State) (x1 : ℕ) :
    (State.lateLane x0 x1).fixed = x0.fixed := by
  simp [State.lateLane]

@[simp] theorem State.keepLane_fixed (x0 : State) (x1 : ℕ) :
    (State.keepLane x0 x1).fixed = x0.fixed := by
  simp [State.keepLane]

@[simp] theorem State.settleLane_fixed (x0 : State) (x1 : ℕ) :
    (State.settleLane x0 x1).fixed = x0.fixed := by
  simp [State.settleLane]

@[simp] theorem State.presentLane_fixed (x0 : State) (x1 : ℕ) :
    (State.presentLane x0 x1).fixed = x0.fixed := by
  simp [State.presentLane]

@[simp] theorem State.feedLane_fixed (x0 : State) (x1 : ℕ) :
    (State.feedLane x0 x1).fixed = x0.fixed := by
  simp [State.feedLane]

@[simp] theorem State.startLane_fixed (x0 : State) (x1 : ℕ) :
    (State.startLane x0 x1).fixed = x0.fixed := by
  simp [State.startLane]

@[simp] theorem State.restLane_fixed (x0 : State) (x1 : ℕ) :
    (State.restLane x0 x1).fixed = x0.fixed := by
  simp [State.restLane]

@[simp] theorem State.applyLive_fixed (x0 : State) (x1 : ℕ) (x2 : List ℕ) :
    (State.applyLive x0 x1 x2).fixed = x0.fixed := by
  unfold State.applyLive
  simp only []
  repeat' first | (simp; done) | refine (foldl_fixed _ _ _ (fun u x => ?_)).trans ?_ | split | simp only [fixedOf_next, Option.some.injEq]

@[simp] theorem State.placeRecipe_fixed (x0 : State) (x1 : ℕ) (x2 : List ℕ) (x3 : List Byte) :
    (State.placeRecipe x0 x1 x2 x3).fixed = x0.fixed := by
  simp [State.placeRecipe]

@[simp] theorem State.installRecipe_fixed (x0 : State) (x1 : ℕ) (x2 : List ℕ) (x3 : List Byte) :
    (State.installRecipe x0 x1 x2 x3).fixed = x0.fixed := by
  unfold State.installRecipe
  simp only []
  split <;> simp

@[simp] theorem State.applyPatch_fixed (x0 : State) (x1 : ℕ) (x2 : List Byte) :
    (State.applyPatch x0 x1 x2).fixed = x0.fixed := by
  unfold State.applyPatch
  split <;> simp

@[simp] theorem State.applyLane_fixed (x0 : State) (x1 : ℕ) (x2 : List ℕ) (x3 : Option (List Byte)) (x4 : Option (List Byte)) :
    (State.applyLane x0 x1 x2 x3 x4).fixed = x0.fixed := by
  unfold State.applyLane
  repeat' split
  all_goals simp

@[simp] theorem State.clearLanes_fixed (x0 : State) (x1 : ℕ) (x2 : ℕ) :
    (State.clearLanes x0 x1 x2).fixed = x0.fixed := by
  simp [State.clearLanes]

end Sys2Proof.Machine
end

