-- ==== Sys2Proof/Laws/FixedMixing.lean ====
section
/-!
SUPPORT. The operations of Machine/Mixing.lean leave the rights and the queue of commands as they were.
-/

set_option autoImplicit false

namespace Sys2Proof.Machine

@[simp] theorem State.startBus_fixed (x0 : State) (x1 : ℕ) :
    (State.startBus x0 x1).fixed = x0.fixed := by
  simp [State.startBus]

@[simp] theorem State.rampBus_fixed (x0 : State) (x1 : ℕ) :
    (State.rampBus x0 x1).fixed = x0.fixed := by
  simp [State.rampBus]

@[simp] theorem State.applyBus_fixed (x0 : State) (x1 : ℕ) (x2 : List ℕ) :
    (State.applyBus x0 x1 x2).fixed = x0.fixed := by
  simp [State.applyBus]

@[simp] theorem State.computeBus_fixed (x0 : State) (x1 : ℕ) :
    (State.computeBus x0 x1).fixed = x0.fixed := by
  simp [State.computeBus]

@[simp] theorem State.presentBus_fixed (x0 : State) (x1 : List ℕ) (x2 : ℕ) :
    (State.presentBus x0 x1 x2).fixed = x0.fixed := by
  simp [State.presentBus]

@[simp] theorem State.busSettings_fixed (x0 : State) :
    (State.busSettings x0).fixed = x0.fixed := by
  simp [State.busSettings]

@[simp] theorem State.tickMeters_fixed (x0 : State) (x1 : ℕ) :
    (State.tickMeters x0 x1).fixed = x0.fixed := by
  unfold State.tickMeters
  refine (foldl_fixed _ _ _ (fun u x => ?_)).trans (by simp)
  repeat' split
  all_goals simp

@[simp] theorem State.publishMeters_fixed (x0 : State) (x1 : ℕ) :
    (State.publishMeters x0 x1).fixed = x0.fixed := by
  simp [State.publishMeters]

@[simp] theorem execMeterPeriod_fixed (x0 : ℕ) (x1 : ℕ) (x2 : State) :
    fixedOf (execMeterPeriod x0 x1 x2) = some x2.fixed := by
  unfold execMeterPeriod
  simp only []
  split <;> simp

@[simp] theorem State.afterMeterRead_fixed (x0 : State) (x1 : ℕ) (x2 : ℕ) :
    (State.afterMeterRead x0 x1 x2).fixed = x0.fixed := by
  simp [State.afterMeterRead]

@[simp] theorem State.startLink_fixed (x0 : State) (x1 : ℕ) :
    (State.startLink x0 x1).fixed = x0.fixed := by
  simp [State.startLink]

@[simp] theorem State.rampLink_fixed (x0 : State) (x1 : ℕ) :
    (State.rampLink x0 x1).fixed = x0.fixed := by
  simp [State.rampLink]

@[simp] theorem State.applyLink_fixed (x0 : State) (x1 : ℕ) (x2 : List ℕ) :
    (State.applyLink x0 x1 x2).fixed = x0.fixed := by
  simp [State.applyLink]

@[simp] theorem State.linkEvents_fixed (x0 : State) (x1 : ℕ) :
    (State.linkEvents x0 x1).fixed = x0.fixed := by
  simp [State.linkEvents]

@[simp] theorem State.tickLink_fixed (x0 : State) (x1 : List InConv) (x2 : ℕ) :
    (State.tickLink x0 x1 x2).fixed = x0.fixed := by
  simp [State.tickLink]

@[simp] theorem State.startLine_fixed (x0 : State) (x1 : ℕ) :
    (State.startLine x0 x1).fixed = x0.fixed := by
  simp [State.startLine]

@[simp] theorem State.applyLine_fixed (x0 : State) (x1 : ℕ) :
    (State.applyLine x0 x1).fixed = x0.fixed := by
  simp [State.applyLine]

@[simp] theorem State.restLine_fixed (x0 : State) (x1 : ℕ) :
    (State.restLine x0 x1).fixed = x0.fixed := by
  simp [State.restLine]

@[simp] theorem State.cutLine_fixed (x0 : State) (x1 : ℕ) :
    (State.cutLine x0 x1).fixed = x0.fixed := by
  simp [State.cutLine]

@[simp] theorem State.tickLine_fixed (x0 : State) (x1 : List ℕ) (x2 : ℕ) :
    (State.tickLine x0 x1 x2).fixed = x0.fixed := by
  unfold State.tickLine
  simp only []
  split <;> simp

@[simp] theorem State.tickLeft_fixed (x0 : State) (x1 : ℕ) :
    (State.tickLeft x0 x1).fixed = x0.fixed := by
  simp [State.tickLeft]

@[simp] theorem State.faultLine_fixed (x0 : State) (x1 : ℕ) :
    (State.faultLine x0 x1).fixed = x0.fixed := by
  simp [State.faultLine]

end Sys2Proof.Machine
end

