-- ==== Sys2Proof/Laws/FixedOutputs.lean ====
section
/-!
SUPPORT. The operations of Machine/Outputs.lean leave the rights and the queue of commands as they were.
-/

set_option autoImplicit false

namespace Sys2Proof.Machine

@[simp] theorem State.startOutput_fixed (x0 : State) (x1 : ℕ) :
    (State.startOutput x0 x1).fixed = x0.fixed := by
  simp [State.startOutput]

@[simp] theorem State.rampOutput_fixed (x0 : State) (x1 : ℕ) :
    (State.rampOutput x0 x1).fixed = x0.fixed := by
  simp [State.rampOutput]

@[simp] theorem State.openSwitch_fixed (x0 : State) (x1 : ℕ) :
    (State.openSwitch x0 x1).fixed = x0.fixed := by
  simp [State.openSwitch]

@[simp] theorem State.restOutput_fixed (x0 : State) (x1 : ℕ) :
    (State.restOutput x0 x1).fixed = x0.fixed := by
  simp [State.restOutput]

@[simp] theorem State.stopOutput_fixed (x0 : State) (x1 : ℕ) :
    (State.stopOutput x0 x1).fixed = x0.fixed := by
  simp [State.stopOutput]

@[simp] theorem State.beginModeSwitch_fixed (x0 : State) (x1 : ℕ) :
    (State.beginModeSwitch x0 x1).fixed = x0.fixed := by
  simp [State.beginModeSwitch]

@[simp] theorem State.outputOn_fixed (x0 : State) (x1 : ℕ) :
    (State.outputOn x0 x1).fixed = x0.fixed := by
  simp [State.outputOn]

@[simp] theorem execOutModeSwitch_fixed (x0 : ℕ) (x1 : ℕ) (x2 : State) :
    fixedOf (execOutModeSwitch x0 x1 x2) = some x2.fixed := by
  unfold execOutModeSwitch
  simp only []
  repeat' first | (simp; done) | refine (foldl_fixed _ _ _ (fun u x => ?_)).trans ?_ | split | simp only [fixedOf_next, Option.some.injEq]

@[simp] theorem State.applyOutput_fixed (x0 : State) (x1 : ℕ) (x2 : List ℕ) :
    (State.applyOutput x0 x1 x2).fixed = x0.fixed := by
  simp [State.applyOutput]

@[simp] theorem State.clipEvent_fixed (x0 : State) (x1 : Option ℕ) (x2 : ℕ) (x3 : ℕ) :
    (State.clipEvent x0 x1 x2 x3).fixed = x0.fixed := by
  unfold State.clipEvent
  split <;> simp

@[simp] theorem State.tickAudio_fixed (x0 : State) (x1 : ℕ) :
    (State.tickAudio x0 x1).fixed = x0.fixed := by
  simp [State.tickAudio]

@[simp] theorem State.updateCv_fixed (x0 : State) (x1 : ℕ) :
    (State.updateCv x0 x1).fixed = x0.fixed := by
  simp [State.updateCv]

@[simp] theorem State.tickOutput_fixed (x0 : State) (x1 : ℕ) :
    (State.tickOutput x0 x1).fixed = x0.fixed := by
  simp [State.tickOutput]

@[simp] theorem State.setCm_fixed (x0 : State) (x1 : ℕ) (x2 : BiasSt) :
    (State.setCm x0 x1 x2).fixed = x0.fixed := by
  simp [State.setCm]

@[simp] theorem State.setAgnd_fixed (x0 : State) (x1 : ℕ) (x2 : Bool) :
    (State.setAgnd x0 x1 x2).fixed = x0.fixed := by
  simp [State.setAgnd]

@[simp] theorem State.cmRise_fixed (x0 : State) (x1 : ℕ) :
    (State.cmRise x0 x1).fixed = x0.fixed := by
  simp [State.cmRise]

@[simp] theorem State.cmFall_fixed (x0 : State) (x1 : ℕ) :
    (State.cmFall x0 x1).fixed = x0.fixed := by
  simp [State.cmFall]

@[simp] theorem State.biasRise_fixed (x0 : State) :
    (State.biasRise x0).fixed = x0.fixed := by
  simp [State.biasRise]

@[simp] theorem State.biasFall_fixed (x0 : State) :
    (State.biasFall x0).fixed = x0.fixed := by
  simp [State.biasFall]

@[simp] theorem State.loseAvddHv_fixed (x0 : State) :
    (State.loseAvddHv x0).fixed = x0.fixed := by
  simp [State.loseAvddHv]

@[simp] theorem execCmFallEnd_fixed (x0 : ℕ) (x1 : ℕ) (x2 : State) :
    fixedOf (execCmFallEnd x0 x1 x2) = some x2.fixed := by
  unfold execCmFallEnd
  simp only []
  split <;> simp

@[simp] theorem execHpBiasFallEnd_fixed (x0 : ℕ) (x1 : State) :
    fixedOf (execHpBiasFallEnd x0 x1) = some x1.fixed := by
  unfold execHpBiasFallEnd
  simp only []
  split <;> simp

@[simp] theorem State.startHp_fixed (x0 : State) (x1 : ℕ) :
    (State.startHp x0 x1).fixed = x0.fixed := by
  simp [State.startHp]

@[simp] theorem State.rampHp_fixed (x0 : State) (x1 : ℕ) :
    (State.rampHp x0 x1).fixed = x0.fixed := by
  simp [State.rampHp]

@[simp] theorem State.restHp_fixed (x0 : State) (x1 : ℕ) :
    (State.restHp x0 x1).fixed = x0.fixed := by
  simp [State.restHp]

@[simp] theorem State.muteHp_fixed (x0 : State) (x1 : ℕ) :
    (State.muteHp x0 x1).fixed = x0.fixed := by
  unfold State.muteHp
  simp only []
  split <;> simp

@[simp] theorem State.hpFrame_fixed (x0 : State) (x1 : ℕ) (x2 : ℕ) (x3 : Sample) (x4 : Sample) :
    (State.hpFrame x0 x1 x2 x3 x4).fixed = x0.fixed := by
  simp [State.hpFrame]

@[simp] theorem State.tickHp_fixed (x0 : State) (x1 : ℕ) :
    (State.tickHp x0 x1).fixed = x0.fixed := by
  simp [State.tickHp]

@[simp] theorem State.tickTalk_fixed (x0 : State) (x1 : List InConv) :
    (State.tickTalk x0 x1).fixed = x0.fixed := by
  simp [State.tickTalk]

@[simp] theorem State.beginJack_fixed (x0 : State) (x1 : ℕ) :
    (State.beginJack x0 x1).fixed = x0.fixed := by
  simp [State.beginJack]

@[simp] theorem execJackEdge_fixed (x0 : ℕ) (x1 : ℕ) (x2 : State) :
    fixedOf (execJackEdge x0 x1 x2) = some x2.fixed := by
  unfold execJackEdge
  simp only []
  repeat' split
  all_goals simp

@[simp] theorem execJackAbsent_fixed (x0 : ℕ) (x1 : ℕ) (x2 : State) :
    fixedOf (execJackAbsent x0 x1 x2) = some x2.fixed := by
  unfold execJackAbsent
  simp only []
  repeat' split
  all_goals simp

@[simp] theorem execJackDebounceEnd_fixed (x0 : ℕ) (x1 : ℕ) (x2 : State) :
    fixedOf (execJackDebounceEnd x0 x1 x2) = some x2.fixed := by
  unfold execJackDebounceEnd
  simp only []
  split <;> simp

@[simp] theorem execJackMeasureEnd_fixed (x0 : ℕ) (x1 : ℕ) (x2 : ℕ) (x3 : ℕ) (x4 : State) :
    fixedOf (execJackMeasureEnd x0 x1 x2 x3 x4) = some x4.fixed := by
  unfold execJackMeasureEnd
  simp only []
  repeat' split
  all_goals simp

@[simp] theorem execJackRemove_fixed (x0 : ℕ) (x1 : ℕ) (x2 : State) :
    fixedOf (execJackRemove x0 x1 x2) = some x2.fixed := by
  unfold execJackRemove
  simp only []
  repeat' split
  all_goals simp

@[simp] theorem State.applyJack_fixed (x0 : State) (x1 : ℕ) :
    (State.applyJack x0 x1).fixed = x0.fixed := by
  unfold State.applyJack
  simp only []
  repeat' split
  all_goals simp

@[simp] theorem State.applyHp_fixed (x0 : State) (x1 : ℕ) (x2 : List ℕ) :
    (State.applyHp x0 x1 x2).fixed = x0.fixed := by
  simp [State.applyHp]

@[simp] theorem State.startPwm_fixed (x0 : State) (x1 : ℕ) :
    (State.startPwm x0 x1).fixed = x0.fixed := by
  simp [State.startPwm]

@[simp] theorem execPwmEnLeadEnd_fixed (x0 : ℕ) (x1 : ℕ) (x2 : State) :
    fixedOf (execPwmEnLeadEnd x0 x1 x2) = some x2.fixed := by
  unfold execPwmEnLeadEnd
  simp only []
  split <;> simp

@[simp] theorem execPwmEnSettleEnd_fixed (x0 : ℕ) (x1 : ℕ) (x2 : State) :
    fixedOf (execPwmEnSettleEnd x0 x1 x2) = some x2.fixed := by
  unfold execPwmEnSettleEnd
  simp only []
  split <;> simp

@[simp] theorem State.rampPwm_fixed (x0 : State) (x1 : ℕ) :
    (State.rampPwm x0 x1).fixed = x0.fixed := by
  simp [State.rampPwm]

@[simp] theorem State.pwmFall_fixed (x0 : State) (x1 : ℕ) :
    (State.pwmFall x0 x1).fixed = x0.fixed := by
  simp [State.pwmFall]

@[simp] theorem execPwmStopLeadEnd_fixed (x0 : ℕ) (x1 : ℕ) (x2 : State) :
    fixedOf (execPwmStopLeadEnd x0 x1 x2) = some x2.fixed := by
  unfold execPwmStopLeadEnd
  simp only []
  split <;> simp

@[simp] theorem State.applyPwm_fixed (x0 : State) (x1 : ℕ) (x2 : List ℕ) :
    (State.applyPwm x0 x1 x2).fixed = x0.fixed := by
  simp [State.applyPwm]

@[simp] theorem State.tickPwm_fixed (x0 : State) (x1 : ℕ) :
    (State.tickPwm x0 x1).fixed = x0.fixed := by
  simp [State.tickPwm]

@[simp] theorem State.cutFn_fixed (x0 : State) (x1 : Func) :
    (State.cutFn x0 x1).fixed = x0.fixed := by
  unfold State.cutFn
  split <;> simp

@[simp] theorem State.safeOutputs_fixed (x0 : State) :
    (State.safeOutputs x0).fixed = x0.fixed := by
  simp [State.safeOutputs]

@[simp] theorem State.setLimit_fixed (x0 : State) (x1 : LimitCh) (x2 : LimitSt) :
    (State.setLimit x0 x1 x2).fixed = x0.fixed := by
  unfold State.setLimit
  split <;> simp

@[simp] theorem State.restartOutput_fixed (x0 : State) (x1 : LimitCh) :
    (State.restartOutput x0 x1).fixed = x0.fixed := by
  unfold State.restartOutput
  split <;> simp

@[simp] theorem State.tripLimit_fixed (x0 : State) (x1 : LimitCh) (x2 : LimitSt) :
    (State.tripLimit x0 x1 x2).fixed = x0.fixed := by
  unfold State.tripLimit
  split <;> simp

@[simp] theorem State.retryWindow_fixed (x0 : State) (x1 : LimitCh) (x2 : Bool) :
    (State.retryWindow x0 x1 x2).fixed = x0.fixed := by
  simp [State.retryWindow]

@[simp] theorem execCurrentLimitWindow_fixed (x0 : ℕ) (x1 : LimitCh) (x2 : Bool) (x3 : State) :
    fixedOf (execCurrentLimitWindow x0 x1 x2 x3) = some x3.fixed := by
  unfold execCurrentLimitWindow
  simp only []
  repeat' split
  all_goals simp

@[simp] theorem State.beginRetry_fixed (x0 : State) (x1 : Func) (x2 : LimitCh → Bool) :
    (State.beginRetry x0 x1 x2).fixed = x0.fixed := by
  simp [State.beginRetry]

@[simp] theorem execScRetry_fixed (x0 : ℕ) (x1 : Func) (x2 : State) :
    fixedOf (execScRetry x0 x1 x2) = some x2.fixed := by
  simp [execScRetry]

@[simp] theorem State.hvMeasured_fixed (x0 : State) :
    (State.hvMeasured x0).fixed = x0.fixed := by
  unfold State.hvMeasured
  split <;> simp

end Sys2Proof.Machine
end

