-- ==== Sys2Proof/Laws/FixedSerial.lean ====
section
/-!
SUPPORT. The operations of Machine/Serial.lean leave the rights and the queue of commands as they were.
-/

set_option autoImplicit false

namespace Sys2Proof.Machine

@[simp] theorem State.countSlip_fixed (x0 : State) (x1 : ℕ) (x2 : SapDir) :
    (State.countSlip x0 x1 x2).fixed = x0.fixed := by
  simp [State.countSlip]

@[simp] theorem State.ownSlip_fixed (x0 : State) (x1 : ℕ) (x2 : SapDir) (x3 : Bool) :
    (State.ownSlip x0 x1 x2 x3).fixed = x0.fixed := by
  simp [State.ownSlip]

@[simp] theorem State.applyMask_fixed (x0 : State) (x1 : ℕ) (x2 : SapDir) :
    (State.applyMask x0 x1 x2).fixed = x0.fixed := by
  simp [State.applyMask]

@[simp] theorem State.maskFrame_fixed (x0 : State) (x1 : ℕ) (x2 : SapDir) (x3 : ℕ) :
    (State.maskFrame x0 x1 x2 x3).fixed = x0.fixed := by
  simp [State.maskFrame]

@[simp] theorem State.maskAtStart_fixed (x0 : State) (x1 : ℕ) (x2 : SapDir) (x3 : Bool) :
    (State.maskAtStart x0 x1 x2 x3).fixed = x0.fixed := by
  unfold State.maskAtStart
  simp only []
  split <;> simp

@[simp] theorem State.framingError_fixed (x0 : State) (x1 : ℕ) (x2 : SapDir) :
    (State.framingError x0 x1 x2).fixed = x0.fixed := by
  simp [State.framingError]

@[simp] theorem State.sapFramed_fixed (x0 : State) (x1 : ℕ) (x2 : SapDir) :
    (State.sapFramed x0 x1 x2).fixed = x0.fixed := by
  unfold State.sapFramed
  split <;> simp

@[simp] theorem State.startSap_fixed (x0 : State) (x1 : ℕ) (x2 : SapDir) (x3 : Bool) :
    (State.startSap x0 x1 x2 x3).fixed = x0.fixed := by
  simp [State.startSap]

@[simp] theorem State.restSap_fixed (x0 : State) (x1 : ℕ) (x2 : SapDir) :
    (State.restSap x0 x1 x2).fixed = x0.fixed := by
  simp [State.restSap]

@[simp] theorem State.cutSap_fixed (x0 : State) (x1 : ℕ) (x2 : SapDir) :
    (State.cutSap x0 x1 x2).fixed = x0.fixed := by
  simp [State.cutSap]

@[simp] theorem State.cutSaps_fixed (x0 : State) (x1 : Bool) :
    (State.cutSaps x0 x1).fixed = x0.fixed := by
  simp [State.cutSaps]

@[simp] theorem State.faultSap_fixed (x0 : State) (x1 : ℕ) (x2 : SapDir) :
    (State.faultSap x0 x1 x2).fixed = x0.fixed := by
  simp [State.faultSap]

@[simp] theorem execSapClockLost_fixed (x0 : ℕ) (x1 : ℕ) (x2 : SapDir) (x3 : State) :
    fixedOf (execSapClockLost x0 x1 x2 x3) = some x3.fixed := by
  unfold execSapClockLost
  simp only []
  split <;> simp

@[simp] theorem State.faultBank_fixed (x0 : State) (x1 : Rail) :
    (State.faultBank x0 x1).fixed = x0.fixed := by
  simp [State.faultBank]

@[simp] theorem State.recoverBank_fixed (x0 : State) (x1 : Rail) :
    (State.recoverBank x0 x1).fixed = x0.fixed := by
  simp [State.recoverBank]

@[simp] theorem State.sapBefore_fixed (x0 : State) (x1 : ℕ) (x2 : SapDir) :
    (State.sapBefore x0 x1 x2).fixed = x0.fixed := by
  unfold State.sapBefore
  simp only []
  repeat' split
  all_goals simp

@[simp] theorem State.sapPoints_fixed (x0 : State) (x1 : ℕ) (x2 : List Sample) :
    (State.sapPoints x0 x1 x2).fixed = x0.fixed := by
  simp [State.sapPoints]

@[simp] theorem State.takeFrame_fixed (x0 : State) (x1 : ℕ) :
    (State.takeFrame x0 x1).2.fixed = x0.fixed := by
  unfold State.takeFrame
  simp only []
  repeat' split
  all_goals simp

@[simp] theorem State.tickSapRx_fixed (x0 : State) (x1 : ℕ) :
    (State.tickSapRx x0 x1).fixed = x0.fixed := by
  unfold State.tickSapRx
  simp only []
  repeat' split
  all_goals simp

@[simp] theorem State.tickSapTx_fixed (x0 : State) (x1 : ℕ) :
    (State.tickSapTx x0 x1).fixed = x0.fixed := by
  simp [State.tickSapTx]

@[simp] theorem State.txStart_fixed (x0 : State) (x1 : ℕ) :
    (State.txStart x0 x1).fixed = x0.fixed := by
  unfold State.txStart
  simp only []
  repeat' split
  all_goals simp

@[simp] theorem State.sapStart_fixed (x0 : State) (x1 : ℕ) (x2 : SapDir) (x3 : ℕ) :
    (State.sapStart x0 x1 x2 x3).fixed = x0.fixed := by
  simp [State.sapStart]

@[simp] theorem State.sapComplete_fixed (x0 : State) (x1 : ℕ) (x2 : List ℕ) :
    (State.sapComplete x0 x1 x2).fixed = x0.fixed := by
  simp [State.sapComplete]

@[simp] theorem execPortFrame_fixed (x0 : ℕ) (x1 : ℕ) (x2 : SapDir) (x3 : PortEvent) (x4 : State) :
    fixedOf (execPortFrame x0 x1 x2 x3 x4) = some x4.fixed := by
  unfold execPortFrame
  simp only []
  repeat' split
  all_goals simp

end Sys2Proof.Machine
end

