-- ==== Sys2Proof/Laws/FixedChain.lean ====
section
/-!
SUPPORT. The operations of Machine/Chain.lean leave the rights and the queue of commands as they were.
-/

set_option autoImplicit false

namespace Sys2Proof.Machine

@[simp] theorem State.setFlag_fixed (x0 : State) (x1 : ℕ) (x2 : Bool) :
    (State.setFlag x0 x1 x2).fixed = x0.fixed := by
  simp [State.setFlag]

@[simp] theorem State.tell_fixed (x0 : State) (x1 : List ChPort) (x2 : TopoMsg) :
    (State.tell x0 x1 x2).fixed = x0.fixed := by
  simp [State.tell]

@[simp] theorem State.faultFlows_fixed (x0 : State) :
    (State.faultFlows x0).fixed = x0.fixed := by
  simp [State.faultFlows]

@[simp] theorem State.leaveChain_fixed (x0 : State) :
    (State.leaveChain x0).fixed = x0.fixed := by
  simp [State.leaveChain]

@[simp] theorem State.setSlots_fixed (x0 : State) (x1 : ℕ) (x2 : ℕ) :
    (State.setSlots x0 x1 x2).fixed = x0.fixed := by
  simp [State.setSlots]

@[simp] theorem State.keepSlots_fixed (x0 : State) (x1 : ℕ) :
    (State.keepSlots x0 x1).fixed = x0.fixed := by
  unfold State.keepSlots
  simp only []
  repeat' first | (simp; done) | split | refine (foldl_fixed _ _ _ (fun u x => ?_)).trans ?_

@[simp] theorem State.granted371_fixed (x0 : State) (x1 : ℕ) (x2 : ℕ) :
    (State.granted371 x0 x1 x2).fixed = x0.fixed := by
  simp [State.granted371]

@[simp] theorem State.answerShare_fixed (x0 : State) (x1 : ℕ) (x2 : ℕ) :
    (State.answerShare x0 x1 x2).fixed = x0.fixed := by
  simp [State.answerShare]

@[simp] theorem State.askShare_fixed (x0 : State) :
    (State.askShare x0).fixed = x0.fixed := by
  simp [State.askShare]

@[simp] theorem State.newHead_fixed (x0 : State) :
    (State.newHead x0).fixed = x0.fixed := by
  simp [State.newHead]

@[simp] theorem State.checkPres_fixed (x0 : State) :
    (State.checkPres x0).fixed = x0.fixed := by
  simp [State.checkPres]

@[simp] theorem State.movePres_fixed (x0 : State) (x1 : ℕ) :
    (State.movePres x0 x1).fixed = x0.fixed := by
  unfold State.movePres
  split <;> simp

@[simp] theorem State.setPres_fixed (x0 : State) (x1 : ℕ) :
    (State.setPres x0 x1).fixed = x0.fixed := by
  simp [State.setPres]

@[simp] theorem execPresentationChange_fixed (x0 : ℕ) (x1 : State) :
    fixedOf (execPresentationChange x0 x1) = some x1.fixed := by
  unfold execPresentationChange
  simp only []
  split <;> simp

@[simp] theorem State.announcePres_fixed (x0 : State) :
    (State.announcePres x0).fixed = x0.fixed := by
  simp [State.announcePres]

@[simp] theorem State.ringBroken_fixed (x0 : State) :
    (State.ringBroken x0).fixed = x0.fixed := by
  simp [State.ringBroken]

@[simp] theorem State.dropLink_fixed (x0 : State) (x1 : ChPort) :
    (State.dropLink x0 x1).fixed = x0.fixed := by
  simp [State.dropLink]

@[simp] theorem execLinkDown_fixed (x0 : ℕ) (x1 : ChPort) (x2 : State) :
    fixedOf (execLinkDown x0 x1 x2) = some x2.fixed := by
  simp [execLinkDown]

@[simp] theorem execHelloSend_fixed (x0 : ℕ) (x1 : ChPort) (x2 : State) :
    fixedOf (execHelloSend x0 x1 x2) = some x2.fixed := by
  unfold execHelloSend
  simp only []
  split <;> simp

@[simp] theorem State.takeHello_fixed (x0 : State) (x1 : ChPort) (x2 : ℕ) (x3 : ℕ) (x4 : ℕ) (x5 : ℕ) (x6 : ℕ) :
    (State.takeHello x0 x1 x2 x3 x4 x5 x6).fixed = x0.fixed := by
  simp [State.takeHello]

@[simp] theorem execHello_fixed (x0 : ℕ) (x1 : ChPort) (x2 : ℕ) (x3 : ℕ) (x4 : ℕ) (x5 : ℕ) (x6 : ℕ) (x7 : State) :
    fixedOf (execHello x0 x1 x2 x3 x4 x5 x6 x7) = some x7.fixed := by
  unfold execHello
  simp only []
  split <;> simp

@[simp] theorem State.steerChain_fixed (x0 : State) (x1 : ℤ) :
    (State.steerChain x0 x1).fixed = x0.fixed := by
  simp [State.steerChain]

@[simp] theorem State.standClaim_fixed (x0 : State) :
    (State.standClaim x0).fixed = x0.fixed := by
  simp [State.standClaim]

@[simp] theorem execHeadClaim_fixed (x0 : ℕ) (x1 : State) :
    fixedOf (execHeadClaim x0 x1) = some x1.fixed := by
  unfold execHeadClaim
  simp only []
  repeat' split
  all_goals simp

@[simp] theorem State.becomeHead_fixed (x0 : State) :
    (State.becomeHead x0).fixed = x0.fixed := by
  simp [State.becomeHead]

@[simp] theorem State.answerJoin_fixed (x0 : State) (x1 : ChPort) (x2 : ℕ) (x3 : ℕ) :
    (State.answerJoin x0 x1 x2 x3).fixed = x0.fixed := by
  simp [State.answerJoin]

@[simp] theorem State.askJoin_fixed (x0 : State) :
    (State.askJoin x0).fixed = x0.fixed := by
  simp [State.askJoin]

@[simp] theorem State.takeTopology_fixed (x0 : State) (x1 : ChPort) (x2 : TopoMsg) :
    (State.takeTopology x0 x1 x2).fixed = x0.fixed := by
  unfold State.takeTopology
  split <;> simp

@[simp] theorem execPeerDelay_fixed (x0 : ℕ) (x1 : ChPort) (x2 : ℕ) (x3 : State) :
    fixedOf (execPeerDelay x0 x1 x2 x3) = some x3.fixed := by
  unfold execPeerDelay
  simp only []
  split <;> simp

@[simp] theorem execJoinRetry_fixed (x0 : ℕ) (x1 : State) :
    fixedOf (execJoinRetry x0 x1) = some x1.fixed := by
  unfold execJoinRetry
  simp only []
  repeat' split
  all_goals simp

@[simp] theorem State.joined_fixed (x0 : State) :
    (State.joined x0).fixed = x0.fixed := by
  simp [State.joined]

@[simp] theorem execNodeRelease_fixed (x0 : ℕ) (x1 : ℕ) (x2 : State) :
    fixedOf (execNodeRelease x0 x1 x2) = some x2.fixed := by
  unfold execNodeRelease
  simp only []
  split <;> simp

@[simp] theorem execChainHoldover_fixed (x0 : ℕ) (x1 : State) :
    fixedOf (execChainHoldover x0 x1) = some x1.fixed := by
  unfold execChainHoldover
  simp only []
  split <;> simp

@[simp] theorem execChainSyncLoss_fixed (x0 : ℕ) (x1 : State) :
    fixedOf (execChainSyncLoss x0 x1) = some x1.fixed := by
  unfold execChainSyncLoss
  simp only []
  split <;> simp

@[simp] theorem State.steerTime_fixed (x0 : State) (x1 : ℤ) (x2 : ℕ) :
    (State.steerTime x0 x1 x2).fixed = x0.fixed := by
  simp [State.steerTime]

@[simp] theorem State.forwardCs_fixed (x0 : State) (x1 : ChPort) (x2 : CycleStartFrame) :
    (State.forwardCs x0 x1 x2).fixed = x0.fixed := by
  simp [State.forwardCs]

@[simp] theorem State.takeCs_fixed (x0 : State) (x1 : ChPort) (x2 : CycleStartFrame) :
    (State.takeCs x0 x1 x2).fixed = x0.fixed := by
  simp [State.takeCs]

@[simp] theorem State.emitBeacons_fixed (x0 : State) (x1 : ℕ) :
    (State.emitBeacons x0 x1).fixed = x0.fixed := by
  simp [State.emitBeacons]

@[simp] theorem State.sendBeacons_fixed (x0 : State) (x1 : ℕ) :
    (State.sendBeacons x0 x1).fixed = x0.fixed := by
  simp [State.sendBeacons]

@[simp] theorem execBeaconRequest_fixed (x0 : ℕ) (x1 : ChPort) (x2 : ℕ) (x3 : State) :
    fixedOf (execBeaconRequest x0 x1 x2 x3) = some x3.fixed := by
  unfold execBeaconRequest
  simp only []
  repeat' split
  all_goals simp

@[simp] theorem execFrameForward_fixed (x0 : ℕ) (x1 : ChPort) (x2 : ChainFrame) (x3 : State) :
    fixedOf (execFrameForward x0 x1 x2 x3) = some x3.fixed := by
  unfold execFrameForward
  simp only []
  repeat' split
  all_goals simp

@[simp] theorem execEdgePtpMessage_fixed (x0 : ℕ) (x1 : ChPort) (x2 : Bool) (x3 : ℤ) (x4 : State) :
    fixedOf (execEdgePtpMessage x0 x1 x2 x3 x4) = some x4.fixed := by
  unfold execEdgePtpMessage
  simp only []
  split <;> simp

end Sys2Proof.Machine
end

