-- ==== Sys2Proof/Laws/FixedFlows.lean ====
section
/-!
SUPPORT. The operations of Machine/Flows.lean leave the rights and the queue of commands as they were.
-/

set_option autoImplicit false

namespace Sys2Proof.Machine

@[simp] theorem State.startTx_fixed (x0 : State) (x1 : ℕ) :
    (State.startTx x0 x1).fixed = x0.fixed := by
  simp [State.startTx]

@[simp] theorem State.sendRtp_fixed (x0 : State) (x1 : ℕ) (x2 : ℕ) :
    (State.sendRtp x0 x1 x2).fixed = x0.fixed := by
  simp [State.sendRtp]

@[simp] theorem State.tickTx_fixed (x0 : State) (x1 : ℕ) :
    (State.tickTx x0 x1).fixed = x0.fixed := by
  unfold State.tickTx
  simp only []
  repeat' split
  all_goals simp

@[simp] theorem State.sendBlock_fixed (x0 : State) (x1 : ℕ) (x2 : ℕ × List (List Sample)) :
    (State.sendBlock x0 x1 x2).fixed = x0.fixed := by
  simp [State.sendBlock]

@[simp] theorem State.sendAudio_fixed (x0 : State) :
    (State.sendAudio x0).fixed = x0.fixed := by
  simp [State.sendAudio]

@[simp] theorem State.startRx_fixed (x0 : State) (x1 : ℕ) :
    (State.startRx x0 x1).fixed = x0.fixed := by
  simp [State.startRx]

@[simp] theorem State.rxPoints_fixed (x0 : State) (x1 : ℕ) (x2 : List Sample) :
    (State.rxPoints x0 x1 x2).fixed = x0.fixed := by
  simp [State.rxPoints]

@[simp] theorem State.tickRxSync_fixed (x0 : State) (x1 : ℕ) :
    (State.tickRxSync x0 x1).fixed = x0.fixed := by
  unfold State.tickRxSync
  simp only []
  repeat' split
  all_goals simp

@[simp] theorem State.tickRx_fixed (x0 : State) (x1 : ℕ) :
    (State.tickRx x0 x1).fixed = x0.fixed := by
  unfold State.tickRx
  simp only []
  split <;> simp

@[simp] theorem execFlowLost_fixed (x0 : ℕ) (x1 : ℕ) (x2 : State) :
    fixedOf (execFlowLost x0 x1 x2) = some x2.fixed := by
  unfold execFlowLost
  simp only []
  split <;> simp

@[simp] theorem execAltSourceSwitch_fixed (x0 : ℕ) (x1 : ℕ) (x2 : State) :
    fixedOf (execAltSourceSwitch x0 x1 x2) = some x2.fixed := by
  unfold execAltSourceSwitch
  simp only []
  split <;> simp

@[simp] theorem State.rxForeign_fixed (x0 : State) (x1 : ℕ) (x2 : List (List Sample)) :
    (State.rxForeign x0 x1 x2).fixed = x0.fixed := by
  simp [State.rxForeign]

@[simp] theorem State.rxBlock_fixed (x0 : State) (x1 : ℕ) (x2 : ℕ) (x3 : ℕ) (x4 : Bool) (x5 : List (List Sample)) :
    (State.rxBlock x0 x1 x2 x3 x4 x5).fixed = x0.fixed := by
  simp [State.rxBlock]

@[simp] theorem State.rxFrame_fixed (x0 : State) (x1 : ℕ) (x2 : AudioFrame) (x3 : Bool) :
    (State.rxFrame x0 x1 x2 x3).fixed = x0.fixed := by
  simp [State.rxFrame]

@[simp] theorem execAudio_fixed (x0 : ℕ) (x1 : ChPort) (x2 : AudioFrame) (x3 : State) :
    fixedOf (execAudio x0 x1 x2 x3) = some x3.fixed := by
  unfold execAudio
  simp only []
  split <;> simp

@[simp] theorem State.startAes_fixed (x0 : State) (x1 : ℕ) :
    (State.startAes x0 x1).fixed = x0.fixed := by
  simp [State.startAes]

@[simp] theorem execAes67Packet_fixed (x0 : ℕ) (x1 : ChPort) (x2 : RtpPacket) (x3 : State) :
    fixedOf (execAes67Packet x0 x1 x2 x3) = some x3.fixed := by
  unfold execAes67Packet
  simp only []
  repeat' split
  all_goals simp

@[simp] theorem State.reportSlip_fixed (x0 : State) (x1 : ℕ) (x2 : ℕ) (x3 : ℕ) (x4 : ℕ) :
    (State.reportSlip x0 x1 x2 x3 x4).fixed = x0.fixed := by
  simp [State.reportSlip]

@[simp] theorem State.loseAlign_fixed (x0 : State) (x1 : ℕ × SapDir) :
    (State.loseAlign x0 x1).fixed = x0.fixed := by
  simp [State.loseAlign]

@[simp] theorem State.portTakes_fixed (x0 : State) (x1 : ℕ × SapDir) (x2 : Bool) :
    (State.portTakes x0 x1 x2).1.fixed = x0.fixed := by
  unfold State.portTakes
  simp only []
  repeat' split
  all_goals simp

@[simp] theorem State.flowTakesSlip_fixed (x0 : State) (x1 : Func) (x2 : Bool) :
    (State.flowTakesSlip x0 x1 x2).1.fixed = x0.fixed := by
  unfold State.flowTakesSlip
  simp only []
  repeat' split
  all_goals simp

@[simp] theorem State.loseFlow_fixed (x0 : State) (x1 : Func) :
    (State.loseFlow x0 x1).fixed = x0.fixed := by
  unfold State.loseFlow
  split <;> simp

@[simp] theorem State.groupSlip_fixed (x0 : State) (x1 : ℕ) (x2 : ℕ) (x3 : Bool) (x4 : List (ℕ × SapDir)) :
    (State.groupSlip x0 x1 x2 x3 x4).fixed = x0.fixed := by
  simp [State.groupSlip]

@[simp] theorem State.tickGroup_fixed (x0 : State) (x1 : ℕ) (x2 : ℕ) :
    (State.tickGroup x0 x1 x2).fixed = x0.fixed := by
  unfold State.tickGroup
  simp only []
  repeat' split
  all_goals simp

@[simp] theorem State.tickGroups_fixed (x0 : State) (x1 : ℕ) :
    (State.tickGroups x0 x1).fixed = x0.fixed := by
  simp [State.tickGroups]

end Sys2Proof.Machine
end

