-- ==== Sys2Proof/Laws/FixedClocks.lean ====
section
/-!
SUPPORT. The operations of Machine/Clocks.lean leave the rights and the queue of commands as they were.
-/

set_option autoImplicit false

namespace Sys2Proof.Machine

@[simp] theorem execXoAmplitude_fixed (x0 : ℕ) (x1 : Bool) (x2 : State) :
    fixedOf (execXoAmplitude x0 x1 x2) = some x2.fixed := by
  unfold execXoAmplitude
  simp only []
  split <;> simp

@[simp] theorem execMuxSourceEdges_fixed (x0 : ℕ) (x1 : Mux) (x2 : State) :
    fixedOf (execMuxSourceEdges x0 x1 x2) = some x2.fixed := by
  unfold execMuxSourceEdges
  simp only []
  split <;> simp

@[simp] theorem execPwmSpreadUpdate_fixed (x0 : ℕ) (x1 : State) :
    fixedOf (execPwmSpreadUpdate x0 x1) = some x1.fixed := by
  unfold execPwmSpreadUpdate
  simp only []
  split <;> simp

@[simp] theorem execGateClose_fixed (x0 : ℕ) (x1 : ℕ) (x2 : State) :
    fixedOf (execGateClose x0 x1 x2) = some x2.fixed := by
  unfold execGateClose
  simp only []
  split <;> simp

@[simp] theorem State.openGate_fixed (x0 : State) (x1 : ℕ) :
    (State.openGate x0 x1).fixed = x0.fixed := by
  simp [State.openGate]

@[simp] theorem State.setLoop_fixed (x0 : State) (x1 : ℕ) (x2 : LoopState) :
    (State.setLoop x0 x1 x2).fixed = x0.fixed := by
  simp [State.setLoop]

@[simp] theorem State.tickLoops_fixed (x0 : State) (x1 : ℕ) :
    (State.tickLoops x0 x1).fixed = x0.fixed := by
  simp [State.tickLoops]

@[simp] theorem State.limitLoop_fixed (x0 : State) (x1 : ℕ) (x2 : LoopState) (x3 : ℤ) (x4 : ℕ) :
    (State.limitLoop x0 x1 x2 x3 x4).fixed = x0.fixed := by
  simp [State.limitLoop]

@[simp] theorem execLoopUpdate_fixed (x0 : ℕ) (x1 : ℕ) (x2 : State) :
    fixedOf (execLoopUpdate x0 x1 x2) = some x2.fixed := by
  unfold execLoopUpdate
  simp only []
  repeat' split
  all_goals simp

@[simp] theorem execLoopAcquireEnd_fixed (x0 : ℕ) (x1 : ℕ) (x2 : State) :
    fixedOf (execLoopAcquireEnd x0 x1 x2) = some x2.fixed := by
  unfold execLoopAcquireEnd
  simp only []
  split <;> simp

@[simp] theorem State.holdLoop_fixed (x0 : State) (x1 : ℕ) :
    (State.holdLoop x0 x1).fixed = x0.fixed := by
  simp [State.holdLoop]

@[simp] theorem execLoopHoldover_fixed (x0 : ℕ) (x1 : ℕ) (x2 : State) :
    fixedOf (execLoopHoldover x0 x1 x2) = some x2.fixed := by
  unfold execLoopHoldover
  simp only []
  split <;> simp

@[simp] theorem State.applyLeader_fixed (x0 : State) (x1 : ℕ) :
    (State.applyLeader x0 x1).fixed = x0.fixed := by
  simp [State.applyLeader]

@[simp] theorem State.holdSyn_fixed (x0 : State) (x1 : Syn) :
    (State.holdSyn x0 x1).fixed = x0.fixed := by
  unfold State.holdSyn
  split <;> simp

@[simp] theorem State.acquireSyn_fixed (x0 : State) (x1 : Syn) :
    (State.acquireSyn x0 x1).fixed = x0.fixed := by
  simp [State.acquireSyn]

@[simp] theorem execSynAcquisitionStart_fixed (x0 : ℕ) (x1 : Syn) (x2 : State) :
    fixedOf (execSynAcquisitionStart x0 x1 x2) = some x2.fixed := by
  unfold execSynAcquisitionStart
  simp only []
  split <;> simp

@[simp] theorem execSynReacquire_fixed (x0 : ℕ) (x1 : Syn) (x2 : State) :
    fixedOf (execSynReacquire x0 x1 x2) = some x2.fixed := by
  unfold execSynReacquire
  simp only []
  split <;> simp

@[simp] theorem execSynAcquisitionFail_fixed (x0 : ℕ) (x1 : Syn) (x2 : State) :
    fixedOf (execSynAcquisitionFail x0 x1 x2) = some x2.fixed := by
  unfold execSynAcquisitionFail
  simp only []
  repeat' split
  all_goals simp

@[simp] theorem execSynFaultRetry_fixed (x0 : ℕ) (x1 : Syn) (x2 : State) :
    fixedOf (execSynFaultRetry x0 x1 x2) = some x2.fixed := by
  unfold execSynFaultRetry
  simp only []
  split <;> simp

@[simp] theorem State.gateSyn_fixed (x0 : State) (x1 : Syn) (x2 : Bool) :
    (State.gateSyn x0 x1 x2).fixed = x0.fixed := by
  unfold State.gateSyn
  repeat' split
  all_goals simp

@[simp] theorem State.settleCko_fixed (x0 : State) (x1 : ℕ) :
    (State.settleCko x0 x1).fixed = x0.fixed := by
  simp [State.settleCko]

@[simp] theorem State.refreshCko_fixed (x0 : State) :
    (State.refreshCko x0).fixed = x0.fixed := by
  unfold State.refreshCko
  refine (foldl_fixed _ _ _ (fun u x => ?_)).trans (by simp)
  repeat' split
  all_goals simp

@[simp] theorem State.applyCko_fixed (x0 : State) (x1 : ℕ) :
    (State.applyCko x0 x1).fixed = x0.fixed := by
  unfold State.applyCko
  split <;> simp

@[simp] theorem State.changeCko_fixed (x0 : State) (x1 : ℕ) :
    (State.changeCko x0 x1).fixed = x0.fixed := by
  simp [State.changeCko]

@[simp] theorem execCkoChange_fixed (x0 : ℕ) (x1 : ℕ) (x2 : State) :
    fixedOf (execCkoChange x0 x1 x2) = some x2.fixed := by
  unfold execCkoChange
  simp only []
  repeat' split
  all_goals simp

end Sys2Proof.Machine
end

