-- ==== Sys2Proof/Laws/FixedFlags.lean ====
section
/-!
SUPPORT. The operations of Machine/Flags.lean leave the rights and the queue of commands as they were.
-/

set_option autoImplicit false

namespace Sys2Proof.Machine

@[simp] theorem State.noteCauses_fixed (x0 : State) :
    (State.noteCauses x0).fixed = x0.fixed := by
  simp [State.noteCauses]

@[simp] theorem State.sysEntry_fixed (x0 : State) (x1 : ℕ) (x2 : ℕ) (x3 : ℕ) :
    (State.sysEntry x0 x1 x2 x3).fixed = x0.fixed := by
  simp [State.sysEntry]

@[simp] theorem State.flushLate_fixed (x0 : State) :
    (State.flushLate x0).fixed = x0.fixed := by
  simp [State.flushLate]

@[simp] theorem State.changeMode_fixed (x0 : State) (x1 : Mode) (x2 : ℕ) :
    (State.changeMode x0 x1 x2).fixed = x0.fixed := by
  simp [State.changeMode]

end Sys2Proof.Machine
end

