-- ==== Sys2Proof/Laws/FixedPair.lean ====
section
/-!
SUPPORT. The operations of Machine/Pair.lean leave the rights and the queue of commands as they were.
-/

set_option autoImplicit false

namespace Sys2Proof.Machine

@[simp] theorem State.sendPair_fixed (x0 : State) (x1 : ℕ) (x2 : ℕ) (x3 : ℕ) (x4 : List Byte) :
    (State.sendPair x0 x1 x2 x3 x4).fixed = x0.fixed := by
  simp [State.sendPair]

@[simp] theorem State.tellArbiter_fixed (x0 : State) (x1 : ℕ) :
    (State.tellArbiter x0 x1).fixed = x0.fixed := by
  simp [State.tellArbiter]

@[simp] theorem State.tellChange_fixed (x0 : State) :
    (State.tellChange x0).fixed = x0.fixed := by
  simp [State.tellChange]

@[simp] theorem State.mapPair_fixed (x0 : State) (x1 : PairMember → PairMember) :
    (State.mapPair x0 x1).fixed = x0.fixed := by
  simp [State.mapPair]

@[simp] theorem State.setRole_fixed (x0 : State) (x1 : ℕ) (x2 : ℕ) :
    (State.setRole x0 x1 x2).fixed = x0.fixed := by
  simp [State.setRole]

@[simp] theorem State.takeEpoch_fixed (x0 : State) (x1 : ℕ) :
    (State.takeEpoch x0 x1).fixed = x0.fixed := by
  simp [State.takeEpoch]

@[simp] theorem State.drive_fixed (x0 : State) :
    (State.drive x0).fixed = x0.fixed := by
  simp [State.drive]

@[simp] theorem State.takeGrant_fixed (x0 : State) :
    (State.takeGrant x0).fixed = x0.fixed := by
  simp [State.takeGrant]

@[simp] theorem State.releaseNow_fixed (x0 : State) (x1 : ℕ) :
    (State.releaseNow x0 x1).fixed = x0.fixed := by
  simp [State.releaseNow]

@[simp] theorem State.finishRelease_fixed (x0 : State) :
    (State.finishRelease x0).fixed = x0.fixed := by
  simp [State.finishRelease]

@[simp] theorem State.beginRelease_fixed (x0 : State) (x1 : ℕ) :
    (State.beginRelease x0 x1).fixed = x0.fixed := by
  simp [State.beginRelease]

@[simp] theorem State.cutPair_fixed (x0 : State) :
    (State.cutPair x0).fixed = x0.fixed := by
  simp [State.cutPair]

@[simp] theorem State.noteCheck_fixed (x0 : State) :
    (State.noteCheck x0).fixed = x0.fixed := by
  simp [State.noteCheck]

@[simp] theorem State.checkConflict_fixed (x0 : State) :
    (State.checkConflict x0).fixed = x0.fixed := by
  simp [State.checkConflict]

@[simp] theorem State.tickPair_fixed (x0 : State) :
    (State.tickPair x0).fixed = x0.fixed := by
  simp [State.tickPair]

@[simp] theorem State.applyPair_fixed (x0 : State) :
    (State.applyPair x0).fixed = x0.fixed := by
  simp [State.applyPair]

@[simp] theorem execArbBeat_fixed (x0 : ℕ) (x1 : PairMsg) (x2 : State) :
    fixedOf (execArbBeat x0 x1 x2) = some x2.fixed := by
  unfold execArbBeat
  simp only []
  repeat' split
  all_goals simp

@[simp] theorem execRevoke_fixed (x0 : ℕ) (x1 : PairMsg) (x2 : State) :
    fixedOf (execRevoke x0 x1 x2) = some x2.fixed := by
  unfold execRevoke
  simp only []
  repeat' split
  all_goals simp

@[simp] theorem execPeerActIn_fixed (x0 : ℕ) (x1 : Bool) (x2 : State) :
    fixedOf (execPeerActIn x0 x1 x2) = some x2.fixed := by
  unfold execPeerActIn
  simp only []
  split <;> simp

@[simp] theorem execInterlockWaitEnd_fixed (x0 : ℕ) (x1 : State) :
    fixedOf (execInterlockWaitEnd x0 x1) = some x1.fixed := by
  unfold execInterlockWaitEnd
  simp only []
  repeat' split
  all_goals simp

@[simp] theorem execTakeoverRampStart_fixed (x0 : ℕ) (x1 : State) :
    fixedOf (execTakeoverRampStart x0 x1) = some x1.fixed := by
  unfold execTakeoverRampStart
  simp only []
  split <;> simp

@[simp] theorem execSelfRelease_fixed (x0 : ℕ) (x1 : State) :
    fixedOf (execSelfRelease x0 x1) = some x1.fixed := by
  unfold execSelfRelease
  simp only []
  split <;> simp

@[simp] theorem execArbiterLost_fixed (x0 : ℕ) (x1 : State) :
    fixedOf (execArbiterLost x0 x1) = some x1.fixed := by
  unfold execArbiterLost
  simp only []
  split <;> simp

@[simp] theorem execSelfCheckPass_fixed (x0 : ℕ) (x1 : State) :
    fixedOf (execSelfCheckPass x0 x1) = some x1.fixed := by
  unfold execSelfCheckPass
  simp only []
  repeat' split
  all_goals simp

@[simp] theorem execRevertHoldoffEnd_fixed (x0 : ℕ) (x1 : State) :
    fixedOf (execRevertHoldoffEnd x0 x1) = some x1.fixed := by
  unfold execRevertHoldoffEnd
  simp only []
  repeat' split
  all_goals simp

@[simp] theorem State.sendArbBeat_fixed (x0 : State) (x1 : ℕ) :
    (State.sendArbBeat x0 x1).fixed = x0.fixed := by
  simp [State.sendArbBeat]

@[simp] theorem State.grantNew_fixed (x0 : State) (x1 : ℕ) (x2 : ℕ) :
    (State.grantNew x0 x1 x2).fixed = x0.fixed := by
  simp [State.grantNew]

@[simp] theorem State.beginChange_fixed (x0 : State) (x1 : ℕ) (x2 : ℕ) (x3 : Bool) (x4 : Bool) :
    (State.beginChange x0 x1 x2 x3 x4).fixed = x0.fixed := by
  simp [State.beginChange]

@[simp] theorem State.requestSwitch_fixed (x0 : State) (x1 : ℕ) (x2 : ℕ) :
    (State.requestSwitch x0 x1 x2).fixed = x0.fixed := by
  simp [State.requestSwitch]

@[simp] theorem State.nextSwitch_fixed (x0 : State) (x1 : ℕ) :
    (State.nextSwitch x0 x1).fixed = x0.fixed := by
  simp [State.nextSwitch]

@[simp] theorem State.grantTo_fixed (x0 : State) (x1 : ℕ) (x2 : ℕ) :
    (State.grantTo x0 x1 x2).fixed = x0.fixed := by
  simp [State.grantTo]

@[simp] theorem State.noCandidate_fixed (x0 : State) (x1 : ℕ) :
    (State.noCandidate x0 x1).fixed = x0.fixed := by
  simp [State.noCandidate]

@[simp] theorem State.finishChange_fixed (x0 : State) (x1 : ℕ) (x2 : ℕ) (x3 : Bool) (x4 : Bool) :
    (State.finishChange x0 x1 x2 x3 x4).fixed = x0.fixed := by
  simp [State.finishChange]

@[simp] theorem State.startArb_fixed (x0 : State) (x1 : ℕ) :
    (State.startArb x0 x1).fixed = x0.fixed := by
  simp [State.startArb]

@[simp] theorem execArbiterStart_fixed (x0 : ℕ) (x1 : ℕ) (x2 : State) :
    fixedOf (execArbiterStart x0 x1 x2) = some x2.fixed := by
  unfold execArbiterStart
  simp only []
  repeat' split
  all_goals simp

@[simp] theorem execHeartbeatSend_fixed (x0 : ℕ) (x1 : State) :
    fixedOf (execHeartbeatSend x0 x1) = some x1.fixed := by
  unfold execHeartbeatSend
  simp only []
  split <;> simp

@[simp] theorem State.holderFailed_fixed (x0 : State) (x1 : ℕ) (x2 : Bool) :
    (State.holderFailed x0 x1 x2).fixed = x0.fixed := by
  simp [State.holderFailed]

@[simp] theorem State.actOnBeat_fixed (x0 : State) (x1 : ℕ) (x2 : ℕ) (x3 : ℕ) (x4 : PairMsg) :
    (State.actOnBeat x0 x1 x2 x3 x4).fixed = x0.fixed := by
  simp [State.actOnBeat]

@[simp] theorem execHeartbeat_fixed (x0 : ℕ) (x1 : PairMsg) (x2 : State) :
    fixedOf (execHeartbeat x0 x1 x2) = some x2.fixed := by
  unfold execHeartbeat
  simp only []
  repeat' split
  all_goals simp

@[simp] theorem execHeartbeatWindow_fixed (x0 : ℕ) (x1 : ℕ) (x2 : ℕ) (x3 : State) :
    fixedOf (execHeartbeatWindow x0 x1 x2 x3) = some x3.fixed := by
  unfold execHeartbeatWindow
  simp only []
  repeat' split
  all_goals simp

@[simp] theorem execReleased_fixed (x0 : ℕ) (x1 : PairMsg) (x2 : State) :
    fixedOf (execReleased x0 x1 x2) = some x2.fixed := by
  unfold execReleased
  simp only []
  repeat' split
  all_goals simp

@[simp] theorem execRevokeTimeout_fixed (x0 : ℕ) (x1 : ℕ) (x2 : State) :
    fixedOf (execRevokeTimeout x0 x1 x2) = some x2.fixed := by
  unfold execRevokeTimeout
  simp only []
  repeat' split
  all_goals simp

end Sys2Proof.Machine
end

