-- ==== Sys2Proof/Laws/FixedListen.lean ====
section
/-!
SUPPORT. The operations of Machine/Listen.lean leave the rights and the queue of commands as they were.
-/

set_option autoImplicit false

namespace Sys2Proof.Machine

@[simp] theorem State.mapListen_fixed (x0 : State) (x1 : Listen → Listen) :
    (State.mapListen x0 x1).fixed = x0.fixed := by
  simp [State.mapListen]

@[simp] theorem State.mapRing_fixed (x0 : State) (x1 : Ring → Ring) :
    (State.mapRing x0 x1).fixed = x0.fixed := by
  simp [State.mapRing]

@[simp] theorem State.setFront_fixed (x0 : State) (x1 : Bool) :
    (State.setFront x0 x1).fixed = x0.fixed := by
  simp [State.setFront]

@[simp] theorem State.startListen_fixed (x0 : State) :
    (State.startListen x0).fixed = x0.fixed := by
  simp [State.startListen]

@[simp] theorem State.closeWindow_fixed (x0 : State) (x1 : MatchWin) (x2 : ℕ) (x3 : ℕ) (x4 : ℕ) :
    (State.closeWindow x0 x1 x2 x3 x4).fixed = x0.fixed := by
  simp [State.closeWindow]

@[simp] theorem State.abandonWindow_fixed (x0 : State) :
    (State.abandonWindow x0).fixed = x0.fixed := by
  unfold State.abandonWindow
  split <;> simp

@[simp] theorem State.stopListen_fixed (x0 : State) :
    (State.stopListen x0).fixed = x0.fixed := by
  simp [State.stopListen]

@[simp] theorem State.cutListen_fixed (x0 : State) :
    (State.cutListen x0).fixed = x0.fixed := by
  simp [State.cutListen]

@[simp] theorem State.ringSample_fixed (x0 : State) (x1 : Word) :
    (State.ringSample x0 x1).fixed = x0.fixed := by
  simp [State.ringSample]

@[simp] theorem State.ringFrame_fixed (x0 : State) (x1 : List Word) :
    (State.ringFrame x0 x1).fixed = x0.fixed := by
  unfold State.ringFrame
  repeat' split
  all_goals simp

@[simp] theorem State.ringRelease_fixed (x0 : State) :
    (State.ringRelease x0).fixed = x0.fixed := by
  simp [State.ringRelease]

@[simp] theorem State.splice_fixed (x0 : State) (x1 : ℕ) :
    (State.splice x0 x1).fixed = x0.fixed := by
  simp [State.splice]

@[simp] theorem State.tickSplice_fixed (x0 : State) (x1 : ℕ) :
    (State.tickSplice x0 x1).fixed = x0.fixed := by
  simp [State.tickSplice]

@[simp] theorem execRingOverlapEnd_fixed (x0 : ℕ) (x1 : State) :
    fixedOf (execRingOverlapEnd x0 x1) = some x1.fixed := by
  unfold execRingOverlapEnd
  simp only []
  split <;> simp

@[simp] theorem State.startReader_fixed (x0 : State) (x1 : ℕ) :
    (State.startReader x0 x1).fixed = x0.fixed := by
  simp [State.startReader]

@[simp] theorem State.readerSample_fixed (x0 : State) (x1 : ℕ) :
    (State.readerSample x0 x1).fixed = x0.fixed := by
  simp [State.readerSample]

@[simp] theorem State.tickReaders_fixed (x0 : State) :
    (State.tickReaders x0).fixed = x0.fixed := by
  simp [State.tickReaders]

@[simp] theorem execReaderAtEnd_fixed (x0 : ℕ) (x1 : ℕ) (x2 : State) :
    fixedOf (execReaderAtEnd x0 x1 x2) = some x2.fixed := by
  unfold execReaderAtEnd
  simp only []
  split <;> simp

@[simp] theorem State.openWindow_fixed (x0 : State) (x1 : Bool) :
    (State.openWindow x0 x1).fixed = x0.fixed := by
  simp [State.openWindow]

@[simp] theorem State.decideWindow_fixed (x0 : State) (x1 : MatchWin) (x2 : ℕ × ℕ × ℕ → ℕ) :
    (State.decideWindow x0 x1 x2).1.fixed = x0.fixed := by
  unfold State.decideWindow
  split <;> simp

@[simp] theorem State.matcherFrame_fixed (x0 : State) (x1 : List ℕ) (x2 : List ℕ) (x3 : ℕ) :
    (State.matcherFrame x0 x1 x2 x3).1.fixed = x0.fixed := by
  unfold State.matcherFrame
  simp only []
  repeat' split
  all_goals simp

@[simp] theorem State.stage1_fixed (x0 : State) (x1 : ℕ) (x2 : List Word) :
    (State.stage1 x0 x1 x2).1.fixed = x0.fixed := by
  simp [State.stage1]

@[simp] theorem State.detected_fixed (x0 : State) :
    (State.detected x0).fixed = x0.fixed := by
  simp [State.detected]

@[simp] theorem State.stage2_fixed (x0 : State) (x1 : ℕ) (x2 : Bool) :
    (State.stage2 x0 x1 x2).1.fixed = x0.fixed := by
  simp [State.stage2]

@[simp] theorem execHangEnd_fixed (x0 : ℕ) (x1 : State) :
    fixedOf (execHangEnd x0 x1) = some x1.fixed := by
  unfold execHangEnd
  simp only []
  split <;> simp

@[simp] theorem State.listenPoint_fixed (x0 : State) (x1 : ℕ) (x2 : FuncState) (x3 : List Sample) :
    (State.listenPoint x0 x1 x2 x3).fixed = x0.fixed := by
  simp [State.listenPoint]

@[simp] theorem State.listenFrame_fixed (x0 : State) (x1 : ListenEnv) :
    (State.listenFrame x0 x1).1.fixed = x0.fixed := by
  simp [State.listenFrame]

@[simp] theorem State.tickAwake_fixed (x0 : State) (x1 : ℕ) :
    (State.tickAwake x0 x1).fixed = x0.fixed := by
  simp [State.tickAwake]

@[simp] theorem State.listenWake_fixed (x0 : State) :
    (State.listenWake x0).fixed = x0.fixed := by
  simp [State.listenWake]

@[simp] theorem State.listenDescent_fixed (x0 : State) :
    (State.listenDescent x0).fixed = x0.fixed := by
  simp [State.listenDescent]

@[simp] theorem execFrontEndSettled_fixed (x0 : ℕ) (x1 : State) :
    fixedOf (execFrontEndSettled x0 x1) = some x1.fixed := by
  unfold execFrontEndSettled
  simp only []
  split <;> simp

@[simp] theorem execFeedSwitch_fixed (x0 : ℕ) (x1 : State) :
    fixedOf (execFeedSwitch x0 x1) = some x1.fixed := by
  unfold execFeedSwitch
  simp only []
  repeat' split
  all_goals simp

end Sys2Proof.Machine
end

