-- ==== Sys2Proof/Laws/FixedHousekeeping.lean ====
section
/-!
SUPPORT. The operations of Machine/Housekeeping.lean leave the rights and the queue of commands as they were.
-/

set_option autoImplicit false

namespace Sys2Proof.Machine

@[simp] theorem State.mapHk_fixed (x0 : State) (x1 : Hk → Hk) :
    (State.mapHk x0 x1).fixed = x0.fixed := by
  simp [State.mapHk]

@[simp] theorem State.setSlice_fixed (x0 : State) (x1 : ℕ) (x2 : Option HkConv) :
    (State.setSlice x0 x1 x2).fixed = x0.fixed := by
  simp [State.setSlice]

@[simp] theorem State.hkInvalidate_fixed (x0 : State) :
    (State.hkInvalidate x0).fixed = x0.fixed := by
  simp [State.hkInvalidate]

@[simp] theorem State.hkCalibrate_fixed (x0 : State) :
    (State.hkCalibrate x0).fixed = x0.fixed := by
  simp [State.hkCalibrate]

@[simp] theorem State.startScan_fixed (x0 : State) (x1 : ℕ) :
    (State.startScan x0 x1).fixed = x0.fixed := by
  simp [State.startScan]

@[simp] theorem State.hkTrigger_fixed (x0 : State) (x1 : ℕ) :
    (State.hkTrigger x0 x1).fixed = x0.fixed := by
  simp [State.hkTrigger]

@[simp] theorem State.timerGo_fixed (x0 : State) (x1 : ℕ) :
    (State.timerGo x0 x1).fixed = x0.fixed := by
  simp [State.timerGo]

@[simp] theorem State.settleTrigger_fixed (x0 : State) :
    (State.settleTrigger x0).fixed = x0.fixed := by
  simp [State.settleTrigger]

@[simp] theorem State.scanStarted_fixed (x0 : State) :
    (State.scanStarted x0).fixed = x0.fixed := by
  unfold State.scanStarted
  repeat' split
  all_goals simp

@[simp] theorem State.startHkScan_fixed (x0 : State) :
    (State.startHkScan x0).fixed = x0.fixed := by
  simp [State.startHkScan]

@[simp] theorem State.stopHkScan_fixed (x0 : State) :
    (State.stopHkScan x0).fixed = x0.fixed := by
  simp [State.stopHkScan]

@[simp] theorem State.beginConv_fixed (x0 : State) (x1 : ℕ) (x2 : HkReq) :
    (State.beginConv x0 x1 x2).fixed = x0.fixed := by
  simp [State.beginConv]

theorem State.hkNext_fixed (s u : State) (r : HkReq) (h : s.hkNext = some (r, u)) : u.fixed = s.fixed := by
  unfold State.hkNext at h
  repeat' split at h
  all_goals simp only [Option.some.injEq, Prod.mk.injEq, reduceCtorEq] at h
  all_goals
    obtain ⟨-, rfl⟩ := h
    simp

@[simp] theorem State.dispatchOne_fixed (x0 : State) :
    (State.dispatchOne x0).fixed = x0.fixed := by
  unfold State.dispatchOne
  split
  · next h => simp [State.hkNext_fixed _ _ _ h]
  · rfl

@[simp] theorem State.hkDispatch_fixed (x0 : State) :
    (State.hkDispatch x0).fixed = x0.fixed := by
  simp [State.hkDispatch]

@[simp] theorem State.rotateEnd_fixed (x0 : State) :
    (State.rotateEnd x0).fixed = x0.fixed := by
  unfold State.rotateEnd
  split <;> simp

@[simp] theorem State.rotate_fixed (x0 : State) :
    (State.rotate x0).fixed = x0.fixed := by
  simp [State.rotate]

@[simp] theorem State.startHk_fixed (x0 : State) :
    (State.startHk x0).fixed = x0.fixed := by
  simp [State.startHk]

@[simp] theorem State.cutHk_fixed (x0 : State) :
    (State.cutHk x0).fixed = x0.fixed := by
  simp [State.cutHk]

@[simp] theorem State.deliver_fixed (x0 : State) (x1 : ℕ) :
    (State.deliver x0 x1).fixed = x0.fixed := by
  simp [State.deliver]

@[simp] theorem State.finishConv_fixed (x0 : State) (x1 : ℕ) (x2 : HkConv) (x3 : ℤ) :
    (State.finishConv x0 x1 x2 x3).fixed = x0.fixed := by
  simp [State.finishConv]

@[simp] theorem execCalibrationComplete_fixed (x0 : ℕ) (x1 : State) :
    fixedOf (execCalibrationComplete x0 x1) = some x1.fixed := by
  unfold execCalibrationComplete
  simp only []
  repeat' split
  all_goals simp

@[simp] theorem execScanConversionDue_fixed (x0 : ℕ) (x1 : State) :
    fixedOf (execScanConversionDue x0 x1) = some x1.fixed := by
  unfold execScanConversionDue
  simp only []
  split <;> simp

@[simp] theorem execHkTimer_fixed (x0 : ℕ) (x1 : State) :
    fixedOf (execHkTimer x0 x1) = some x1.fixed := by
  unfold execHkTimer
  simp only []
  split <;> simp

@[simp] theorem execSupervisionScan_fixed (x0 : ℕ) (x1 : State) :
    fixedOf (execSupervisionScan x0 x1) = some x1.fixed := by
  unfold execSupervisionScan
  simp only []
  repeat' split
  all_goals simp

@[simp] theorem State.dropUrgent_fixed (x0 : State) :
    (State.dropUrgent x0).fixed = x0.fixed := by
  simp [State.dropUrgent]

@[simp] theorem State.urgentReq_fixed (x0 : State) (x1 : ℕ) (x2 : ℕ) :
    (State.urgentReq x0 x1 x2).fixed = x0.fixed := by
  simp [State.urgentReq]

@[simp] theorem State.hkEdge_fixed (x0 : State) (x1 : ℕ) :
    (State.hkEdge x0 x1).fixed = x0.fixed := by
  simp [State.hkEdge]

@[simp] theorem execPwmDelayEnd_fixed (x0 : ℕ) (x1 : State) :
    fixedOf (execPwmDelayEnd x0 x1) = some x1.fixed := by
  unfold execPwmDelayEnd
  simp only []
  repeat' split
  all_goals simp

@[simp] theorem execPwmEdgeEvent_fixed (x0 : ℕ) (x1 : ℕ) (x2 : State) :
    fixedOf (execPwmEdgeEvent x0 x1 x2) = some x2.fixed := by
  unfold execPwmEdgeEvent
  simp only []
  split <;> simp

@[simp] theorem State.changeRef_fixed (x0 : State) :
    (State.changeRef x0).fixed = x0.fixed := by
  simp [State.changeRef]

@[simp] theorem execRefSettled_fixed (x0 : ℕ) (x1 : State) :
    fixedOf (execRefSettled x0 x1) = some x1.fixed := by
  unfold execRefSettled
  simp only []
  split <;> simp

@[simp] theorem State.freeRun_fixed (x0 : State) :
    (State.freeRun x0).fixed = x0.fixed := by
  simp [State.freeRun]

@[simp] theorem State.loseMains_fixed (x0 : State) :
    (State.loseMains x0).fixed = x0.fixed := by
  simp [State.loseMains]

@[simp] theorem execMainsEdge_fixed (x0 : ℕ) (x1 : State) :
    fixedOf (execMainsEdge x0 x1) = some x1.fixed := by
  unfold execMainsEdge
  simp only []
  repeat' split
  all_goals simp

@[simp] theorem execMainsLoss_fixed (x0 : ℕ) (x1 : State) :
    fixedOf (execMainsLoss x0 x1) = some x1.fixed := by
  unfold execMainsLoss
  simp only []
  repeat' split
  all_goals simp

@[simp] theorem State.applyHk_fixed (x0 : State) (x1 : List ℕ) :
    (State.applyHk x0 x1).fixed = x0.fixed := by
  simp [State.applyHk]

@[simp] theorem State.writeHk_fixed (x0 : State) (x1 : ℕ) (x2 : ℕ) :
    (State.writeHk x0 x1 x2).fixed = x0.fixed := by
  unfold State.writeHk
  split <;> simp

@[simp] theorem State.clearFresh_fixed (x0 : State) :
    (State.clearFresh x0).fixed = x0.fixed := by
  simp [State.clearFresh]

end Sys2Proof.Machine
end

