-- ==== Sys2Proof/Laws/FixedMemory.lean ====
section
/-!
SUPPORT. The operations of Machine/Memory.lean leave the rights and the queue of commands as they were.
-/

set_option autoImplicit false

namespace Sys2Proof.Machine

@[simp] theorem State.mapMem_fixed (x0 : State) (x1 : Mem → Mem) :
    (State.mapMem x0 x1).fixed = x0.fixed := by
  simp [State.mapMem]

@[simp] theorem State.bgWait_fixed (x0 : State) :
    (State.bgWait x0).fixed = x0.fixed := by
  simp [State.bgWait]

@[simp] theorem State.memLate_fixed (x0 : State) :
    (State.memLate x0).fixed = x0.fixed := by
  simp [State.memLate]

@[simp] theorem State.startCap_fixed (x0 : State) (x1 : ℕ) :
    (State.startCap x0 x1).fixed = x0.fixed := by
  simp [State.startCap]

@[simp] theorem State.restCap_fixed (x0 : State) (x1 : ℕ) :
    (State.restCap x0 x1).fixed = x0.fixed := by
  simp [State.restCap]

@[simp] theorem State.startPlay_fixed (x0 : State) (x1 : ℕ) :
    (State.startPlay x0 x1).fixed = x0.fixed := by
  simp [State.startPlay]

@[simp] theorem State.tickCap_fixed (x0 : State) (x1 : List ℕ) (x2 : ℕ) :
    (State.tickCap x0 x1 x2).fixed = x0.fixed := by
  simp [State.tickCap]

@[simp] theorem State.tickPlay_fixed (x0 : State) (x1 : List ℕ) (x2 : ℕ) :
    (State.tickPlay x0 x1 x2).fixed = x0.fixed := by
  simp [State.tickPlay]

@[simp] theorem State.startTransport_fixed (x0 : State) (x1 : ℕ) (x2 : ℕ) :
    (State.startTransport x0 x1 x2).fixed = x0.fixed := by
  simp [State.startTransport]

@[simp] theorem State.stopTransport_fixed (x0 : State) (x1 : ℕ) :
    (State.stopTransport x0 x1).fixed = x0.fixed := by
  simp [State.stopTransport]

@[simp] theorem State.tickTransports_fixed (x0 : State) (x1 : ℕ) (x2 : ℕ) :
    (State.tickTransports x0 x1 x2).fixed = x0.fixed := by
  simp [State.tickTransports]

@[simp] theorem State.countTransports_fixed (x0 : State) (x1 : ℕ) :
    (State.countTransports x0 x1).fixed = x0.fixed := by
  simp [State.countTransports]

@[simp] theorem execTransportStart_fixed (x0 : ℕ) (x1 : ℕ) (x2 : State) :
    fixedOf (execTransportStart x0 x1 x2) = some x2.fixed := by
  unfold execTransportStart
  simp only []
  split <;> simp

@[simp] theorem State.applyTransport_fixed (x0 : State) (x1 : ℕ) :
    (State.applyTransport x0 x1).fixed = x0.fixed := by
  simp [State.applyTransport]

@[simp] theorem State.memEase_fixed (x0 : State) (x1 : MemCause) :
    (State.memEase x0 x1).fixed = x0.fixed := by
  simp [State.memEase]

@[simp] theorem State.memFaultFn_fixed (x0 : State) (x1 : Func) :
    (State.memFaultFn x0 x1).fixed = x0.fixed := by
  unfold State.memFaultFn
  split <;> simp

@[simp] theorem State.dropBuffers_fixed (x0 : State) :
    (State.dropBuffers x0).fixed = x0.fixed := by
  simp [State.dropBuffers]

@[simp] theorem State.memGateFn_fixed (x0 : State) (x1 : Func) :
    (State.memGateFn x0 x1).fixed = x0.fixed := by
  unfold State.memGateFn
  split <;> simp

@[simp] theorem State.memStop_fixed (x0 : State) (x1 : Bool) :
    (State.memStop x0 x1).fixed = x0.fixed := by
  simp [State.memStop]

@[simp] theorem State.memFault_fixed (x0 : State) (x1 : MemCause) :
    (State.memFault x0 x1).fixed = x0.fixed := by
  unfold State.memFault
  repeat' split
  all_goals simp

@[simp] theorem State.memPause_fixed (x0 : State) :
    (State.memPause x0).fixed = x0.fixed := by
  simp [State.memPause]

@[simp] theorem execMemFault_fixed (x0 : ℕ) (x1 : MemCause) (x2 : State) :
    fixedOf (execMemFault x0 x1 x2) = some x2.fixed := by
  simp [execMemFault]

@[simp] theorem State.beginTraining_fixed (x0 : State) :
    (State.beginTraining x0).fixed = x0.fixed := by
  simp [State.beginTraining]

@[simp] theorem execMemTrainingStart_fixed (x0 : ℕ) (x1 : State) :
    fixedOf (execMemTrainingStart x0 x1) = some x1.fixed := by
  unfold execMemTrainingStart
  simp only []
  split <;> simp

@[simp] theorem execMemTrainFail_fixed (x0 : ℕ) (x1 : State) :
    fixedOf (execMemTrainFail x0 x1) = some x1.fixed := by
  unfold execMemTrainFail
  simp only []
  repeat' split
  all_goals simp

@[simp] theorem execZqCalibration_fixed (x0 : ℕ) (x1 : State) :
    fixedOf (execZqCalibration x0 x1) = some x1.fixed := by
  unfold execZqCalibration
  simp only []
  split <;> simp

@[simp] theorem execDqsCheck_fixed (x0 : ℕ) (x1 : Bool) (x2 : State) :
    fixedOf (execDqsCheck x0 x1 x2) = some x2.fixed := by
  unfold execDqsCheck
  simp only []
  split <;> simp

@[simp] theorem execMr4Poll_fixed (x0 : ℕ) (x1 : ℕ) (x2 : Bool) (x3 : State) :
    fixedOf (execMr4Poll x0 x1 x2 x3) = some x3.fixed := by
  unfold execMr4Poll
  simp only []
  split <;> simp

@[simp] theorem execAutoRetrain_fixed (x0 : ℕ) (x1 : State) :
    fixedOf (execAutoRetrain x0 x1) = some x1.fixed := by
  unfold execAutoRetrain
  simp only []
  repeat' split
  all_goals simp

@[simp] theorem State.doRetrain_fixed (x0 : State) :
    (State.doRetrain x0).fixed = x0.fixed := by
  simp [State.doRetrain]

@[simp] theorem State.memUp_fixed (x0 : State) (x1 : ℕ) (x2 : ℕ) :
    (State.memUp x0 x1 x2).fixed = x0.fixed := by
  simp [State.memUp]

@[simp] theorem State.loadWindow_fixed (x0 : State) (x1 : ℕ) (x2 : ℕ) (x3 : List Byte) :
    (State.loadWindow x0 x1 x2 x3).fixed = x0.fixed := by
  simp [State.loadWindow]

end Sys2Proof.Machine
end

