-- ==== Sys2Proof/Laws/FixedLifecycle.lean ====
section
/-!
SUPPORT. The operations of Machine/Lifecycle.lean leave the rights and the queue of commands as they were.
-/

set_option autoImplicit false

namespace Sys2Proof.Machine

@[simp] theorem State.beginFn_fixed (x0 : State) (x1 : Func) :
    (State.beginFn x0 x1).fixed = x0.fixed := by
  unfold State.beginFn
  split <;> simp

@[simp] theorem State.tryStart_fixed (x0 : State) (x1 : Func) :
    (State.tryStart x0 x1).fixed = x0.fixed := by
  simp [State.tryStart]

@[simp] theorem State.startAll_fixed (x0 : State) :
    (State.startAll x0).fixed = x0.fixed := by
  simp [State.startAll]

@[simp] theorem State.ungate_fixed (x0 : State) :
    (State.ungate x0).fixed = x0.fixed := by
  simp [State.ungate]

@[simp] theorem State.resume_fixed (x0 : State) :
    (State.resume x0).fixed = x0.fixed := by
  simp [State.resume]

@[simp] theorem State.settleSapMux_fixed (x0 : State) (x1 : ℕ) (x2 : SapDir) :
    (State.settleSapMux x0 x1 x2).fixed = x0.fixed := by
  simp [State.settleSapMux]

@[simp] theorem State.settleSapMuxes_fixed (x0 : State) :
    (State.settleSapMuxes x0).fixed = x0.fixed := by
  simp [State.settleSapMuxes]

@[simp] theorem State.restFn_fixed (x0 : State) (x1 : Func) :
    (State.restFn x0 x1).fixed = x0.fixed := by
  unfold State.restFn
  split <;> simp

@[simp] theorem State.rampFn_fixed (x0 : State) (x1 : Func) :
    (State.rampFn x0 x1).fixed = x0.fixed := by
  unfold State.rampFn
  split <;> simp

@[simp] theorem State.disableFn_fixed (x0 : State) (x1 : Func) :
    (State.disableFn x0 x1).fixed = x0.fixed := by
  unfold State.disableFn
  split <;> simp

@[simp] theorem State.startOrHold_fixed (x0 : State) (x1 : Func) :
    (State.startOrHold x0 x1).fixed = x0.fixed := by
  simp [State.startOrHold]

@[simp] theorem State.enableFn_fixed (x0 : State) (x1 : Func) :
    (State.enableFn x0 x1).fixed = x0.fixed := by
  unfold State.enableFn
  split <;> simp

@[simp] theorem State.restartFn_fixed (x0 : State) (x1 : Func) :
    (State.restartFn x0 x1).fixed = x0.fixed := by
  unfold State.restartFn
  split <;> simp

@[simp] theorem State.stoppedFn_fixed (x0 : State) (x1 : Func) :
    (State.stoppedFn x0 x1).fixed = x0.fixed := by
  unfold State.stoppedFn
  split <;> simp

@[simp] theorem State.drainFn_fixed (x0 : State) (x1 : Func) :
    (State.drainFn x0 x1).fixed = x0.fixed := by
  simp [State.drainFn]

@[simp] theorem execDrainComplete_fixed (x0 : ℕ) (x1 : Func) (x2 : State) :
    fixedOf (execDrainComplete x0 x1 x2) = some x2.fixed := by
  unfold execDrainComplete
  simp only []
  split <;> simp

@[simp] theorem State.endRamp_fixed (x0 : State) (x1 : Func) :
    (State.endRamp x0 x1).fixed = x0.fixed := by
  unfold State.endRamp
  split <;> simp

@[simp] theorem execFunctionRampEnd_fixed (x0 : ℕ) (x1 : Func) (x2 : State) :
    fixedOf (execFunctionRampEnd x0 x1 x2) = some x2.fixed := by
  unfold execFunctionRampEnd
  simp only []
  repeat' split
  all_goals simp

@[simp] theorem execQuiesceForced_fixed (x0 : ℕ) (x1 : Func) (x2 : State) :
    fixedOf (execQuiesceForced x0 x1 x2) = some x2.fixed := by
  unfold execQuiesceForced
  simp only []
  split <;> simp

@[simp] theorem execStartPendingStart_fixed (x0 : ℕ) (x1 : Func) (x2 : State) :
    fixedOf (execStartPendingStart x0 x1 x2) = some x2.fixed := by
  unfold execStartPendingStart
  simp only []
  split <;> simp

@[simp] theorem execGainRampEnd_fixed (x0 : ℕ) (x1 : RampSite) (x2 : State) :
    fixedOf (execGainRampEnd x0 x1 x2) = some x2.fixed := by
  unfold execGainRampEnd
  split <;> simp

@[simp] theorem State.dropFn_fixed (x0 : State) (x1 : Func) :
    (State.dropFn x0 x1).fixed = x0.fixed := by
  unfold State.dropFn
  split <;> simp

@[simp] theorem State.dropDomain_fixed (x0 : State) (x1 : ℕ) :
    (State.dropDomain x0 x1).fixed = x0.fixed := by
  simp [State.dropDomain]

@[simp] theorem State.haltDom_fixed (x0 : State) (x1 : ℕ) :
    (State.haltDom x0 x1).fixed = x0.fixed := by
  unfold State.haltDom
  simp only []
  repeat' first | (simp; done) | split | refine (foldl_fixed _ _ _ (fun u x => ?_)).trans ?_

@[simp] theorem State.gateFabric_fixed (x0 : State) :
    (State.gateFabric x0).fixed = x0.fixed := by
  simp [State.gateFabric]

@[simp] theorem State.settleDoms_fixed (x0 : State) :
    (State.settleDoms x0).fixed = x0.fixed := by
  simp [State.settleDoms]

@[simp] theorem State.beginLayout_fixed (x0 : State) :
    (State.beginLayout x0).fixed = x0.fixed := by
  simp [State.beginLayout]

@[simp] theorem execLayoutRestart_fixed (x0 : ℕ) (x1 : State) :
    fixedOf (execLayoutRestart x0 x1) = some x1.fixed := by
  unfold execLayoutRestart
  simp only []
  split <;> simp

end Sys2Proof.Machine
end

