-- ==== Sys2Proof/Laws/FixedAvs.lean ====
section
/-!
SUPPORT. The operations of Machine/Avs.lean leave the rights and the queue of commands as they were.
-/

set_option autoImplicit false

namespace Sys2Proof.Machine

@[simp] theorem State.mapAvs_fixed (x0 : State) (x1 : Avs → Avs) :
    (State.mapAvs x0 x1).fixed = x0.fixed := by
  simp [State.mapAvs]

@[simp] theorem State.avsFlag_fixed (x0 : State) (x1 : ℕ) (x2 : Bool) :
    (State.avsFlag x0 x1 x2).fixed = x0.fixed := by
  simp [State.avsFlag]

@[simp] theorem State.avsStart_fixed (x0 : State) (x1 : PmbusOp) :
    (State.avsStart x0 x1).fixed = x0.fixed := by
  simp [State.avsStart]

@[simp] theorem State.avsRequest_fixed (x0 : State) (x1 : ℕ) :
    (State.avsRequest x0 x1).fixed = x0.fixed := by
  simp [State.avsRequest]

@[simp] theorem State.avsEntry_fixed (x0 : State) :
    (State.avsEntry x0).fixed = x0.fixed := by
  simp [State.avsEntry]

@[simp] theorem State.avsStop_fixed (x0 : State) :
    (State.avsStop x0).fixed = x0.fixed := by
  simp [State.avsStop]

@[simp] theorem State.avsNext_fixed (x0 : State) :
    (State.avsNext x0).fixed = x0.fixed := by
  simp [State.avsNext]

@[simp] theorem State.preRaise_fixed (x0 : State) (x1 : ℕ) :
    (State.preRaise x0 x1).1.fixed = x0.fixed := by
  simp [State.preRaise]

@[simp] theorem State.avsFail_fixed (x0 : State) :
    (State.avsFail x0).fixed = x0.fixed := by
  simp [State.avsFail]

@[simp] theorem State.avsFormat_fixed (x0 : State) (x1 : ℕ) :
    (State.avsFormat x0 x1).fixed = x0.fixed := by
  simp [State.avsFormat]

@[simp] theorem State.avsAcked_fixed (x0 : State) (x1 : ℕ) :
    (State.avsAcked x0 x1).fixed = x0.fixed := by
  simp [State.avsAcked]

@[simp] theorem execPmbusAck_fixed (x0 : ℕ) (x1 : PmbusResult) (x2 : State) :
    fixedOf (execPmbusAck x0 x1 x2) = some x2.fixed := by
  unfold execPmbusAck
  simp only []
  repeat' split
  all_goals simp

@[simp] theorem execPmbusRetry_fixed (x0 : ℕ) (x1 : State) :
    fixedOf (execPmbusRetry x0 x1) = some x1.fixed := by
  unfold execPmbusRetry
  simp only []
  split <;> simp

@[simp] theorem execAvsLostRetry_fixed (x0 : ℕ) (x1 : State) :
    fixedOf (execAvsLostRetry x0 x1) = some x1.fixed := by
  unfold execAvsLostRetry
  simp only []
  split <;> simp

@[simp] theorem execAvsHoldEnd_fixed (x0 : ℕ) (x1 : State) :
    fixedOf (execAvsHoldEnd x0 x1) = some x1.fixed := by
  unfold execAvsHoldEnd
  simp only []
  split <;> simp

@[simp] theorem State.avsEval_fixed (x0 : State) :
    (State.avsEval x0).fixed = x0.fixed := by
  unfold State.avsEval
  simp only []
  repeat' split
  all_goals simp

@[simp] theorem execAvsEvaluate_fixed (x0 : ℕ) (x1 : State) :
    fixedOf (execAvsEvaluate x0 x1) = some x1.fixed := by
  unfold execAvsEvaluate
  simp only []
  split <;> simp

@[simp] theorem State.avsMeasured_fixed (x0 : State) (x1 : ℕ) (x2 : ℕ) :
    (State.avsMeasured x0 x1 x2).fixed = x0.fixed := by
  simp [State.avsMeasured]

end Sys2Proof.Machine
end

