-- ==== Sys2Proof/Laws/FixedDomains.lean ====
section
/-!
SUPPORT. The operations of Machine/Domains.lean leave the rights and the queue of commands as they were.
-/

set_option autoImplicit false

namespace Sys2Proof.Machine

@[simp] theorem State.settleTalkback_fixed (x0 : State) :
    (State.settleTalkback x0).fixed = x0.fixed := by
  simp [State.settleTalkback]

@[simp] theorem State.refresh_fixed (x0 : State) :
    (State.refresh x0).fixed = x0.fixed := by
  simp [State.refresh]

@[simp] theorem State.setPd_fixed (x0 : State) (x1 : ℕ) (x2 : Phase) :
    (State.setPd x0 x1 x2).fixed = x0.fixed := by
  simp [State.setPd]

@[simp] theorem State.mapGov_fixed (x0 : State) (x1 : Governor → Governor) :
    (State.mapGov x0 x1).fixed = x0.fixed := by
  simp [State.mapGov]

@[simp] theorem State.requestDomain_fixed (x0 : State) (x1 : ℕ) :
    (State.requestDomain x0 x1).fixed = x0.fixed := by
  unfold State.requestDomain
  split <;> simp

@[simp] theorem State.requestWanted_fixed (x0 : State) :
    (State.requestWanted x0).fixed = x0.fixed := by
  simp [State.requestWanted]

@[simp] theorem State.loseCore_fixed (x0 : State) :
    (State.loseCore x0).fixed = x0.fixed := by
  simp [State.loseCore]

@[simp] theorem State.cutSyn_fixed (x0 : State) (x1 : Syn) :
    (State.cutSyn x0 x1).fixed = x0.fixed := by
  simp [State.cutSyn]

@[simp] theorem State.lostDomain_fixed (x0 : State) (x1 : ℕ) :
    (State.lostDomain x0 x1).fixed = x0.fixed := by
  unfold State.lostDomain
  split <;> simp

@[simp] theorem State.switchOff_fixed (x0 : State) (x1 : ℕ) :
    (State.switchOff x0 x1).fixed = x0.fixed := by
  unfold State.switchOff
  split <;> simp

@[simp] theorem State.applyKeepOff_fixed (x0 : State) (x1 : ℕ) :
    (State.applyKeepOff x0 x1).fixed = x0.fixed := by
  unfold State.applyKeepOff
  repeat' split
  all_goals simp

@[simp] theorem State.startNext_fixed (x0 : State) (x1 : ℕ) (x2 : ℕ) :
    (State.startNext x0 x1 x2).fixed = x0.fixed := by
  simp [State.startNext]

@[simp] theorem execGovernorWindow_fixed (x0 : ℕ) (x1 : State) :
    fixedOf (execGovernorWindow x0 x1) = some x1.fixed := by
  unfold execGovernorWindow
  simp only []
  split <;> simp

@[simp] theorem State.fillGov_fixed (x0 : State) :
    (State.fillGov x0).fixed = x0.fixed := by
  simp [State.fillGov]

@[simp] theorem execDomainFault_fixed (x0 : ℕ) (x1 : ℕ) (x2 : State) :
    fixedOf (execDomainFault x0 x1 x2) = some x2.fixed := by
  unfold execDomainFault
  simp only []
  split <;> simp

@[simp] theorem State.forgetFaults_fixed (x0 : State) :
    (State.forgetFaults x0).fixed = x0.fixed := by
  simp [State.forgetFaults]

end Sys2Proof.Machine
end

