-- ==== Sys2Proof/Laws/FixedPower.lean ====
section
/-!
SUPPORT. The operations of Machine/Power.lean leave the rights and the queue of commands as they were.
-/

set_option autoImplicit false

namespace Sys2Proof.Machine

@[simp] theorem State.stopXo_fixed (x0 : State) :
    (State.stopXo x0).fixed = x0.fixed := by
  simp [State.stopXo]

@[simp] theorem State.enterMode_fixed (x0 : State) (x1 : Mode) (x2 : ℕ) :
    (State.enterMode x0 x1 x2).fixed = x0.fixed := by
  unfold State.enterMode
  split <;> simp

@[simp] theorem State.abortTest_fixed (x0 : State) :
    (State.abortTest x0).fixed = x0.fixed := by
  unfold State.abortTest
  split <;> simp

@[simp] theorem State.enterCrimson_fixed (x0 : State) :
    (State.enterCrimson x0).fixed = x0.fixed := by
  simp [State.enterCrimson]

@[simp] theorem State.crimsonCuts_fixed (x0 : State) :
    (State.crimsonCuts x0).fixed = x0.fixed := by
  simp [State.crimsonCuts]

@[simp] theorem State.settleCauses_fixed (x0 : State) :
    (State.settleCauses x0).fixed = x0.fixed := by
  simp [State.settleCauses]

@[simp] theorem State.applyAck_fixed (x0 : State) :
    (State.applyAck x0).fixed = x0.fixed := by
  simp [State.applyAck]

@[simp] theorem State.disableAll_fixed (x0 : State) (x1 : Func → Bool) :
    (State.disableAll x0 x1).fixed = x0.fixed := by
  simp [State.disableAll]

@[simp] theorem State.beginLeave_fixed (x0 : State) :
    (State.beginLeave x0).fixed = x0.fixed := by
  simp [State.beginLeave]

@[simp] theorem State.applyTarget_fixed (x0 : State) :
    (State.applyTarget x0).fixed = x0.fixed := by
  unfold State.applyTarget
  repeat' split
  all_goals simp

@[simp] theorem execModeAdvance_fixed (x0 : ℕ) (x1 : State) :
    fixedOf (execModeAdvance x0 x1) = some x1.fixed := by
  unfold execModeAdvance
  simp only []
  split <;> simp

@[simp] theorem execCrimsonResume_fixed (x0 : ℕ) (x1 : State) :
    fixedOf (execCrimsonResume x0 x1) = some x1.fixed := by
  unfold execCrimsonResume
  simp only []
  split <;> simp

@[simp] theorem State.stopForDescent_fixed (x0 : State) (x1 : Mode) :
    (State.stopForDescent x0 x1).fixed = x0.fixed := by
  simp [State.stopForDescent]

@[simp] theorem execDescentBegin_fixed (x0 : ℕ) (x1 : State) :
    fixedOf (execDescentBegin x0 x1) = some x1.fixed := by
  unfold execDescentBegin
  simp only []
  repeat' first | (simp; done) | split | refine (foldl_fixed _ _ _ (fun u x => ?_)).trans ?_ | simp

@[simp] theorem State.settleListen_fixed (x0 : State) :
    (State.settleListen x0).fixed = x0.fixed := by
  unfold State.settleListen
  split <;> simp

@[simp] theorem State.endDescent_fixed (x0 : State) (x1 : Mode) :
    (State.endDescent x0 x1).fixed = x0.fixed := by
  simp [State.endDescent]

@[simp] theorem execDomainSwitchOff_fixed (x0 : ℕ) (x1 : State) :
    fixedOf (execDomainSwitchOff x0 x1) = some x1.fixed := by
  unfold execDomainSwitchOff
  simp only []
  repeat' split
  all_goals simp

@[simp] theorem State.powerUp_fixed (x0 : State) :
    (State.powerUp x0).fixed = x0.fixed := by
  simp [State.powerUp]

@[simp] theorem State.beginWake_fixed (x0 : State) (x1 : WakeSource) :
    (State.beginWake x0 x1).fixed = x0.fixed := by
  simp [State.beginWake]

@[simp] theorem State.restartDraining_fixed (x0 : State) :
    (State.restartDraining x0).fixed = x0.fixed := by
  unfold State.restartDraining
  refine (foldl_fixed _ _ _ (fun u x => ?_)).trans (by simp)
  repeat' split
  all_goals simp

@[simp] theorem State.cancelDescent_fixed (x0 : State) (x1 : WakeSource) (x2 : Bool) :
    (State.cancelDescent x0 x1 x2).fixed = x0.fixed := by
  simp [State.cancelDescent]

@[simp] theorem State.wake_fixed (x0 : State) (x1 : WakeSource) :
    (State.wake x0 x1).fixed = x0.fixed := by
  unfold State.wake
  repeat' split
  all_goals simp

@[simp] theorem execWakeSourceFire_fixed (x0 : ℕ) (x1 : WakeSource) (x2 : State) :
    fixedOf (execWakeSourceFire x0 x1 x2) = some x2.fixed := by
  unfold execWakeSourceFire
  simp only []
  repeat' split
  all_goals simp

@[simp] theorem execStaggerEnd_fixed (x0 : ℕ) (x1 : State) :
    fixedOf (execStaggerEnd x0 x1) = some x1.fixed := by
  unfold execStaggerEnd
  simp only []
  repeat' split
  all_goals simp

@[simp] theorem execBeaconReceive_fixed (x0 : ℕ) (x1 : ChPort) (x2 : ℕ) (x3 : ℕ) (x4 : Bool) (x5 : State) :
    fixedOf (execBeaconReceive x0 x1 x2 x3 x4 x5) = some x5.fixed := by
  unfold execBeaconReceive
  simp only []
  repeat' split
  all_goals simp

@[simp] theorem State.allOff_fixed (x0 : State) :
    (State.allOff x0).fixed = x0.fixed := by
  simp [State.allOff]

@[simp] theorem State.startUp_fixed (x0 : State) :
    (State.startUp x0).fixed = x0.fixed := by
  simp [State.startUp]

@[simp] theorem State.enterAsh_fixed (x0 : State) (x1 : ℕ) :
    (State.enterAsh x0 x1).fixed = x0.fixed := by
  simp [State.enterAsh]

@[simp] theorem execResetClampEnd_fixed (x0 : ℕ) (x1 : State) :
    fixedOf (execResetClampEnd x0 x1) = some x1.fixed := by
  unfold execResetClampEnd
  simp only []
  split <;> simp

@[simp] theorem execResetNHigh_fixed (x0 : ℕ) (x1 : ℕ) (x2 : ℕ) (x3 : State) :
    fixedOf (execResetNHigh x0 x1 x2 x3) = some x3.fixed := by
  unfold execResetNHigh
  simp only []
  repeat' split
  all_goals simp

@[simp] theorem State.loseAvdd33_fixed (x0 : State) :
    (State.loseAvdd33 x0).fixed = x0.fixed := by
  simp [State.loseAvdd33]

@[simp] theorem execAvdd33Low_fixed (x0 : ℕ) (x1 : State) :
    fixedOf (execAvdd33Low x0 x1) = some x1.fixed := by
  simp [execAvdd33Low]

@[simp] theorem execPowerOn_fixed (x0 : ℕ) (x1 : ℕ) (x2 : State) :
    fixedOf (execPowerOn x0 x1 x2) = some x2.fixed := by
  unfold execPowerOn
  simp only []
  split <;> simp

@[simp] theorem State.flushDiscards_fixed (x0 : State) :
    (State.flushDiscards x0).fixed = x0.fixed := by
  simp [State.flushDiscards]

@[simp] theorem State.coreUp_fixed (x0 : State) :
    (State.coreUp x0).fixed = x0.fixed := by
  simp [State.coreUp]

@[simp] theorem execDomainPowerGood_fixed (x0 : ℕ) (x1 : ℕ) (x2 : State) :
    fixedOf (execDomainPowerGood x0 x1 x2) = some x2.fixed := by
  unfold execDomainPowerGood
  simp only []
  repeat' split
  all_goals simp

@[simp] theorem execCmReady_fixed (x0 : ℕ) (x1 : ℕ) (x2 : State) :
    fixedOf (execCmReady x0 x1 x2) = some x2.fixed := by
  unfold execCmReady
  simp only []
  split <;> simp

@[simp] theorem execHpBiasReady_fixed (x0 : ℕ) (x1 : State) :
    fixedOf (execHpBiasReady x0 x1) = some x1.fixed := by
  unfold execHpBiasReady
  simp only []
  split <;> simp

end Sys2Proof.Machine
end

