-- ==== Sys2Proof/Laws/FixedClockEvents.lean ====
section
/-!
SUPPORT. The operations of Machine/ClockEvents.lean leave the rights and the queue of commands as they were.
-/

set_option autoImplicit false

namespace Sys2Proof.Machine

@[simp] theorem execXoNoStart_fixed (x0 : ℕ) (x1 : State) :
    fixedOf (execXoNoStart x0 x1) = some x1.fixed := by
  unfold execXoNoStart
  simp only []
  split <;> simp

@[simp] theorem execXoStabilityCountDone_fixed (x0 : ℕ) (x1 : ℕ) (x2 : State) :
    fixedOf (execXoStabilityCountDone x0 x1 x2) = some x2.fixed := by
  unfold execXoStabilityCountDone
  simp only []
  repeat' split
  all_goals simp

@[simp] theorem State.loseSynS_fixed (x0 : State) :
    (State.loseSynS x0).fixed = x0.fixed := by
  simp [State.loseSynS]

@[simp] theorem State.missXo_fixed (x0 : State) :
    (State.missXo x0).fixed = x0.fixed := by
  simp [State.missXo]

@[simp] theorem State.lockSyn_fixed (x0 : State) (x1 : Syn) :
    (State.lockSyn x0 x1).fixed = x0.fixed := by
  simp [State.lockSyn]

@[simp] theorem State.unlockSyn_fixed (x0 : State) (x1 : Syn) (x2 : Bool) :
    (State.unlockSyn x0 x1 x2).fixed = x0.fixed := by
  simp [State.unlockSyn]

@[simp] theorem State.declareSyn_fixed (x0 : State) (x1 : Syn) (x2 : Bool) (x3 : Bool) :
    (State.declareSyn x0 x1 x2 x3).fixed = x0.fixed := by
  simp [State.declareSyn]

@[simp] theorem State.declareLoss_fixed (x0 : State) (x1 : Syn) (x2 : Bool) :
    (State.declareLoss x0 x1 x2).fixed = x0.fixed := by
  simp [State.declareLoss]

@[simp] theorem State.pauseSynS_fixed (x0 : State) :
    (State.pauseSynS x0).fixed = x0.fixed := by
  simp [State.pauseSynS]

@[simp] theorem State.applyRefScale_fixed (x0 : State) (x1 : Syn) :
    (State.applyRefScale x0 x1).fixed = x0.fixed := by
  simp [State.applyRefScale]

@[simp] theorem State.sapSwitched_fixed (x0 : State) (x1 : ℕ) (x2 : SapDir) :
    (State.sapSwitched x0 x1 x2).fixed = x0.fixed := by
  simp [State.sapSwitched]

@[simp] theorem execMuxSwitchComplete_fixed (x0 : ℕ) (x1 : Mux) (x2 : State) :
    fixedOf (execMuxSwitchComplete x0 x1 x2) = some x2.fixed := by
  unfold execMuxSwitchComplete
  simp only []
  repeat' split
  all_goals simp

@[simp] theorem State.hangMux_fixed (x0 : State) (x1 : Mux) :
    (State.hangMux x0 x1).fixed = x0.fixed := by
  unfold State.hangMux
  split <;> simp

@[simp] theorem State.forceSwitch_fixed (x0 : State) (x1 : Mux) :
    (State.forceSwitch x0 x1).fixed = x0.fixed := by
  unfold State.forceSwitch
  split <;> simp

@[simp] theorem State.settlePrearm_fixed (x0 : State) :
    (State.settlePrearm x0).fixed = x0.fixed := by
  unfold State.settlePrearm
  split <;> simp

@[simp] theorem execListenFrame_fixed (x0 : ℕ) (x1 : ListenEnv) (x2 : State) :
    fixedOf (execListenFrame x0 x1 x2) = some x2.fixed := by
  simp [execListenFrame]

@[simp] theorem execMatcherFrame_fixed (x0 : ℕ) (x1 : List ℕ) (x2 : List ℕ) (x3 : ℕ) (x4 : State) :
    fixedOf (execMatcherFrame x0 x1 x2 x3 x4) = some x4.fixed := by
  simp [execMatcherFrame]

@[simp] theorem State.startFlows_fixed (x0 : State) :
    (State.startFlows x0).fixed = x0.fixed := by
  simp [State.startFlows]

@[simp] theorem execShare_fixed (x0 : ℕ) (x1 : ShareMsg) (x2 : State) :
    fixedOf (execShare x0 x1 x2) = some x2.fixed := by
  unfold execShare
  split <;> simp

@[simp] theorem execLinkUp_fixed (x0 : ℕ) (x1 : ChPort) (x2 : State) :
    fixedOf (execLinkUp x0 x1 x2) = some x2.fixed := by
  unfold execLinkUp
  simp only []
  split <;> simp

@[simp] theorem execEdgeTimeout_fixed (x0 : ℕ) (x1 : ChPort) (x2 : State) :
    fixedOf (execEdgeTimeout x0 x1 x2) = some x2.fixed := by
  unfold execEdgeTimeout
  simp only []
  split <;> simp

@[simp] theorem execHeadElection_fixed (x0 : ℕ) (x1 : State) :
    fixedOf (execHeadElection x0 x1) = some x1.fixed := by
  unfold execHeadElection
  simp only []
  repeat' split
  all_goals simp

@[simp] theorem execTopology_fixed (x0 : ℕ) (x1 : ChPort) (x2 : TopoMsg) (x3 : State) :
    fixedOf (execTopology x0 x1 x2 x3) = some x3.fixed := by
  unfold execTopology
  simp only []
  split <;> simp

@[simp] theorem execChainJoin_fixed (x0 : ℕ) (x1 : State) :
    fixedOf (execChainJoin x0 x1) = some x1.fixed := by
  unfold execChainJoin
  simp only []
  split <;> simp

@[simp] theorem execCycleStart_fixed (x0 : ℕ) (x1 : ChPort) (x2 : CycleStartFrame) (x3 : State) :
    fixedOf (execCycleStart x0 x1 x2 x3) = some x3.fixed := by
  unfold execCycleStart
  simp only []
  repeat' split
  all_goals simp

@[simp] theorem execCycleStartSend_fixed (x0 : ℕ) (x1 : State) :
    fixedOf (execCycleStartSend x0 x1) = some x1.fixed := by
  unfold execCycleStartSend
  simp only []
  split <;> simp

@[simp] theorem execMemReady_fixed (x0 : ℕ) (x1 : ℕ) (x2 : ℕ) (x3 : State) :
    fixedOf (execMemReady x0 x1 x2 x3) = some x3.fixed := by
  unfold execMemReady
  simp only []
  split <;> simp

end Sys2Proof.Machine
end

