-- ==== Sys2Proof/Laws/FixedSupervision.lean ====
section
/-!
SUPPORT. The operations of Machine/Supervision.lean leave the rights and the queue of commands as they were.
-/

set_option autoImplicit false

namespace Sys2Proof.Machine

@[simp] theorem State.faultPwm_fixed (x0 : State) :
    (State.faultPwm x0).fixed = x0.fixed := by
  simp [State.faultPwm]

@[simp] theorem State.recoverPwm_fixed (x0 : State) :
    (State.recoverPwm x0).fixed = x0.fixed := by
  simp [State.recoverPwm]

@[simp] theorem State.trip_fixed (x0 : State) (x1 : Rail) :
    (State.trip x0 x1).fixed = x0.fixed := by
  unfold State.trip
  repeat' split
  all_goals simp

@[simp] theorem State.untrip_fixed (x0 : State) (x1 : Rail) :
    (State.untrip x0 x1).fixed = x0.fixed := by
  unfold State.untrip
  repeat' split
  all_goals simp

@[simp] theorem State.tripAny_fixed (x0 : State) (x1 : Rail) :
    (State.tripAny x0 x1).fixed = x0.fixed := by
  simp [State.tripAny]

@[simp] theorem execSupplyClear_fixed (x0 : ℕ) (x1 : Rail) (x2 : State) :
    fixedOf (execSupplyClear x0 x1 x2) = some x2.fixed := by
  simp [execSupplyClear]

@[simp] theorem State.judge_fixed (x0 : State) (x1 : Rail) (x2 : ℚ) (x3 : Option ℚ) :
    (State.judge x0 x1 x2 x3).fixed = x0.fixed := by
  unfold State.judge
  split <;> simp

@[simp] theorem State.judgeHeat_fixed (x0 : State) :
    (State.judgeHeat x0).fixed = x0.fixed := by
  unfold State.judgeHeat
  split <;> simp

@[simp] theorem State.supervise_fixed (x0 : State) (x1 : ℕ) (x2 : ℕ) :
    (State.supervise x0 x1 x2).fixed = x0.fixed := by
  unfold State.supervise
  repeat' split
  all_goals simp

@[simp] theorem State.conversionDone_fixed (x0 : State) (x1 : ℕ) (x2 : ℤ) :
    (State.conversionDone x0 x1 x2).fixed = x0.fixed := by
  unfold State.conversionDone
  split <;> simp

end Sys2Proof.Machine
end

