-- ==== Sys2Proof/Laws/FixedDiag.lean ====
section
/-!
SUPPORT. The operations of Machine/Diag.lean leave the rights and the queue of commands as they were.
-/

set_option autoImplicit false

namespace Sys2Proof.Machine

@[simp] theorem State.claimCounter_fixed (x0 : State) (x1 : ℕ) (x2 : ℕ) :
    (State.claimCounter x0 x1 x2).fixed = x0.fixed := by
  simp [State.claimCounter]

@[simp] theorem State.clearCounter_fixed (x0 : State) (x1 : ℕ) :
    (State.clearCounter x0 x1).fixed = x0.fixed := by
  simp [State.clearCounter]

@[simp] theorem State.takeSnap_fixed (x0 : State) (x1 : ℕ) (x2 : Bool) (x3 : Bool) :
    (State.takeSnap x0 x1 x2 x3).fixed = x0.fixed := by
  simp [State.takeSnap]

@[simp] theorem State.armSnap_fixed (x0 : State) (x1 : ℕ) (x2 : ℕ) (x3 : Bool) :
    (State.armSnap x0 x1 x2 x3).fixed = x0.fixed := by
  simp [State.armSnap]

@[simp] theorem State.snapChain_fixed (x0 : State) :
    (State.snapChain x0).fixed = x0.fixed := by
  simp [State.snapChain]

@[simp] theorem execSnapshot_fixed (x0 : ℕ) (x1 : ℕ) (x2 : ℕ) (x3 : State) :
    fixedOf (execSnapshot x0 x1 x2 x3) = some x3.fixed := by
  unfold execSnapshot
  simp only []
  split <;> simp

@[simp] theorem execSnapAtReached_fixed (x0 : ℕ) (x1 : State) :
    fixedOf (execSnapAtReached x0 x1) = some x1.fixed := by
  unfold execSnapAtReached
  simp only []
  repeat' split
  all_goals simp

@[simp] theorem State.enterTest_fixed (x0 : State) :
    (State.enterTest x0).fixed = x0.fixed := by
  unfold State.enterTest
  split <;> simp

@[simp] theorem State.endTests_fixed (x0 : State) :
    (State.endTests x0).fixed = x0.fixed := by
  simp [State.endTests]

@[simp] theorem State.runTests_fixed (x0 : State) :
    (State.runTests x0).fixed = x0.fixed := by
  simp [State.runTests]

@[simp] theorem execTestItemComplete_fixed (x0 : ℕ) (x1 : ℕ) (x2 : State) :
    fixedOf (execTestItemComplete x0 x1 x2) = some x2.fixed := by
  unfold execTestItemComplete
  simp only []
  repeat' split
  all_goals simp

end Sys2Proof.Machine
end

