-- ==== Sys2Proof/Laws/FixedDictionary.lean ====
section
/-!
SUPPORT. The operations of Machine/Dictionary.lean leave the rights and the queue of commands as they were.
-/

set_option autoImplicit false

namespace Sys2Proof.Machine

@[simp] theorem State.settleNotify_fixed (x0 : State) :
    (State.settleNotify x0).fixed = x0.fixed := by
  simp [State.settleNotify]

@[simp] theorem State.attnRead_fixed (x0 : State) :
    (State.attnRead x0).fixed = x0.fixed := by
  simp [State.attnRead]

@[simp] theorem State.afterRead_fixed (x0 : State) (x1 : ℕ) (x2 : ℕ) :
    (State.afterRead x0 x1 x2).fixed = x0.fixed := by
  simp [State.afterRead]

end Sys2Proof.Machine
end

