-- ==== Sys2Proof/Laws/FixedApply.lean ====
section
/-!
SUPPORT. The operations of Machine/Apply.lean leave the rights and the queue of commands as they were.
-/

set_option autoImplicit false

namespace Sys2Proof.Machine

@[simp] theorem State.programFlash_fixed (x0 : State) (x1 : List Byte) :
    (State.programFlash x0 x1).fixed = x0.fixed := by
  simp [State.programFlash]

@[simp] theorem State.applyBlock_fixed (x0 : State) (x1 : WItem) :
    (State.applyBlock x0 x1).fixed = x0.fixed := by
  simp [State.applyBlock]

@[simp] theorem State.applyAction_fixed (x0 : State) (x1 : WItem) :
    (State.applyAction x0 x1).fixed = x0.fixed := by
  unfold State.applyAction
  simp only []
  repeat' first | (simp; done) | split | refine (foldl_fixed _ _ _ (fun u x => ?_)).trans ?_ | simp

@[simp] theorem State.applyPlane_fixed (x0 : State) (x1 : ℕ) (x2 : List ℕ) :
    (State.applyPlane x0 x1 x2).fixed = x0.fixed := by
  simp [State.applyPlane]

@[simp] theorem State.applyControl_fixed (x0 : State) (x1 : List WItem) (x2 : ℕ) (x3 : List ℕ) :
    (State.applyControl x0 x1 x2 x3).fixed = x0.fixed := by
  simp [State.applyControl]

@[simp] theorem State.settleEnable_fixed (x0 : State) (x1 : State) (x2 : Func) :
    (State.settleEnable x0 x1 x2).fixed = x1.fixed := by
  simp [State.settleEnable]

@[simp] theorem State.markPending_fixed (x0 : State) (x1 : State) (x2 : State) (x3 : List WItem) :
    (State.markPending x0 x1 x2 x3).fixed = x0.fixed := by
  unfold State.markPending
  refine foldl_fixed _ _ _ fun u f => ?_
  dsimp only
  split <;> simp

@[simp] theorem State.takeXfades_fixed (x0 : State) (x1 : List WItem) :
    (State.takeXfades x0 x1).fixed = x0.fixed := by
  simp [State.takeXfades]

@[simp] theorem State.noteApplied_fixed (x0 : State) (x1 : Part) (x2 : ℕ) :
    (State.noteApplied x0 x1 x2).fixed = x0.fixed := by
  simp [State.noteApplied]

/-- What is done to each function of a rate domain keeps the part if each of them does. -/
@[simp] theorem State.eachIn_fixed (s : State) (d : Nat) (g : State → Func → State) (h : ∀ u f, (g u f).fixed = u.fixed) :
    (s.eachIn d g).fixed = s.fixed := by
  simp [State.eachIn, h]

@[simp] theorem State.tickEnds_fixed (x0 : State) (x1 : ℕ) :
    (State.tickEnds x0 x1).fixed = x0.fixed := by
  unfold State.tickEnds
  refine (foldl_fixed _ _ _ (fun u x => ?_)).trans (by simp)
  repeat' split
  all_goals simp

end Sys2Proof.Machine
end

