-- ==== Sys2Proof/Laws/FixedControl.lean ====
section
/-!
SUPPORT. The operations of Machine/Control.lean leave the rights and the queue of commands as they were.
-/

set_option autoImplicit false

namespace Sys2Proof.Machine

@[simp] theorem State.plain_fixed (x0 : State) (x1 : ℕ) (x2 : List Byte) :
    (State.plain x0 x1 x2).s.fixed = x0.fixed := by
  simp [State.plain]

@[simp] theorem State.logged_fixed (x0 : State) (x1 : Requester) (x2 : ℕ) (x3 : EntryKind) (x4 : Body) (x5 : Bool) (x6 : ℕ) :
    (State.logged x0 x1 x2 x3 x4 x5 x6).s.fixed = x0.fixed := by
  simp [State.logged]

@[simp] theorem State.mapReq_fixed (x0 : State) (x1 : Requester) (x2 : ReqState → ReqState) :
    (State.mapReq x0 x1 x2).fixed = x0.fixed := by
  simp [State.mapReq]

@[simp] theorem State.releaseCursor_fixed (x0 : State) (x1 : Requester) :
    (State.releaseCursor x0 x1).fixed = x0.fixed := by
  unfold State.releaseCursor
  split <;> simp

@[simp] theorem State.readEntries_fixed (x0 : State) (x1 : Requester) (x2 : ℕ) :
    (State.readEntries x0 x1 x2).s.fixed = x0.fixed := by
  unfold State.readEntries
  simp only []
  repeat' split
  all_goals simp

@[simp] theorem State.openRead_fixed (x0 : State) (x1 : Requester) (x2 : Body) (x3 : Row) :
    (State.openRead x0 x1 x2 x3).s.fixed = x0.fixed := by
  unfold State.openRead
  simp only []
  repeat' split
  all_goals simp

@[simp] theorem State.execRead_fixed (x0 : State) (x1 : Requester) (x2 : Body) :
    (State.execRead x0 x1 x2).s.fixed = x0.fixed := by
  unfold State.execRead
  repeat' split
  all_goals simp

@[simp] theorem State.execBlockRead_fixed (x0 : State) (x1 : Requester) (x2 : Body) :
    (State.execBlockRead x0 x1 x2).s.fixed = x0.fixed := by
  unfold State.execBlockRead
  simp only []
  repeat' split
  all_goals simp

@[simp] theorem State.releaseBuffer_fixed (x0 : State) (x1 : Requester) :
    (State.releaseBuffer x0 x1).fixed = x0.fixed := by
  simp [State.releaseBuffer]

@[simp] theorem State.openBlock_fixed (x0 : State) (x1 : Requester) (x2 : ℕ) (x3 : Body) :
    (State.openBlock x0 x1 x2 x3).s.fixed = x0.fixed := by
  unfold State.openBlock
  simp only []
  repeat' split
  all_goals simp

@[simp] theorem State.execSegment_fixed (x0 : State) (x1 : Requester) (x2 : Body) :
    (State.execSegment x0 x1 x2).s.fixed = x0.fixed := by
  unfold State.execSegment
  simp only []
  repeat' split
  all_goals simp

@[simp] theorem State.applyOwn_fixed (x0 : State) (x1 : Requester) (x2 : ℕ) (x3 : List WItem) :
    (State.applyOwn x0 x1 x2 x3).fixed = x0.fixed := by
  simp [State.applyOwn]

@[simp] theorem State.discardSet_fixed (x0 : State) (x1 : Requester) (x2 : ℕ) (x3 : ℕ) :
    (State.discardSet x0 x1 x2 x3).fixed = x0.fixed := by
  simp [State.discardSet]

@[simp] theorem State.writeCursor_fixed (x0 : State) (x1 : Requester) (x2 : ℕ) :
    (State.writeCursor x0 x1 x2).s.fixed = x0.fixed := by
  unfold State.writeCursor
  repeat' split
  all_goals simp

@[simp] theorem State.accessGate_fixed (x0 : State) (x1 : ℕ) :
    (State.accessGate x0 x1).fixed = x0.fixed := by
  unfold State.accessGate
  repeat' split
  all_goals simp

@[simp] theorem State.sendResponse_fixed (x0 : State) (x1 : ℕ) (x2 : ℕ) (x3 : Response) :
    (State.sendResponse x0 x1 x2 x3).fixed = x0.fixed := by
  simp [State.sendResponse]

@[simp] theorem State.twbSends_fixed (x0 : State) (x1 : ℕ) (x2 : List Byte) :
    (State.twbSends x0 x1 x2).fixed = x0.fixed := by
  simp [State.twbSends]

@[simp] theorem State.give_fixed (x0 : State) (x1 : Requester) (x2 : Response) :
    (State.give x0 x1 x2).fixed = x0.fixed := by
  simp [State.give]

@[simp] theorem State.answer_fixed (x0 : State) (x1 : Requester) (x2 : QEntry) (x3 : Response) :
    (State.answer x0 x1 x2 x3).fixed = x0.fixed := by
  unfold State.answer
  repeat' split
  all_goals simp

@[simp] theorem State.dropHost_fixed (x0 : State) :
    (State.dropHost x0).fixed = x0.fixed := by
  simp [State.dropHost]

@[simp] theorem State.busGate_fixed (x0 : State) (x1 : Requester) :
    (State.busGate x0 x1).fixed = x0.fixed := by
  unfold State.busGate
  split <;> simp

@[simp] theorem State.arrive_fixed (x0 : State) (x1 : Requester) (x2 : QEntry) :
    (State.arrive x0 x1 x2).fixed = x0.fixed := by
  unfold State.arrive
  repeat' split
  all_goals simp

@[simp] theorem execTransactionArrive_fixed (x0 : ℕ) (x1 : Req) (x2 : List Byte) (x3 : State) :
    fixedOf (execTransactionArrive x0 x1 x2 x3) = some x3.fixed := by
  unfold execTransactionArrive
  split <;> simp

@[simp] theorem execStageTimeout_fixed (x0 : ℕ) (x1 : Requester) (x2 : State) :
    fixedOf (execStageTimeout x0 x1 x2) = some x2.fixed := by
  unfold execStageTimeout
  simp only []
  repeat' split
  all_goals simp

end Sys2Proof.Machine
end

