-- ==== Sys2Proof/Laws/FixedAborts.lean ====
section
/-!
SUPPORT. The operations of Machine/Aborts.lean leave the rights and the queue of commands as they were.
-/

set_option autoImplicit false

namespace Sys2Proof.Machine

@[simp] theorem State.abortHead_fixed (x0 : State) (x1 : ℕ) (x2 : Requester) (x3 : QEntry) (x4 : List QEntry) (x5 : Body) (x6 : ℕ) :
    (State.abortHead x0 x1 x2 x3 x4 x5 x6).fixed = x0.fixed := by
  unfold State.abortHead
  split <;> simp

@[simp] theorem State.abortFrom_fixed (x0 : State) (x1 : State) :
    (State.abortFrom x0 x1).fixed = x1.fixed := by
  unfold State.abortFrom
  repeat' split
  all_goals simp

/-- An event that may gate clocks keeps the part if what it does keeps it. -/
@[simp] theorem State.gating_fixed (s : State) (t : Nat) (f : State → State) (h : ∀ u, (f u).fixed = u.fixed) :
    fixedOf (s.gating t f) = some s.fixed := by
  simp [State.gating, h]

@[simp] theorem execXoMissingEdge_fixed (x0 : ℕ) (x1 : State) :
    fixedOf (execXoMissingEdge x0 x1) = some x1.fixed := by
  unfold execXoMissingEdge
  repeat' split
  all_goals simp

@[simp] theorem execSynLock_fixed (x0 : ℕ) (x1 : Syn) (x2 : Bool) (x3 : Bool) (x4 : State) :
    fixedOf (execSynLock x0 x1 x2 x3 x4) = some x4.fixed := by
  simp [execSynLock]

@[simp] theorem execSynUnlock_fixed (x0 : ℕ) (x1 : Syn) (x2 : Bool) (x3 : State) :
    fixedOf (execSynUnlock x0 x1 x2 x3) = some x3.fixed := by
  unfold execSynUnlock
  repeat' split
  all_goals simp

@[simp] theorem execMuxHang_fixed (x0 : ℕ) (x1 : Mux) (x2 : State) :
    fixedOf (execMuxHang x0 x1 x2) = some x2.fixed := by
  simp [execMuxHang]

@[simp] theorem execSupplyTrip_fixed (x0 : ℕ) (x1 : Rail) (x2 : State) :
    fixedOf (execSupplyTrip x0 x1 x2) = some x2.fixed := by
  unfold execSupplyTrip
  repeat' split
  all_goals simp

@[simp] theorem execHkConversionComplete_fixed (x0 : ℕ) (x1 : ℕ) (x2 : ℤ) (x3 : State) :
    fixedOf (execHkConversionComplete x0 x1 x2 x3) = some x3.fixed := by
  simp [execHkConversionComplete]

end Sys2Proof.Machine
end

