-- ==== Sys2Proof/Laws/FixedJournal.lean ====
section
/-!
SUPPORT. The operations of Machine/Journal.lean leave the rights and the queue of commands as they were.
-/

set_option autoImplicit false

namespace Sys2Proof.Machine

@[simp] theorem State.mapJournal_fixed (x0 : State) (x1 : Journal → Journal) :
    (State.mapJournal x0 x1).fixed = x0.fixed := by
  simp [State.mapJournal]

@[simp] theorem State.mirrorSkip_fixed (x0 : State) :
    (State.mirrorSkip x0).fixed = x0.fixed := by
  simp [State.mirrorSkip]

@[simp] theorem execMirrorCopy_fixed (x0 : ℕ) (x1 : State) :
    fixedOf (execMirrorCopy x0 x1) = some x1.fixed := by
  unfold execMirrorCopy
  simp only []
  split <;> simp

@[simp] theorem execMirrorResume_fixed (x0 : ℕ) (x1 : State) :
    fixedOf (execMirrorResume x0 x1) = some x1.fixed := by
  unfold execMirrorResume
  simp only []
  split <;> simp

@[simp] theorem State.pushFrame_fixed (x0 : State) (x1 : ℕ) (x2 : ℕ) :
    (State.pushFrame x0 x1 x2).fixed = x0.fixed := by
  simp [State.pushFrame]

@[simp] theorem execJournalPush_fixed (x0 : ℕ) (x1 : State) :
    fixedOf (execJournalPush x0 x1) = some x1.fixed := by
  unfold execJournalPush
  simp only []
  split <;> simp

@[simp] theorem execJournalPushResend_fixed (x0 : ℕ) (x1 : State) :
    fixedOf (execJournalPushResend x0 x1) = some x1.fixed := by
  unfold execJournalPushResend
  simp only []
  repeat' split
  all_goals simp

@[simp] theorem execJournalAck_fixed (x0 : ℕ) (x1 : ℕ) (x2 : ℕ) (x3 : State) :
    fixedOf (execJournalAck x0 x1 x2 x3) = some x3.fixed := by
  unfold execJournalAck
  simp only []
  split <;> simp

@[simp] theorem execTransaction_fixed (x0 : ℕ) (x1 : ChPort) (x2 : TransFrame) (x3 : State) :
    fixedOf (execTransaction x0 x1 x2 x3) = some x3.fixed := by
  unfold execTransaction
  simp only []
  repeat' split
  all_goals simp

end Sys2Proof.Machine
end

