-- ==== Sys2Proof/Laws/FixedBoot.lean ====
section
/-!
SUPPORT. The operations of Machine/Boot.lean leave the rights and the queue of commands as they were.
-/

set_option autoImplicit false

namespace Sys2Proof.Machine

@[simp] theorem State.mapBoot_fixed (x0 : State) (x1 : Boot → Boot) :
    (State.mapBoot x0 x1).fixed = x0.fixed := by
  simp [State.mapBoot]

@[simp] theorem State.readEeprom_fixed (x0 : State) (x1 : List Byte) :
    (State.readEeprom x0 x1).fixed = x0.fixed := by
  simp [State.readEeprom]

@[simp] theorem State.noteSlots_fixed (x0 : State) (x1 : BootImage) :
    (State.noteSlots x0 x1).fixed = x0.fixed := by
  simp [State.noteSlots]

@[simp] theorem State.bootGoal_fixed (x0 : State) :
    (State.bootGoal x0).fixed = x0.fixed := by
  simp [State.bootGoal]

@[simp] theorem State.bootFound_fixed (x0 : State) (x1 : BootImage) :
    (State.bootFound x0 x1).fixed = x0.fixed := by
  simp [State.bootFound]

@[simp] theorem execBootFail_fixed (x0 : ℕ) (x1 : State) :
    fixedOf (execBootFail x0 x1) = some x1.fixed := by
  unfold execBootFail
  simp only []
  split <;> simp

@[simp] theorem execBootRetry_fixed (x0 : ℕ) (x1 : State) :
    fixedOf (execBootRetry x0 x1) = some x1.fixed := by
  unfold execBootRetry
  simp only []
  split <;> simp

end Sys2Proof.Machine
end

