-- ==== Sys2Proof/Laws/FixedHostBus.lean ====
section
/-!
SUPPORT. The operations of Machine/HostBus.lean leave the rights and the queue of commands as they were.
-/

set_option autoImplicit false

namespace Sys2Proof.Machine

@[simp] theorem State.mapHost_fixed (x0 : State) (x1 : HostPorts → HostPorts) :
    (State.mapHost x0 x1).fixed = x0.fixed := by
  simp [State.mapHost]

/-- A command of TWB0 keeps the part if its own effect does. -/
@[simp] theorem State.twb_fixed (s : State) (c : Nat) (f : State → State × List Byte) (h : ∀ u, (f u).1.fixed = u.fixed) :
    (s.twb c f).fixed = s.fixed := by
  unfold State.twb
  split
  · rfl
  · split
    · simp
    · simp [h]

@[simp] theorem State.takeResponse_fixed (x0 : State) (x1 : Requester) (x2 : Response) :
    (State.takeResponse x0 x1 x2).fixed = x0.fixed := by
  simp [State.takeResponse]

@[simp] theorem execDeviceId_fixed (x0 : ℕ) (x1 : State) :
    fixedOf (execDeviceId x0 x1) = some x1.fixed := by
  simp [execDeviceId]

@[simp] theorem execStatus_fixed (x0 : ℕ) (x1 : State) :
    fixedOf (execStatus x0 x1) = some x1.fixed := by
  simp [execStatus]

@[simp] theorem State.twbRequest_fixed (x0 : State) (x1 : TwbWrite) :
    (State.twbRequest x0 x1).fixed = x0.fixed := by
  simp [State.twbRequest]

@[simp] theorem execRequest_fixed (x0 : ℕ) (x1 : TwbWrite) (x2 : State) :
    fixedOf (execRequest x0 x1 x2) = some x2.fixed := by
  simp [execRequest]

@[simp] theorem execResponse_fixed (x0 : ℕ) (x1 : Bool) (x2 : State) :
    fixedOf (execResponse x0 x1 x2) = some x2.fixed := by
  unfold execResponse
  simp only [fixedOf_next]
  refine congrArg some ((State.twb_fixed _ _ _ fun u => ?_).trans (by simp))
  split
  · split <;> simp
  · split <;> simp

@[simp] theorem execResponseLen_fixed (x0 : ℕ) (x1 : State) :
    fixedOf (execResponseLen x0 x1) = some x1.fixed := by
  simp [execResponseLen]

@[simp] theorem execResend_fixed (x0 : ℕ) (x1 : State) :
    fixedOf (execResend x0 x1) = some x1.fixed := by
  simp [execResend]

@[simp] theorem execUnknownCommand_fixed (x0 : ℕ) (x1 : ℕ) (x2 : State) :
    fixedOf (execUnknownCommand x0 x1 x2) = some x2.fixed := by
  unfold execUnknownCommand
  split <;> simp

@[simp] theorem execStartInAck_fixed (x0 : ℕ) (x1 : State) :
    fixedOf (execStartInAck x0 x1) = some x1.fixed := by
  unfold execStartInAck
  simp only []
  split <;> simp

@[simp] theorem execStretchTimeout_fixed (x0 : ℕ) (x1 : State) :
    fixedOf (execStretchTimeout x0 x1) = some x1.fixed := by
  unfold execStretchTimeout
  simp only []
  split <;> simp

@[simp] theorem execSclTimeout_fixed (x0 : ℕ) (x1 : State) :
    fixedOf (execSclTimeout x0 x1) = some x1.fixed := by
  unfold execSclTimeout
  simp only []
  split <;> simp

@[simp] theorem State.notifyFail_fixed (x0 : State) :
    (State.notifyFail x0).fixed = x0.fixed := by
  simp [State.notifyFail]

@[simp] theorem State.sendNotify_fixed (x0 : State) (x1 : Bool) :
    (State.sendNotify x0 x1).fixed = x0.fixed := by
  simp [State.sendNotify]

@[simp] theorem execHostNotify_fixed (x0 : ℕ) (x1 : Bool) (x2 : State) :
    fixedOf (execHostNotify x0 x1 x2) = some x2.fixed := by
  unfold execHostNotify
  simp only []
  split <;> simp

@[simp] theorem execNotifyRetry_fixed (x0 : ℕ) (x1 : Bool) (x2 : State) :
    fixedOf (execNotifyRetry x0 x1 x2) = some x2.fixed := by
  unfold execNotifyRetry
  simp only []
  split <;> simp

@[simp] theorem execArbitrationLost_fixed (x0 : ℕ) (x1 : ℕ) (x2 : ArbPhase) (x3 : State) :
    fixedOf (execArbitrationLost x0 x1 x2 x3) = some x3.fixed := by
  unfold execArbitrationLost
  simp only []
  repeat' split
  all_goals simp

@[simp] theorem State.busFails_fixed (x0 : State) (x1 : ℕ) :
    (State.busFails x0 x1).fixed = x0.fixed := by
  simp [State.busFails]

@[simp] theorem State.recover_fixed (x0 : State) (x1 : ℕ) (x2 : ℕ) :
    (State.recover x0 x1 x2).fixed = x0.fixed := by
  simp [State.recover]

@[simp] theorem execBusRecovery_fixed (x0 : ℕ) (x1 : ℕ) (x2 : ℕ) (x3 : State) :
    fixedOf (execBusRecovery x0 x1 x2 x3) = some x3.fixed := by
  unfold execBusRecovery
  simp only []
  split <;> simp

@[simp] theorem execBusStuckRetry_fixed (x0 : ℕ) (x1 : ℕ) (x2 : ℕ) (x3 : State) :
    fixedOf (execBusStuckRetry x0 x1 x2 x3) = some x3.fixed := by
  unfold execBusStuckRetry
  simp only []
  repeat' split
  all_goals simp

/-- A frame of HSPI keeps the part if its own effect does. -/
@[simp] theorem State.hspiFrame_fixed (s : State) (f g : State → State × List Byte) (h : ∀ u, (f u).1.fixed = u.fixed)
    (k : ∀ u, (g u).1.fixed = u.fixed) : (s.hspiFrame f g).fixed = s.fixed := by
  unfold State.hspiFrame
  split
  · rfl
  · split
    · simp
    · simp only [State.mapHost_fixed]
      split <;> simp [h, k]

@[simp] theorem State.crcFails_fixed (x0 : State) :
    (State.crcFails x0).fixed = x0.fixed := by
  simp [State.crcFails]

@[simp] theorem State.frameError_fixed (x0 : State) :
    (State.frameError x0).fixed = x0.fixed := by
  simp [State.frameError]

@[simp] theorem execHspiRequest_fixed (x0 : ℕ) (x1 : List Byte) (x2 : ℕ) (x3 : State) :
    fixedOf (execHspiRequest x0 x1 x2 x3) = some x3.fixed := by
  simp [execHspiRequest]

@[simp] theorem execFetch_fixed (x0 : ℕ) (x1 : Bool) (x2 : State) :
    fixedOf (execFetch x0 x1 x2) = some x2.fixed := by
  unfold execFetch
  simp only [fixedOf_next]
  refine congrArg some ((State.hspiFrame_fixed _ _ _ (fun u => ?_) fun u => ?_).trans (by simp))
  · repeat' split
    all_goals simp
  · repeat' split
    all_goals simp

@[simp] theorem State.hspiStatusFrame_fixed (x0 : State) (x1 : Bool) :
    (State.hspiStatusFrame x0 x1).1.fixed = x0.fixed := by
  simp [State.hspiStatusFrame]

@[simp] theorem execHspiStatus_fixed (x0 : ℕ) (x1 : Bool) (x2 : State) :
    fixedOf (execHspiStatus x0 x1 x2) = some x2.fixed := by
  simp [execHspiStatus]

@[simp] theorem execRefetch_fixed (x0 : ℕ) (x1 : Bool) (x2 : State) :
    fixedOf (execRefetch x0 x1 x2) = some x2.fixed := by
  simp [execRefetch]

@[simp] theorem State.pushSegment_fixed (x0 : State) (x1 : ℕ) (x2 : List Byte) (x3 : ℕ) :
    (State.pushSegment x0 x1 x2 x3).fixed = x0.fixed := by
  simp [State.pushSegment]

@[simp] theorem execPush_fixed (x0 : ℕ) (x1 : ℕ) (x2 : List Byte) (x3 : ℕ) (x4 : State) :
    fixedOf (execPush x0 x1 x2 x3 x4) = some x4.fixed := by
  simp [execPush]

@[simp] theorem execHspiFrameAbort_fixed (x0 : ℕ) (x1 : State) :
    fixedOf (execHspiFrameAbort x0 x1) = some x1.fixed := by
  simp [execHspiFrameAbort]

end Sys2Proof.Machine
end

