-- ==== Sys2Proof/Laws/FixedTick.lean ====
section
/-!
SUPPORT. The operations of Machine/Tick.lean leave the rights and the queue of commands as they were.
-/

set_option autoImplicit false

namespace Sys2Proof.Machine

@[simp] theorem State.tickPorts_fixed (x0 : State) (x1 : ℕ) :
    (State.tickPorts x0 x1).fixed = x0.fixed := by
  unfold State.tickPorts
  simp only [State.tickGroups_fixed]
  refine (State.eachIn_fixed _ _ _ fun u f => ?_).trans (by simp)
  split <;> simp

@[simp] theorem State.tickStarts_fixed (x0 : State) (x1 : ℕ) :
    (State.tickStarts x0 x1).fixed = x0.fixed := by
  simp [State.tickStarts]

@[simp] theorem State.tickSources_fixed (x0 : State) (x1 : ℕ) (x2 : TickEnv) :
    (State.tickSources x0 x1 x2).fixed = x0.fixed := by
  unfold State.tickSources
  rw [State.tickGens_fixed, State.tickIdleInputs_fixed]
  refine State.eachIn_fixed _ _ _ fun u f => ?_
  split <;> simp

@[simp] theorem State.tickRouter_fixed (x0 : State) (x1 : ℕ) (x2 : TickEnv) :
    (State.tickRouter x0 x1 x2).fixed = x0.fixed := by
  unfold State.tickRouter
  simp only []
  repeat' first | (simp; done) | split | refine (foldl_fixed _ _ _ (fun u x => ?_)).trans ?_

@[simp] theorem State.tickSinks_fixed (x0 : State) (x1 : ℕ) (x2 : TickEnv) :
    (State.tickSinks x0 x1 x2).fixed = x0.fixed := by
  unfold State.tickSinks
  simp only []
  repeat' first | (simp; done) | split | refine (foldl_fixed _ _ _ (fun u x => ?_)).trans ?_

@[simp] theorem State.tickCounts_fixed (x0 : State) (x1 : ℕ) :
    (State.tickCounts x0 x1).fixed = x0.fixed := by
  simp [State.tickCounts]

@[simp] theorem State.tickGates_fixed (x0 : State) (x1 : ℕ) :
    (State.tickGates x0 x1).fixed = x0.fixed := by
  simp [State.tickGates]

@[simp] theorem State.tickTalkback_fixed (x0 : State) (x1 : TickEnv) :
    (State.tickTalkback x0 x1).fixed = x0.fixed := by
  simp [State.tickTalkback]

end Sys2Proof.Machine
end

