-- ==== Sys2Proof/Laws/Store.lean ====
section
/-!
SUPPORT. Sparse tables: a number reads as what was put there, every other number reads as before, and putting keeps the
canonical form.
-/

set_option autoImplicit false

namespace Sys2Proof.Machine

variable {α : Type}

theorem look_unlist_same (d : α) (m : Sparse α) (k : Nat) : look d (unlist m k) k = d := by
  induction m with
  | nil => rfl
  | cons x r ih =>
    obtain ⟨j, w⟩ := x
    by_cases h : j = k <;> simp [unlist, look, h, ih]

theorem look_unlist_other (d : α) (m : Sparse α) {k n : Nat} (h : n ≠ k) : look d (unlist m k) n = look d m n := by
  induction m with
  | nil => rfl
  | cons x r ih =>
    obtain ⟨j, w⟩ := x
    by_cases e : j = k
    · subst e; simp [unlist, look, ih, Ne.symm h]
    · simp [unlist, look, e, ih]

theorem look_enlist_same (d : α) (m : Sparse α) (k : Nat) (v : α) : look d (enlist m k v) k = v := by
  induction m with
  | nil => simp [enlist, look]
  | cons x r ih =>
    obtain ⟨j, w⟩ := x
    simp only [enlist]
    split
    · simp [look]
    · split
      · simp [look]
      · simp [look, ih]; omega

theorem look_enlist_other (d : α) (m : Sparse α) {k n : Nat} (v : α) (h : n ≠ k) :
    look d (enlist m k v) n = look d m n := by
  have h' := Ne.symm h
  induction m with
  | nil => simp [enlist, look, h']
  | cons x r ih =>
    obtain ⟨j, w⟩ := x
    simp only [enlist]
    split
    · simp [look, h']
    · split
      · subst_vars; simp [look, h']
      · simp [look, ih]

variable [DecidableEq α]

/-- A number reads as what was put there. -/
theorem look_put_same (d : α) (m : Sparse α) (k : Nat) (v : α) : look d (put d m k v) k = v := by
  unfold put
  split
  · subst_vars; exact look_unlist_same ..
  · exact look_enlist_same ..

/-- Every other number reads as before. -/
theorem look_put_other (d e : α) (m : Sparse α) {k n : Nat} (v : α) (h : n ≠ k) :
    look e (put d m k v) n = look e m n := by
  unfold put
  split
  · exact look_unlist_other _ _ h
  · exact look_enlist_other _ _ _ h

theorem canonFrom_mono (d : Nat → α) {a b : Nat} (m : Sparse α) (h : a ≤ b) (c : canonFrom d b m = true) :
    canonFrom d a m = true := by
  cases m with
  | nil => rfl
  | cons x r =>
    obtain ⟨j, w⟩ := x
    simp only [canonFrom, Bool.and_eq_true, decide_eq_true_eq] at c ⊢
    exact ⟨⟨by omega, c.1.2⟩, c.2⟩

theorem canonFrom_unlist (d : Nat → α) (a : Nat) (m : Sparse α) (k : Nat) (c : canonFrom d a m = true) :
    canonFrom d a (unlist m k) = true := by
  induction m generalizing a with
  | nil => rfl
  | cons x r ih =>
    obtain ⟨j, w⟩ := x
    simp only [canonFrom, Bool.and_eq_true, decide_eq_true_eq] at c
    simp only [unlist]
    split
    · exact ih a (canonFrom_mono d r (by omega) c.2)
    · simp only [canonFrom, Bool.and_eq_true, decide_eq_true_eq]
      exact ⟨c.1, ih _ c.2⟩

theorem canonFrom_enlist (d : Nat → α) (a : Nat) (m : Sparse α) (k : Nat) (v : α) (hv : v ≠ d k) (ha : a ≤ k)
    (c : canonFrom d a m = true) : canonFrom d a (enlist m k v) = true := by
  induction m generalizing a with
  | nil => simp [enlist, canonFrom, hv, ha]
  | cons x r ih =>
    obtain ⟨j, w⟩ := x
    simp only [canonFrom, Bool.and_eq_true, decide_eq_true_eq] at c
    simp only [enlist]
    split
    · simp only [canonFrom, Bool.and_eq_true, decide_eq_true_eq]
      exact ⟨⟨ha, hv⟩, ⟨by omega, c.1.2⟩, c.2⟩
    · split
      · subst_vars; simp only [canonFrom, Bool.and_eq_true, decide_eq_true_eq]
        exact ⟨⟨ha, hv⟩, c.2⟩
      · simp only [canonFrom, Bool.and_eq_true, decide_eq_true_eq]
        exact ⟨c.1, ih _ (by omega) c.2⟩

/-- Putting a value keeps the canonical form. -/
theorem canon_put (d : Nat → α) (m : Sparse α) (k : Nat) (v : α) (c : canon d m = true) :
    canon d (put (d k) m k v) = true := by
  unfold put canon
  split
  · exact canonFrom_unlist d 0 m k c
  · exact canonFrom_enlist d 0 m k v (by assumption) (Nat.zero_le k) c

end Sys2Proof.Machine
end

