-- ==== Sys2Proof/Laws/Objects.lean ====
section
/-!
SUPPORT. Values of the dictionary: an object reads as it was written, every other object reads as before.
-/

set_option autoImplicit false

namespace Sys2Proof.Machine

/-- Index and sub are a key's own. -/
theorem key_inj {i j a b : Nat} (ha : a < 256) (hb : b < 256) (h : key i a = key j b) : i = j ∧ a = b := by
  unfold key at h
  omega

/-- An object reads as it was written. -/
theorem State.rd_wr_same (s : State) (i sub v : Nat) : (s.wr i sub v).rd i sub = v := look_put_same ..

/-- A write leaves every object of another key. -/
theorem State.rd_wr_other (s : State) {i sub j b : Nat} (v : Nat) (h : key j b ≠ key i sub) :
    (s.wr i sub v).rd j b = s.rd j b := look_put_other _ _ _ _ h

/-- Raising a count leaves every object of another key. -/
theorem State.rd_bump_other (s : State) {i sub j b : Nat} (h : key j b ≠ key i sub) :
    (s.bump i sub).rd j b = s.rd j b := s.rd_wr_other _ h

end Sys2Proof.Machine
end

