-- ==== Sys2Proof/WellFormed.lean ====
section
/-!
DEFINITION. Which commands are well formed: every number within the range that its field or its owner's numbering
admits. The meanings do not rest on it; a command that names nothing has no effect.
-/

set_option autoImplicit false

namespace Sys2Proof

/-- A requester: the unique ID of a chain node has 64 bits. -/
def Requester.wf (r : Requester) : Bool :=
  match r with
  | .chain uid => decide (uid < 2 ^ 64)
  | .internal => true
  | .hspi => true
  | .twb0 => true

/-- A transaction's sender: node number and TID in their fields, and node FFFFh off the chain (R54, R74). -/
def Req.wf (q : Req) : Bool := q.who.wf && decide (q.node < 65536) && decide (q.tid < 256)

/-- An index and a sub in their fields (R46). -/
def wfIdx (index sub : Nat) : Bool := decide (index < 65536) && decide (sub < 256)

/-- The number of an analog input (R13). -/
def wfIn (n : Nat) : Bool := decide (1 ≤ n) && decide (n ≤ 48)

/-- The number of a headphone output. -/
def wfHp (n : Nat) : Bool := n == 1 || n == 2

/-- The number of a PWM output. -/
def wfPwm (n : Nat) : Bool := decide (1 ≤ n) && decide (n ≤ 16)

/-- A function number within its class. -/
def Func.wf (f : Func) : Bool :=
  match f with
  | .lane n => decide (n < 128) | .bus b => decide (b < 256) | .route p => decide (p < 2048) | .input n => wfIn n
  | .output n => wfIn n | .hp h => wfHp h | .pwm n => wfPwm n | .sapTx p => decide (p < 16) | .sapRx p => decide (p < 16)
  | .flowTx n => decide (n < 16) | .flowRx n => decide (n < 32) | .aes n => decide (n < 16) | .cap n => decide (n < 256)
  | .play n => decide (n < 256) | .delayLine n => decide (n < 256) | .link n => decide (n < 16) | .cko n => decide (n < 4)
  | .syn _ => true | .pd n => decide (n < 12) | .scan => true | .listen => true | .reader n => decide (n < 8)
  | .mem => true | .selftest => true

/-- A multiplexer: a serial port's number is below 16. -/
def Mux.wf (m : Mux) : Bool :=
  match m with
  | .sap p _ => decide (p < 16)
  | .control => true | .ptp => true | .hk => true | .listen => true | .pwm => true | .chaRx => true | .chbRx => true

/-- The place of a gain ramp. -/
def RampSite.wf (x : RampSite) : Bool :=
  match x with
  | .input n => wfIn n | .output n => wfIn n | .hp h => wfHp h | .pwm n => wfPwm n | .bus b => decide (b < 256)
  | .contrib b c => decide (b < 256) && decide (c < 128) | .link l => decide (l < 16) | .gen g => decide (g < 16)
  | .block n b => decide (n < 128) && decide (b < 64) | .pair => true

/-- A supervised output channel. -/
def LimitCh.wf (x : LimitCh) : Bool :=
  match x with
  | .line n => wfIn n | .hpL h => wfHp h | .hpR h => wfHp h

/-- What a tick brings. -/
def TickEnv.wf (e : TickEnv) : Bool :=
  (e.inputs.all fun c => wfIn c.n) && (e.lateBuses.all fun b => decide (b < 256)) &&
    (e.lateLines.all fun b => decide (b < 256)) && (e.lateCaps.all fun b => decide (b < 256)) &&
    (e.latePlays.all fun b => decide (b < 256))

/-- A wake source. -/
def WakeSource.wf (x : WakeSource) : Bool :=
  match x with
  | .beacon hops target => decide (hops < 256) && decide (target < 256)
  | .acoustic => true | .twb0 => true | .hspi => true | .pin => true

/-- The end of a PMBus transfer: a byte. -/
def PmbusResult.wf (x : PmbusResult) : Bool :=
  match x with
  | .ack d => decide (d < 256)
  | .nack => true

/-- What a serial port sees: slots of at most 32 bits. -/
def PortEvent.wf (x : PortEvent) : Bool :=
  match x with
  | .start b => decide (b < 65536)
  | .complete l => decide (l.length ≤ 32) && l.all fun u => decide (u < 2 ^ 32)

/-- A Gendenlink header in its fields (R367). -/
def FrameHdr.wf (h : FrameHdr) : Bool :=
  decide (h.version < 256) && decide (h.kind < 256) && decide (h.cycle < 2 ^ 32) && decide (h.src < 2 ^ 40) &&
    decide (h.srcNode < 65536) && decide (h.dst < 65536) && decide (h.hops < 256) && decide (h.flags < 256) &&
    decide (h.field < 65536)

/-- A CYCLE_START in its fields (R370). -/
def CycleStartFrame.wf (f : CycleStartFrame) : Bool :=
  f.hdr.wf && decide (f.time < 2 ^ 64) && decide (f.presentation < 65536) && decide (f.nodes < 65536) &&
    decide (f.topology < 2 ^ 32) && decide (f.headId < 2 ^ 64)

/-- A TRANSACTION frame in its fields (R392). -/
def TransFrame.wf (f : TransFrame) : Bool :=
  f.hdr.wf && decide (f.requester < 2 ^ 64) && decide (f.target < 2 ^ 64) && decide (f.body.length ≤ 1464)

/-- A TOPOLOGY frame. -/
def TopoMsg.wf (m : TopoMsg) : Bool :=
  match m with
  | .claim uid prio _ => decide (uid < 2 ^ 64) && decide (prio < 256)
  | .enumerate n => decide (n < 65536)
  | .joinRequest uid r => decide (uid < 2 ^ 64) && decide (r < 65536)
  | .joinGrant uid n => decide (uid < 2 ^ 64) && decide (n < 65536)
  | .joinRefuse uid c => decide (uid < 2 ^ 64) && decide (c < 256)
  | .linkReport _ => true

/-- A SHARE frame. -/
def ShareMsg.wf (m : ShareMsg) : Bool :=
  match m with
  | .request uid n => decide (uid < 2 ^ 64) && decide (n ≤ 16)
  | .grant uid n f => decide (uid < 2 ^ 64) && decide (n ≤ 16) && decide (f ≤ 160)
  | .refuse uid f => decide (uid < 2 ^ 64) && decide (f ≤ 160)

/-- An RTP packet. -/
def RtpPacket.wf (p : RtpPacket) : Bool :=
  decide (p.ip < 2 ^ 32) && decide (p.udp < 65536) && decide (p.pt < 128) && decide (p.timestamp < 2 ^ 32)

/-- A pair message (R409). -/
def PairMsg.wf (m : PairMsg) : Bool :=
  decide (m.pair < 65536) && decide (m.msg < 256) && decide (m.member < 2 ^ 64) && decide (m.epoch < 2 ^ 32) &&
    decide (m.role < 256) && decide (m.mode < 256) && decide (m.health < 256)

/-- A listening frame: 16 samples of each channel (R422). -/
def ListenEnv.wf (e : ListenEnv) : Bool := e.ch1.length == 16 && e.ch2.length == 16 && decide (e.score ≤ 1000)

/-- A block write on TWB0: a byte count, and no more bytes than it says. -/
def TwbWrite.wf (x : TwbWrite) : Bool := decide (x.count < 256) && decide (x.bytes.length ≤ 255)

/-- A read of the attention word. -/
def AttnVia.wf (x : AttnVia) : Bool :=
  match x with
  | .twb0 => true
  | .object q len => q.wf && decide (len < 65536)

/-- A firmware image: its source, and the versions in their fields. -/
def BootImage.wf (i : BootImage) : Bool :=
  decide (1 ≤ i.source) && decide (i.source ≤ 3) && decide (i.keyHash.length = 32) && decide (i.fwVersion < 2 ^ 32) &&
    decide (i.secVersion < 2 ^ 32)

/-- Whether a command is well formed. [DESIGN CHOICE, log 89] -/
def Instr.wf (i : Instr) : Bool :=
  match i with
  | .transactionArrive _ q _ => q.wf
  | .read _ q index sub len => q.wf && wfIdx index sub && decide (len < 65536)
  | .write _ q index sub _ => q.wf && wfIdx index sub
  | .stage _ q index sub _ => q.wf && wfIdx index sub
  | .blockRead _ q index sub offset len => q.wf && wfIdx index sub && decide (offset < 4294967296) && decide (len < 65536)
  | .blockWrite _ q index sub offset _ => q.wf && wfIdx index sub && decide (offset < 4294967296)
  | .unknownOp _ q op => q.wf && decide (op < 256)
  | .commit _ q => q.wf
  | .discard _ q => q.wf
  | .stageTimeout _ who => who.wf
  | .blockOpen _ q index _ => q.wf && wfIdx index 1
  | .blockClose _ q index _ _ => q.wf && wfIdx index 1
  | .lock _ q => q.wf
  | .readFrom _ q _ => q.wf
  | .entriesRead _ q len => q.wf && decide (len < 65536)
  | .mirrorCopy _ => true
  | .mirrorResume _ => true
  | .journalPush _ => true
  | .journalPushResend _ => true
  | .journalAck _ epoch ackSeq => decide (epoch < 256) && decide (ackSeq < 4294967296)
  | .tick _ d env => decide (d < 3) && env.wf
  | .fabricPartApply _ d => decide (d < 3)
  | .laneFrameFinish _ n => decide (n < 128)
  | .drainComplete _ f => f.wf
  | .functionRampEnd _ f => f.wf
  | .quiesceForced _ f => f.wf
  | .startPendingStart _ f => f.wf
  | .gainRampEnd _ site => site.wf
  | .crossfadeEnd _ p => decide (p < 2048)
  | .targetMode _ q _ => q.wf
  | .descentBegin _ => true
  | .domainSwitchOff _ => true
  | .modeAdvance _ => true
  | .wakeSourceFire _ src => src.wf
  | .staggerEnd _ => true
  | .resetNLow _ => true
  | .resetClampEnd _ => true
  | .resetNHigh _ banks addr => decide (banks < 16) && decide (addr < 4)
  | .avdd33Low _ => true
  | .powerOn _ epoch => decide (epoch < 256)
  | .governorWindow _ => true
  | .domainPowerGood _ pd => decide (pd < 12)
  | .domainFault _ pd => decide (pd < 12)
  | .keepOff _ q pd _ => q.wf && decide (pd < 12)
  | .xoNoStart _ => true
  | .supplyTrip _ _ => true
  | .supplyClear _ _ => true
  | .crimsonResume _ => true
  | .crimsonAck _ q => q.wf
  | .crimsonCauseRead _ q len => q.wf && decide (len < 65536)
  | .avsHoldEnd _ => true
  | .avsEvaluate _ => true
  | .pmbusAck _ res => res.wf
  | .pmbusRetry _ => true
  | .avsLostRetry _ => true
  | .ceiling _ q _ => q.wf
  | .xoAmplitude _ _ => true
  | .xoStabilityCountDone _ rcoCount => decide (rcoCount < 65536)
  | .xoMissingEdge _ => true
  | .forceSwitch _ q index sub => q.wf && wfIdx index sub
  | .muxSwitchComplete _ m => m.wf
  | .muxSourceEdges _ m => m.wf
  | .muxHang _ m => m.wf
  | .gateClose _ cd => decide (cd < 16)
  | .pwmSpreadUpdate _ => true
  | .synAcquisitionStart _ _ => true
  | .synLock _ _ _ _ => true
  | .synUnlock _ _ _ => true
  | .synReacquire _ _ => true
  | .synAcquisitionFail _ _ => true
  | .synFaultRetry _ _ => true
  | .refScale _ q _ _ => q.wf
  | .leader _ q loop _ => q.wf && decide (loop < 2)
  | .loopUpdate _ loop => decide (loop < 2)
  | .loopAcquireEnd _ loop => decide (loop < 2)
  | .loopHoldover _ loop => decide (loop < 2)
  | .ckoChange _ n => decide (n < 4)
  | .combinerCrossfade _ n => wfIn n
  | .combinerReturn _ n => wfIn n
  | .inputOverload _ n => wfIn n
  | .inputOverloadRecovery _ n => wfIn n
  | .inputClampEngage _ n => wfIn n
  | .inputClampRelease _ n => wfIn n
  | .referenceSettled _ g => decide (g < 6)
  | .refFault _ g => decide (g < 6)
  | .refRecover _ g => decide (g < 6)
  | .overLatch _ q n _ => q.wf && wfIn n
  | .phantomFrame _ faults => decide (faults < 2 ^ 48)
  | .phAlert _ faults => faults.length == 3 && faults.all fun b => decide (b < 2 ^ 48)
  | .phSettleEnd _ n => wfIn n
  | .asrcAcquired _ ch => decide (ch < 256)
  | .asrcUnlock _ ch => decide (ch < 256)
  | .layoutRestart _ => true
  | .blockLiveValue _ q lane block _ => q.wf && decide (lane < 128) && decide (block < 64)
  | .meterPeriod _ d => decide (d < 3)
  | .meterRead _ q index sub len => q.wf && wfIdx index sub && decide (len < 65536)
  | .cmReady _ bank => decide (bank < 2)
  | .cmFallEnd _ bank => decide (bank < 2)
  | .hpBiasReady _ => true
  | .hpBiasFallEnd _ => true
  | .outModeSwitch _ pair => decide (pair < 24)
  | .currentLimitWindow _ ch _ => ch.wf
  | .scRetry _ f => f.wf
  | .faultClear _ q index => q.wf && wfIdx index 0
  | .jackEdge _ n => wfHp n
  | .jackDebounceEnd _ n => wfHp n
  | .jackMeasureEnd _ n loadL loadR => wfHp n && decide (loadL < 65536) && decide (loadR < 65536)
  | .jackRemove _ n => wfHp n
  | .jackAction _ q n _ _ => q.wf && wfHp n
  | .pwmEnLeadEnd _ n => wfPwm n
  | .pwmEnSettleEnd _ n => wfPwm n
  | .pwmStopLeadEnd _ n => wfPwm n
  | .pwmEdgeEvent _ n => wfPwm n
  | .portFrame _ p _ ev => decide (p < 16) && ev.wf
  | .sapClockLost _ p _ => decide (p < 16)
  | .linkUp _ _ => true
  | .linkDown _ _ => true
  | .helloSend _ _ => true
  | .hello _ _ uid node headUid headPrio rate => decide (uid < 2 ^ 64) && decide (node < 65536) && decide (headUid < 2 ^ 64) && decide (headPrio < 256) && decide (rate < 4)
  | .edgeTimeout _ _ => true
  | .headClaim _ => true
  | .headElection _ => true
  | .topology _ _ msg => msg.wf
  | .cycleStartSend _ => true
  | .cycleStart _ _ f => f.wf
  | .audio _ _ f => f.hdr.wf
  | .frameForward _ _ f => f.hdr.wf
  | .transaction _ _ f => f.wf
  | .peerDelay _ _ _ => true
  | .chainJoin _ => true
  | .joinRetry _ => true
  | .nodeRelease _ node => decide (node < 65536)
  | .chainHoldover _ => true
  | .chainSyncLoss _ => true
  | .shareRequest _ q _ => q.wf
  | .share _ msg => msg.wf
  | .presentationChange _ => true
  | .flowLost _ r => decide (r < 32)
  | .altSourceSwitch _ r => decide (r < 32)
  | .aes67Packet _ _ p => p.wf
  | .sendBeacon _ q _ => q.wf
  | .beaconRequest _ _ target => decide (target < 256)
  | .beaconReceive _ _ target hops _ => decide (target < 256) && decide (hops < 256)
  | .heartbeatSend _ => true
  | .heartbeat _ m => m.wf
  | .arbBeat _ m => m.wf
  | .revoke _ m => m.wf
  | .released _ m => m.wf
  | .heartbeatWindow _ pair member => decide (pair < 16) && decide (member < 2)
  | .peerActIn _ _ => true
  | .interlockWaitEnd _ => true
  | .revokeTimeout _ pair => decide (pair < 16)
  | .selfRelease _ => true
  | .arbiterLost _ => true
  | .takeoverRampStart _ => true
  | .selfCheckPass _ => true
  | .revertHoldoffEnd _ => true
  | .switchRequest _ q _ => q.wf
  | .grantTo _ q pair _ => q.wf && decide (pair < 16)
  | .arbiterStart _ pair => decide (pair < 16)
  | .listenFrame _ env => env.wf
  | .hangEnd _ => true
  | .matcherFrame _ energies scores _ => energies.length == 16 && decide (scores.length ≤ 8)
  | .ringOverlapEnd _ => true
  | .ringRelease _ q => q.wf
  | .readerAtEnd _ r => decide (r < 8)
  | .feedSwitch _ => true
  | .frontEndSettled _ => true
  | .hkConversionComplete _ slice _ => decide (slice < 5)
  | .calibrationComplete _ => true
  | .hkTimer _ => true
  | .swTrigger _ q => q.wf
  | .pwmDelayEnd _ => true
  | .urgentBank _ q _ => q.wf
  | .urgentSlice _ q _ => q.wf
  | .supervisionScan _ => true
  | .refSource _ q _ => q.wf
  | .refSettled _ => true
  | .windowMode _ q _ => q.wf
  | .mainsEdge _ => true
  | .mainsLoss _ => true
  | .hkResultRead _ q len => q.wf && decide (len < 65536)
  | .deviceId _ => true
  | .status _ => true
  | .request _ x => x.wf
  | .response _ _ => true
  | .responseLen _ => true
  | .resend _ => true
  | .attention _ via => via.wf
  | .unknownCommand _ code => decide (code < 256)
  | .startInAck _ => true
  | .stretchTimeout _ => true
  | .sclTimeout _ => true
  | .hostNotify _ _ => true
  | .notifyRetry _ _ => true
  | .arbitrationLost _ bus _ => decide (bus < 2)
  | .busRecovery _ bus _ => decide (bus < 2)
  | .busStuckRetry _ bus _ => decide (bus < 2)
  | .hspiRequest _ _ crc => decide (crc < 2 ^ 32)
  | .fetch _ _ => true
  | .hspiStatus _ _ => true
  | .refetch _ _ => true
  | .push _ offset _ crc => decide (offset < 2 ^ 32) && decide (crc < 2 ^ 32)
  | .pushEnd _ length crc imgOk => decide (length < 2 ^ 32) && decide (crc < 2 ^ 32) && imgOk.wf
  | .hspiFrameAbort _ => true
  | .bootImageAccepted _ img _ => img.wf
  | .bootRetry _ => true
  | .recipeRecords _ => true
  | .verifySlot _ q _ _ => q.wf
  | .commitSv _ q => q.wf
  | .memTrainingStart _ => true
  | .memReady _ _ _ => true
  | .memTrainFail _ => true
  | .zqCalibration _ => true
  | .dqsCheck _ _ => true
  | .mr4Poll _ code _ => decide (code < 8)
  | .memFault _ _ => true
  | .autoRetrain _ => true
  | .retrain _ q => q.wf
  | .transportCommand _ q tr _ => q.wf && decide (tr < 8)
  | .transportStart _ tr => decide (tr < 8)
  | .counterSource _ q n _ => q.wf && decide (n < 64)
  | .counterClear _ q n => q.wf && decide (n < 64)
  | .snapNow _ q => q.wf
  | .snapChain _ q => q.wf
  | .snapshot _ snapAt tag => decide (snapAt < 2 ^ 64) && decide (tag < 2 ^ 32)
  | .snapAtReached _ => true
  | .testRun _ q => q.wf
  | .testItemComplete _ result => decide (result < 2 ^ 16)
  | .avdd33RetentionLoss _ => true
  | .bootFail _ => true
  | .scanConversionDue _ => true
  | .jackAbsent _ n => wfHp n
  | .edgePtpMessage _ _ _ _ => true

end Sys2Proof
end

