-- ==== Sys2Proof/Laws/PerInstr.lean ====
section
/-!
SUPPORT. The family `AskFits`, one lemma per command: where a well-formed command is one transaction (`asks`), its sender is
well formed and the body it sends carries that sender's transaction identifier, an operation in its byte and an object in
its index and sub (R46, R54).
-/

set_option autoImplicit false
set_option Elab.async false

namespace Sys2Proof.Laws.AskFits

open Sys2Proof Sys2Proof.Machine

/-- What the family says of a command. -/
def Statement (i : Instr) : Prop :=
  ∀ (t : Nat) (q : Req) (b : Body), asks i = some (t, q, b) → i.wf = true →
    q.wf = true ∧ b.op < 256 ∧ b.tid = q.tid ∧ b.index < 65536 ∧ b.sub < 256

/-- What the family says, from what is known of the one body that a command sends. -/
theorem said {t t' : Nat} {q q' : Req} {b b' : Body} (h : some (t', q', b') = some (t, q, b)) (hq : q'.wf = true)
    (ho : b'.op < 256) (ht : b'.tid = q'.tid) (hi : b'.index < 65536) (hs : b'.sub < 256) :
    q.wf = true ∧ b.op < 256 ∧ b.tid = q.tid ∧ b.index < 65536 ∧ b.sub < 256 := by
  cases h
  exact ⟨hq, ho, ht, hi, hs⟩

theorem transactionArrive : ∀ x0 x1 x2, Statement (.transactionArrive x0 x1 x2) := fun _ _ _ _ _ _ h => nomatch h

theorem read : ∀ x0 x1 x2 x3 x4, Statement (.read x0 x1 x2 x3 x4) := by
  intro x0 x1 x2 x3 x4 t q b h w
  simp only [Instr.wf, wfIdx, Bool.and_eq_true, decide_eq_true_eq] at w
  exact said h (by simp_all) (by dsimp only [writeBody]; decide) rfl (by dsimp only [writeBody]; omega) (by dsimp only [writeBody]; omega)

theorem write : ∀ x0 x1 x2 x3 x4, Statement (.write x0 x1 x2 x3 x4) := by
  intro x0 x1 x2 x3 x4 t q b h w
  simp only [Instr.wf, wfIdx, Bool.and_eq_true, decide_eq_true_eq] at w
  exact said h (by simp_all) (by dsimp only [writeBody]; decide) rfl (by dsimp only [writeBody]; omega) (by dsimp only [writeBody]; omega)

theorem stage : ∀ x0 x1 x2 x3 x4, Statement (.stage x0 x1 x2 x3 x4) := by
  intro x0 x1 x2 x3 x4 t q b h w
  simp only [Instr.wf, wfIdx, Bool.and_eq_true, decide_eq_true_eq] at w
  exact said h (by simp_all) (by dsimp only [writeBody]; decide) rfl (by dsimp only [writeBody]; omega) (by dsimp only [writeBody]; omega)

theorem blockRead : ∀ x0 x1 x2 x3 x4 x5, Statement (.blockRead x0 x1 x2 x3 x4 x5) := by
  intro x0 x1 x2 x3 x4 x5 t q b h w
  simp only [Instr.wf, wfIdx, Bool.and_eq_true, decide_eq_true_eq] at w
  exact said h (by simp_all) (by dsimp only [writeBody]; decide) rfl (by dsimp only [writeBody]; omega) (by dsimp only [writeBody]; omega)

theorem blockWrite : ∀ x0 x1 x2 x3 x4 x5, Statement (.blockWrite x0 x1 x2 x3 x4 x5) := by
  intro x0 x1 x2 x3 x4 x5 t q b h w
  simp only [Instr.wf, wfIdx, Bool.and_eq_true, decide_eq_true_eq] at w
  exact said h (by simp_all) (by dsimp only [writeBody]; decide) rfl (by dsimp only [writeBody]; omega) (by dsimp only [writeBody]; omega)

theorem unknownOp : ∀ x0 x1 x2, Statement (.unknownOp x0 x1 x2) := by
  intro x0 x1 x2 t q b h w
  simp only [Instr.wf, Bool.and_eq_true, decide_eq_true_eq] at w
  simp only [asks, Option.ite_none_left_eq_some] at h
  obtain ⟨g, h⟩ := h
  exact said h (by simp_all) (by simp_all) rfl (by dsimp only [writeBody]; decide) (by dsimp only [writeBody]; decide)

theorem commit : ∀ x0 x1, Statement (.commit x0 x1) := by
  intro x0 x1 t q b h w
  simp only [Instr.wf] at w
  exact said h (by simp_all) (by dsimp only [writeBody]; decide) rfl (by dsimp only [writeBody]; decide) (by dsimp only [writeBody]; decide)

theorem discard : ∀ x0 x1, Statement (.discard x0 x1) := by
  intro x0 x1 t q b h w
  simp only [Instr.wf] at w
  exact said h (by simp_all) (by dsimp only [writeBody]; decide) rfl (by dsimp only [writeBody]; decide) (by dsimp only [writeBody]; decide)

theorem stageTimeout : ∀ x0 x1, Statement (.stageTimeout x0 x1) := fun _ _ _ _ _ h => nomatch h

theorem blockOpen : ∀ x0 x1 x2 x3, Statement (.blockOpen x0 x1 x2 x3) := by
  intro x0 x1 x2 x3 t q b h w
  simp only [Instr.wf, wfIdx, Bool.and_eq_true, decide_eq_true_eq] at w
  exact said h (by simp_all) (by dsimp only [writeBody]; decide) rfl (by dsimp only [writeBody]; omega) (by dsimp only [writeBody]; decide)

theorem blockClose : ∀ x0 x1 x2 x3 x4, Statement (.blockClose x0 x1 x2 x3 x4) := by
  intro x0 x1 x2 x3 x4 t q b h w
  simp only [Instr.wf, wfIdx, Bool.and_eq_true, decide_eq_true_eq] at w
  exact said h (by simp_all) (by dsimp only [writeBody]; split <;> decide) rfl (by dsimp only [writeBody]; omega) (by dsimp only [writeBody]; decide)

theorem lock : ∀ x0 x1, Statement (.lock x0 x1) := by
  intro x0 x1 t q b h w
  simp only [Instr.wf] at w
  exact said h (by simp_all) (by dsimp only [writeBody]; decide) rfl (by dsimp only [writeBody]; decide) (by dsimp only [writeBody]; decide)

theorem readFrom : ∀ x0 x1 x2, Statement (.readFrom x0 x1 x2) := by
  intro x0 x1 x2 t q b h w
  simp only [Instr.wf] at w
  exact said h (by simp_all) (by dsimp only [writeBody]; decide) rfl (by dsimp only [writeBody]; decide) (by dsimp only [writeBody]; decide)

theorem entriesRead : ∀ x0 x1 x2, Statement (.entriesRead x0 x1 x2) := by
  intro x0 x1 x2 t q b h w
  simp only [Instr.wf, Bool.and_eq_true, decide_eq_true_eq] at w
  exact said h (by simp_all) (by dsimp only [writeBody]; decide) rfl (by dsimp only [writeBody]; decide) (by dsimp only [writeBody]; decide)

theorem mirrorCopy : ∀ x0, Statement (.mirrorCopy x0) := fun _ _ _ _ h => nomatch h

theorem mirrorResume : ∀ x0, Statement (.mirrorResume x0) := fun _ _ _ _ h => nomatch h

theorem journalPush : ∀ x0, Statement (.journalPush x0) := fun _ _ _ _ h => nomatch h

theorem journalPushResend : ∀ x0, Statement (.journalPushResend x0) := fun _ _ _ _ h => nomatch h

theorem journalAck : ∀ x0 x1 x2, Statement (.journalAck x0 x1 x2) := fun _ _ _ _ _ _ h => nomatch h

theorem tick : ∀ x0 x1 x2, Statement (.tick x0 x1 x2) := fun _ _ _ _ _ _ h => nomatch h

theorem fabricPartApply : ∀ x0 x1, Statement (.fabricPartApply x0 x1) := fun _ _ _ _ _ h => nomatch h

theorem laneFrameFinish : ∀ x0 x1, Statement (.laneFrameFinish x0 x1) := fun _ _ _ _ _ h => nomatch h

theorem drainComplete : ∀ x0 x1, Statement (.drainComplete x0 x1) := fun _ _ _ _ _ h => nomatch h

theorem functionRampEnd : ∀ x0 x1, Statement (.functionRampEnd x0 x1) := fun _ _ _ _ _ h => nomatch h

theorem quiesceForced : ∀ x0 x1, Statement (.quiesceForced x0 x1) := fun _ _ _ _ _ h => nomatch h

theorem startPendingStart : ∀ x0 x1, Statement (.startPendingStart x0 x1) := fun _ _ _ _ _ h => nomatch h

theorem gainRampEnd : ∀ x0 x1, Statement (.gainRampEnd x0 x1) := fun _ _ _ _ _ h => nomatch h

theorem crossfadeEnd : ∀ x0 x1, Statement (.crossfadeEnd x0 x1) := fun _ _ _ _ _ h => nomatch h

theorem targetMode : ∀ x0 x1 x2, Statement (.targetMode x0 x1 x2) := by
  intro x0 x1 x2 t q b h w
  simp only [Instr.wf] at w
  exact said h (by simp_all) (by dsimp only [writeBody]; decide) rfl (by dsimp only [writeBody]; decide) (by dsimp only [writeBody]; decide)

theorem descentBegin : ∀ x0, Statement (.descentBegin x0) := fun _ _ _ _ h => nomatch h

theorem domainSwitchOff : ∀ x0, Statement (.domainSwitchOff x0) := fun _ _ _ _ h => nomatch h

theorem modeAdvance : ∀ x0, Statement (.modeAdvance x0) := fun _ _ _ _ h => nomatch h

theorem wakeSourceFire : ∀ x0 x1, Statement (.wakeSourceFire x0 x1) := fun _ _ _ _ _ h => nomatch h

theorem staggerEnd : ∀ x0, Statement (.staggerEnd x0) := fun _ _ _ _ h => nomatch h

theorem resetNLow : ∀ x0, Statement (.resetNLow x0) := fun _ _ _ _ h => nomatch h

theorem resetClampEnd : ∀ x0, Statement (.resetClampEnd x0) := fun _ _ _ _ h => nomatch h

theorem resetNHigh : ∀ x0 x1 x2, Statement (.resetNHigh x0 x1 x2) := fun _ _ _ _ _ _ h => nomatch h

theorem avdd33Low : ∀ x0, Statement (.avdd33Low x0) := fun _ _ _ _ h => nomatch h

theorem powerOn : ∀ x0 x1, Statement (.powerOn x0 x1) := fun _ _ _ _ _ h => nomatch h

theorem governorWindow : ∀ x0, Statement (.governorWindow x0) := fun _ _ _ _ h => nomatch h

theorem domainPowerGood : ∀ x0 x1, Statement (.domainPowerGood x0 x1) := fun _ _ _ _ _ h => nomatch h

theorem domainFault : ∀ x0 x1, Statement (.domainFault x0 x1) := fun _ _ _ _ _ h => nomatch h

theorem keepOff : ∀ x0 x1 x2 x3, Statement (.keepOff x0 x1 x2 x3) := by
  intro x0 x1 x2 x3 t q b h w
  simp only [Instr.wf, Bool.and_eq_true, decide_eq_true_eq] at w
  simp only [asks, Option.ite_none_right_eq_some] at h
  obtain ⟨g, h⟩ := h
  exact said h (by simp_all) (by dsimp only [writeBody]; decide) rfl (by dsimp only [writeBody]; omega) (by dsimp only [writeBody]; decide)

theorem xoNoStart : ∀ x0, Statement (.xoNoStart x0) := fun _ _ _ _ h => nomatch h

theorem supplyTrip : ∀ x0 x1, Statement (.supplyTrip x0 x1) := fun _ _ _ _ _ h => nomatch h

theorem supplyClear : ∀ x0 x1, Statement (.supplyClear x0 x1) := fun _ _ _ _ _ h => nomatch h

theorem crimsonResume : ∀ x0, Statement (.crimsonResume x0) := fun _ _ _ _ h => nomatch h

theorem crimsonAck : ∀ x0 x1, Statement (.crimsonAck x0 x1) := by
  intro x0 x1 t q b h w
  simp only [Instr.wf] at w
  exact said h (by simp_all) (by dsimp only [writeBody]; decide) rfl (by dsimp only [writeBody]; decide) (by dsimp only [writeBody]; decide)

theorem crimsonCauseRead : ∀ x0 x1 x2, Statement (.crimsonCauseRead x0 x1 x2) := by
  intro x0 x1 x2 t q b h w
  simp only [Instr.wf, Bool.and_eq_true, decide_eq_true_eq] at w
  exact said h (by simp_all) (by dsimp only [writeBody]; decide) rfl (by dsimp only [writeBody]; decide) (by dsimp only [writeBody]; decide)

theorem avsHoldEnd : ∀ x0, Statement (.avsHoldEnd x0) := fun _ _ _ _ h => nomatch h

theorem avsEvaluate : ∀ x0, Statement (.avsEvaluate x0) := fun _ _ _ _ h => nomatch h

theorem pmbusAck : ∀ x0 x1, Statement (.pmbusAck x0 x1) := fun _ _ _ _ _ h => nomatch h

theorem pmbusRetry : ∀ x0, Statement (.pmbusRetry x0) := fun _ _ _ _ h => nomatch h

theorem avsLostRetry : ∀ x0, Statement (.avsLostRetry x0) := fun _ _ _ _ h => nomatch h

theorem ceiling : ∀ x0 x1 x2, Statement (.ceiling x0 x1 x2) := by
  intro x0 x1 x2 t q b h w
  simp only [Instr.wf] at w
  exact said h (by simp_all) (by dsimp only [writeBody]; decide) rfl (by dsimp only [writeBody]; decide) (by dsimp only [writeBody]; decide)

theorem xoAmplitude : ∀ x0 x1, Statement (.xoAmplitude x0 x1) := fun _ _ _ _ _ h => nomatch h

theorem xoStabilityCountDone : ∀ x0 x1, Statement (.xoStabilityCountDone x0 x1) := fun _ _ _ _ _ h => nomatch h

theorem xoMissingEdge : ∀ x0, Statement (.xoMissingEdge x0) := fun _ _ _ _ h => nomatch h

theorem forceSwitch : ∀ x0 x1 x2 x3, Statement (.forceSwitch x0 x1 x2 x3) := by
  intro x0 x1 x2 x3 t q b h w
  simp only [Instr.wf, wfIdx, Bool.and_eq_true, decide_eq_true_eq] at w
  simp only [asks, Option.ite_none_right_eq_some] at h
  obtain ⟨g, h⟩ := h
  exact said h (by simp_all) (by dsimp only [writeBody]; decide) rfl (by dsimp only [writeBody]; omega) (by dsimp only [writeBody]; omega)

theorem muxSwitchComplete : ∀ x0 x1, Statement (.muxSwitchComplete x0 x1) := fun _ _ _ _ _ h => nomatch h

theorem muxSourceEdges : ∀ x0 x1, Statement (.muxSourceEdges x0 x1) := fun _ _ _ _ _ h => nomatch h

theorem muxHang : ∀ x0 x1, Statement (.muxHang x0 x1) := fun _ _ _ _ _ h => nomatch h

theorem gateClose : ∀ x0 x1, Statement (.gateClose x0 x1) := fun _ _ _ _ _ h => nomatch h

theorem pwmSpreadUpdate : ∀ x0, Statement (.pwmSpreadUpdate x0) := fun _ _ _ _ h => nomatch h

theorem synAcquisitionStart : ∀ x0 x1, Statement (.synAcquisitionStart x0 x1) := fun _ _ _ _ _ h => nomatch h

theorem synLock : ∀ x0 x1 x2 x3, Statement (.synLock x0 x1 x2 x3) := fun _ _ _ _ _ _ _ h => nomatch h

theorem synUnlock : ∀ x0 x1 x2, Statement (.synUnlock x0 x1 x2) := fun _ _ _ _ _ _ h => nomatch h

theorem synReacquire : ∀ x0 x1, Statement (.synReacquire x0 x1) := fun _ _ _ _ _ h => nomatch h

theorem synAcquisitionFail : ∀ x0 x1, Statement (.synAcquisitionFail x0 x1) := fun _ _ _ _ _ h => nomatch h

theorem synFaultRetry : ∀ x0 x1, Statement (.synFaultRetry x0 x1) := fun _ _ _ _ _ h => nomatch h

theorem refScale : ∀ x0 x1 x2 x3, Statement (.refScale x0 x1 x2 x3) := by
  intro x0 x1 x2 x3 t q b h w
  simp only [Instr.wf] at w
  exact said h (by simp_all) (by dsimp only [writeBody]; decide) rfl (by cases x2 <;> (dsimp only [writeBody]; decide)) (by dsimp only [writeBody]; decide)

theorem leader : ∀ x0 x1 x2 x3, Statement (.leader x0 x1 x2 x3) := by
  intro x0 x1 x2 x3 t q b h w
  simp only [Instr.wf, Bool.and_eq_true, decide_eq_true_eq] at w
  simp only [asks, Option.ite_none_right_eq_some] at h
  obtain ⟨g, h⟩ := h
  exact said h (by simp_all) (by dsimp only [writeBody]; decide) rfl (by dsimp only [writeBody]; omega) (by dsimp only [writeBody]; decide)

theorem loopUpdate : ∀ x0 x1, Statement (.loopUpdate x0 x1) := fun _ _ _ _ _ h => nomatch h

theorem loopAcquireEnd : ∀ x0 x1, Statement (.loopAcquireEnd x0 x1) := fun _ _ _ _ _ h => nomatch h

theorem loopHoldover : ∀ x0 x1, Statement (.loopHoldover x0 x1) := fun _ _ _ _ _ h => nomatch h

theorem ckoChange : ∀ x0 x1, Statement (.ckoChange x0 x1) := fun _ _ _ _ _ h => nomatch h

theorem combinerCrossfade : ∀ x0 x1, Statement (.combinerCrossfade x0 x1) := fun _ _ _ _ _ h => nomatch h

theorem combinerReturn : ∀ x0 x1, Statement (.combinerReturn x0 x1) := fun _ _ _ _ _ h => nomatch h

theorem inputOverload : ∀ x0 x1, Statement (.inputOverload x0 x1) := fun _ _ _ _ _ h => nomatch h

theorem inputOverloadRecovery : ∀ x0 x1, Statement (.inputOverloadRecovery x0 x1) := fun _ _ _ _ _ h => nomatch h

theorem inputClampEngage : ∀ x0 x1, Statement (.inputClampEngage x0 x1) := fun _ _ _ _ _ h => nomatch h

theorem inputClampRelease : ∀ x0 x1, Statement (.inputClampRelease x0 x1) := fun _ _ _ _ _ h => nomatch h

theorem referenceSettled : ∀ x0 x1, Statement (.referenceSettled x0 x1) := fun _ _ _ _ _ h => nomatch h

theorem refFault : ∀ x0 x1, Statement (.refFault x0 x1) := fun _ _ _ _ _ h => nomatch h

theorem refRecover : ∀ x0 x1, Statement (.refRecover x0 x1) := fun _ _ _ _ _ h => nomatch h

theorem overLatch : ∀ x0 x1 x2 x3, Statement (.overLatch x0 x1 x2 x3) := by
  intro x0 x1 x2 x3 t q b h w
  simp only [Instr.wf, wfIn, Bool.and_eq_true, decide_eq_true_eq] at w
  simp only [asks, Option.ite_none_right_eq_some] at h
  obtain ⟨g, h⟩ := h
  exact said h (by simp_all) (by dsimp only [writeBody]; decide) rfl (by dsimp only [writeBody]; omega) (by dsimp only [writeBody]; decide)

theorem phantomFrame : ∀ x0 x1, Statement (.phantomFrame x0 x1) := fun _ _ _ _ _ h => nomatch h

theorem phAlert : ∀ x0 x1, Statement (.phAlert x0 x1) := fun _ _ _ _ _ h => nomatch h

theorem phSettleEnd : ∀ x0 x1, Statement (.phSettleEnd x0 x1) := fun _ _ _ _ _ h => nomatch h

theorem asrcAcquired : ∀ x0 x1, Statement (.asrcAcquired x0 x1) := fun _ _ _ _ _ h => nomatch h

theorem asrcUnlock : ∀ x0 x1, Statement (.asrcUnlock x0 x1) := fun _ _ _ _ _ h => nomatch h

theorem layoutRestart : ∀ x0, Statement (.layoutRestart x0) := fun _ _ _ _ h => nomatch h

theorem blockLiveValue : ∀ x0 x1 x2 x3 x4, Statement (.blockLiveValue x0 x1 x2 x3 x4) := by
  intro x0 x1 x2 x3 x4 t q b h w
  simp only [Instr.wf, Bool.and_eq_true, decide_eq_true_eq] at w
  simp only [asks, Option.ite_none_right_eq_some] at h
  obtain ⟨g, h⟩ := h
  exact said h (by simp_all) (by dsimp only [writeBody]; decide) rfl (by dsimp only [writeBody]; omega) (by dsimp only [writeBody]; omega)

theorem meterPeriod : ∀ x0 x1, Statement (.meterPeriod x0 x1) := fun _ _ _ _ _ h => nomatch h

theorem meterRead : ∀ x0 x1 x2 x3 x4, Statement (.meterRead x0 x1 x2 x3 x4) := by
  intro x0 x1 x2 x3 x4 t q b h w
  simp only [Instr.wf, wfIdx, Bool.and_eq_true, decide_eq_true_eq] at w
  simp only [asks, Option.ite_none_right_eq_some] at h
  obtain ⟨g, h⟩ := h
  exact said h (by simp_all) (by dsimp only [writeBody]; decide) rfl (by dsimp only [writeBody]; omega) (by dsimp only [writeBody]; omega)

theorem cmReady : ∀ x0 x1, Statement (.cmReady x0 x1) := fun _ _ _ _ _ h => nomatch h

theorem cmFallEnd : ∀ x0 x1, Statement (.cmFallEnd x0 x1) := fun _ _ _ _ _ h => nomatch h

theorem hpBiasReady : ∀ x0, Statement (.hpBiasReady x0) := fun _ _ _ _ h => nomatch h

theorem hpBiasFallEnd : ∀ x0, Statement (.hpBiasFallEnd x0) := fun _ _ _ _ h => nomatch h

theorem outModeSwitch : ∀ x0 x1, Statement (.outModeSwitch x0 x1) := fun _ _ _ _ _ h => nomatch h

theorem currentLimitWindow : ∀ x0 x1 x2, Statement (.currentLimitWindow x0 x1 x2) := fun _ _ _ _ _ _ h => nomatch h

theorem scRetry : ∀ x0 x1, Statement (.scRetry x0 x1) := fun _ _ _ _ _ h => nomatch h

theorem faultClear : ∀ x0 x1 x2, Statement (.faultClear x0 x1 x2) := by
  intro x0 x1 x2 t q b h w
  simp only [Instr.wf, wfIdx, Bool.and_eq_true, decide_eq_true_eq] at w
  simp only [asks, Option.ite_none_right_eq_some] at h
  obtain ⟨g, h⟩ := h
  exact said h (by simp_all) (by dsimp only [writeBody]; decide) rfl (by dsimp only [writeBody]; omega) (by dsimp only [writeBody]; split <;> decide)

theorem jackEdge : ∀ x0 x1, Statement (.jackEdge x0 x1) := fun _ _ _ _ _ h => nomatch h

theorem jackDebounceEnd : ∀ x0 x1, Statement (.jackDebounceEnd x0 x1) := fun _ _ _ _ _ h => nomatch h

theorem jackMeasureEnd : ∀ x0 x1 x2 x3, Statement (.jackMeasureEnd x0 x1 x2 x3) := fun _ _ _ _ _ _ _ h => nomatch h

theorem jackRemove : ∀ x0 x1, Statement (.jackRemove x0 x1) := fun _ _ _ _ _ h => nomatch h

theorem jackAction : ∀ x0 x1 x2 x3 x4, Statement (.jackAction x0 x1 x2 x3 x4) := by
  intro x0 x1 x2 x3 x4 t q b h w
  simp only [Instr.wf, wfHp, Bool.and_eq_true, Bool.or_eq_true, beq_iff_eq] at w
  simp only [asks, Option.ite_none_right_eq_some] at h
  obtain ⟨g, h⟩ := h
  exact said h (by simp_all) (by dsimp only [writeBody]; decide) rfl (by dsimp only [writeBody]; omega) (by dsimp only [writeBody]; split <;> decide)

theorem pwmEnLeadEnd : ∀ x0 x1, Statement (.pwmEnLeadEnd x0 x1) := fun _ _ _ _ _ h => nomatch h

theorem pwmEnSettleEnd : ∀ x0 x1, Statement (.pwmEnSettleEnd x0 x1) := fun _ _ _ _ _ h => nomatch h

theorem pwmStopLeadEnd : ∀ x0 x1, Statement (.pwmStopLeadEnd x0 x1) := fun _ _ _ _ _ h => nomatch h

theorem pwmEdgeEvent : ∀ x0 x1, Statement (.pwmEdgeEvent x0 x1) := fun _ _ _ _ _ h => nomatch h

theorem portFrame : ∀ x0 x1 x2 x3, Statement (.portFrame x0 x1 x2 x3) := fun _ _ _ _ _ _ _ h => nomatch h

theorem sapClockLost : ∀ x0 x1 x2, Statement (.sapClockLost x0 x1 x2) := fun _ _ _ _ _ _ h => nomatch h

theorem linkUp : ∀ x0 x1, Statement (.linkUp x0 x1) := fun _ _ _ _ _ h => nomatch h

theorem linkDown : ∀ x0 x1, Statement (.linkDown x0 x1) := fun _ _ _ _ _ h => nomatch h

theorem helloSend : ∀ x0 x1, Statement (.helloSend x0 x1) := fun _ _ _ _ _ h => nomatch h

theorem hello : ∀ x0 x1 x2 x3 x4 x5 x6, Statement (.hello x0 x1 x2 x3 x4 x5 x6) := fun _ _ _ _ _ _ _ _ _ _ h => nomatch h

theorem edgeTimeout : ∀ x0 x1, Statement (.edgeTimeout x0 x1) := fun _ _ _ _ _ h => nomatch h

theorem headClaim : ∀ x0, Statement (.headClaim x0) := fun _ _ _ _ h => nomatch h

theorem headElection : ∀ x0, Statement (.headElection x0) := fun _ _ _ _ h => nomatch h

theorem topology : ∀ x0 x1 x2, Statement (.topology x0 x1 x2) := fun _ _ _ _ _ _ h => nomatch h

theorem cycleStartSend : ∀ x0, Statement (.cycleStartSend x0) := fun _ _ _ _ h => nomatch h

theorem cycleStart : ∀ x0 x1 x2, Statement (.cycleStart x0 x1 x2) := fun _ _ _ _ _ _ h => nomatch h

theorem audio : ∀ x0 x1 x2, Statement (.audio x0 x1 x2) := fun _ _ _ _ _ _ h => nomatch h

theorem frameForward : ∀ x0 x1 x2, Statement (.frameForward x0 x1 x2) := fun _ _ _ _ _ _ h => nomatch h

theorem transaction : ∀ x0 x1 x2, Statement (.transaction x0 x1 x2) := fun _ _ _ _ _ _ h => nomatch h

theorem peerDelay : ∀ x0 x1 x2, Statement (.peerDelay x0 x1 x2) := fun _ _ _ _ _ _ h => nomatch h

theorem chainJoin : ∀ x0, Statement (.chainJoin x0) := fun _ _ _ _ h => nomatch h

theorem joinRetry : ∀ x0, Statement (.joinRetry x0) := fun _ _ _ _ h => nomatch h

theorem nodeRelease : ∀ x0 x1, Statement (.nodeRelease x0 x1) := fun _ _ _ _ _ h => nomatch h

theorem chainHoldover : ∀ x0, Statement (.chainHoldover x0) := fun _ _ _ _ h => nomatch h

theorem chainSyncLoss : ∀ x0, Statement (.chainSyncLoss x0) := fun _ _ _ _ h => nomatch h

theorem shareRequest : ∀ x0 x1 x2, Statement (.shareRequest x0 x1 x2) := by
  intro x0 x1 x2 t q b h w
  simp only [Instr.wf] at w
  exact said h (by simp_all) (by dsimp only [writeBody]; decide) rfl (by dsimp only [writeBody]; decide) (by dsimp only [writeBody]; decide)

theorem share : ∀ x0 x1, Statement (.share x0 x1) := fun _ _ _ _ _ h => nomatch h

theorem presentationChange : ∀ x0, Statement (.presentationChange x0) := fun _ _ _ _ h => nomatch h

theorem flowLost : ∀ x0 x1, Statement (.flowLost x0 x1) := fun _ _ _ _ _ h => nomatch h

theorem altSourceSwitch : ∀ x0 x1, Statement (.altSourceSwitch x0 x1) := fun _ _ _ _ _ h => nomatch h

theorem aes67Packet : ∀ x0 x1 x2, Statement (.aes67Packet x0 x1 x2) := fun _ _ _ _ _ _ h => nomatch h

theorem sendBeacon : ∀ x0 x1 x2, Statement (.sendBeacon x0 x1 x2) := by
  intro x0 x1 x2 t q b h w
  simp only [Instr.wf] at w
  exact said h (by simp_all) (by dsimp only [writeBody]; decide) rfl (by dsimp only [writeBody]; decide) (by dsimp only [writeBody]; decide)

theorem beaconRequest : ∀ x0 x1 x2, Statement (.beaconRequest x0 x1 x2) := fun _ _ _ _ _ _ h => nomatch h

theorem beaconReceive : ∀ x0 x1 x2 x3 x4, Statement (.beaconReceive x0 x1 x2 x3 x4) := fun _ _ _ _ _ _ _ _ h => nomatch h

theorem heartbeatSend : ∀ x0, Statement (.heartbeatSend x0) := fun _ _ _ _ h => nomatch h

theorem heartbeat : ∀ x0 x1, Statement (.heartbeat x0 x1) := fun _ _ _ _ _ h => nomatch h

theorem arbBeat : ∀ x0 x1, Statement (.arbBeat x0 x1) := fun _ _ _ _ _ h => nomatch h

theorem revoke : ∀ x0 x1, Statement (.revoke x0 x1) := fun _ _ _ _ _ h => nomatch h

theorem released : ∀ x0 x1, Statement (.released x0 x1) := fun _ _ _ _ _ h => nomatch h

theorem heartbeatWindow : ∀ x0 x1 x2, Statement (.heartbeatWindow x0 x1 x2) := fun _ _ _ _ _ _ h => nomatch h

theorem peerActIn : ∀ x0 x1, Statement (.peerActIn x0 x1) := fun _ _ _ _ _ h => nomatch h

theorem interlockWaitEnd : ∀ x0, Statement (.interlockWaitEnd x0) := fun _ _ _ _ h => nomatch h

theorem revokeTimeout : ∀ x0 x1, Statement (.revokeTimeout x0 x1) := fun _ _ _ _ _ h => nomatch h

theorem selfRelease : ∀ x0, Statement (.selfRelease x0) := fun _ _ _ _ h => nomatch h

theorem arbiterLost : ∀ x0, Statement (.arbiterLost x0) := fun _ _ _ _ h => nomatch h

theorem takeoverRampStart : ∀ x0, Statement (.takeoverRampStart x0) := fun _ _ _ _ h => nomatch h

theorem selfCheckPass : ∀ x0, Statement (.selfCheckPass x0) := fun _ _ _ _ h => nomatch h

theorem revertHoldoffEnd : ∀ x0, Statement (.revertHoldoffEnd x0) := fun _ _ _ _ h => nomatch h

theorem switchRequest : ∀ x0 x1 x2, Statement (.switchRequest x0 x1 x2) := by
  intro x0 x1 x2 t q b h w
  simp only [Instr.wf] at w
  exact said h (by simp_all) (by dsimp only [writeBody]; decide) rfl (by dsimp only [writeBody]; decide) (by dsimp only [writeBody]; decide)

theorem grantTo : ∀ x0 x1 x2 x3, Statement (.grantTo x0 x1 x2 x3) := by
  intro x0 x1 x2 x3 t q b h w
  simp only [Instr.wf, Bool.and_eq_true, decide_eq_true_eq] at w
  simp only [asks, Option.ite_none_right_eq_some] at h
  obtain ⟨g, h⟩ := h
  exact said h (by simp_all) (by dsimp only [writeBody]; decide) rfl (by dsimp only [writeBody]; omega) (by dsimp only [writeBody]; decide)

theorem arbiterStart : ∀ x0 x1, Statement (.arbiterStart x0 x1) := fun _ _ _ _ _ h => nomatch h

theorem listenFrame : ∀ x0 x1, Statement (.listenFrame x0 x1) := fun _ _ _ _ _ h => nomatch h

theorem hangEnd : ∀ x0, Statement (.hangEnd x0) := fun _ _ _ _ h => nomatch h

theorem matcherFrame : ∀ x0 x1 x2 x3, Statement (.matcherFrame x0 x1 x2 x3) := fun _ _ _ _ _ _ _ h => nomatch h

theorem ringOverlapEnd : ∀ x0, Statement (.ringOverlapEnd x0) := fun _ _ _ _ h => nomatch h

theorem ringRelease : ∀ x0 x1, Statement (.ringRelease x0 x1) := by
  intro x0 x1 t q b h w
  simp only [Instr.wf] at w
  exact said h (by simp_all) (by dsimp only [writeBody]; decide) rfl (by dsimp only [writeBody]; decide) (by dsimp only [writeBody]; decide)

theorem readerAtEnd : ∀ x0 x1, Statement (.readerAtEnd x0 x1) := fun _ _ _ _ _ h => nomatch h

theorem feedSwitch : ∀ x0, Statement (.feedSwitch x0) := fun _ _ _ _ h => nomatch h

theorem frontEndSettled : ∀ x0, Statement (.frontEndSettled x0) := fun _ _ _ _ h => nomatch h

theorem hkConversionComplete : ∀ x0 x1 x2, Statement (.hkConversionComplete x0 x1 x2) := fun _ _ _ _ _ _ h => nomatch h

theorem calibrationComplete : ∀ x0, Statement (.calibrationComplete x0) := fun _ _ _ _ h => nomatch h

theorem hkTimer : ∀ x0, Statement (.hkTimer x0) := fun _ _ _ _ h => nomatch h

theorem swTrigger : ∀ x0 x1, Statement (.swTrigger x0 x1) := by
  intro x0 x1 t q b h w
  simp only [Instr.wf] at w
  exact said h (by simp_all) (by dsimp only [writeBody]; decide) rfl (by dsimp only [writeBody]; decide) (by dsimp only [writeBody]; decide)

theorem pwmDelayEnd : ∀ x0, Statement (.pwmDelayEnd x0) := fun _ _ _ _ h => nomatch h

theorem urgentBank : ∀ x0 x1 x2, Statement (.urgentBank x0 x1 x2) := by
  intro x0 x1 x2 t q b h w
  simp only [Instr.wf] at w
  simp only [asks, Option.ite_none_right_eq_some] at h
  obtain ⟨g, h⟩ := h
  exact said h (by simp_all) (by dsimp only [writeBody]; decide) rfl (by dsimp only [writeBody]; decide) (by dsimp only [writeBody]; decide)

theorem urgentSlice : ∀ x0 x1 x2, Statement (.urgentSlice x0 x1 x2) := by
  intro x0 x1 x2 t q b h w
  simp only [Instr.wf] at w
  simp only [asks, Option.ite_none_right_eq_some] at h
  obtain ⟨g, h⟩ := h
  exact said h (by simp_all) (by dsimp only [writeBody]; decide) rfl (by dsimp only [writeBody]; decide) (by dsimp only [writeBody]; decide)

theorem supervisionScan : ∀ x0, Statement (.supervisionScan x0) := fun _ _ _ _ h => nomatch h

theorem refSource : ∀ x0 x1 x2, Statement (.refSource x0 x1 x2) := by
  intro x0 x1 x2 t q b h w
  simp only [Instr.wf] at w
  exact said h (by simp_all) (by dsimp only [writeBody]; decide) rfl (by dsimp only [writeBody]; decide) (by dsimp only [writeBody]; decide)

theorem refSettled : ∀ x0, Statement (.refSettled x0) := fun _ _ _ _ h => nomatch h

theorem windowMode : ∀ x0 x1 x2, Statement (.windowMode x0 x1 x2) := by
  intro x0 x1 x2 t q b h w
  simp only [Instr.wf] at w
  exact said h (by simp_all) (by dsimp only [writeBody]; decide) rfl (by dsimp only [writeBody]; decide) (by dsimp only [writeBody]; decide)

theorem mainsEdge : ∀ x0, Statement (.mainsEdge x0) := fun _ _ _ _ h => nomatch h

theorem mainsLoss : ∀ x0, Statement (.mainsLoss x0) := fun _ _ _ _ h => nomatch h

theorem hkResultRead : ∀ x0 x1 x2, Statement (.hkResultRead x0 x1 x2) := by
  intro x0 x1 x2 t q b h w
  simp only [Instr.wf, Bool.and_eq_true, decide_eq_true_eq] at w
  exact said h (by simp_all) (by dsimp only [writeBody]; decide) rfl (by dsimp only [writeBody]; decide) (by dsimp only [writeBody]; decide)

theorem deviceId : ∀ x0, Statement (.deviceId x0) := fun _ _ _ _ h => nomatch h

theorem status : ∀ x0, Statement (.status x0) := fun _ _ _ _ h => nomatch h

theorem request : ∀ x0 x1, Statement (.request x0 x1) := fun _ _ _ _ _ h => nomatch h

theorem response : ∀ x0 x1, Statement (.response x0 x1) := fun _ _ _ _ _ h => nomatch h

theorem responseLen : ∀ x0, Statement (.responseLen x0) := fun _ _ _ _ h => nomatch h

theorem resend : ∀ x0, Statement (.resend x0) := fun _ _ _ _ h => nomatch h

theorem attention : ∀ x0 x1, Statement (.attention x0 x1) := by
  intro x0 x1 t q b h w
  cases x1 with
  | twb0 => exact nomatch h
  | object r n => exact said h (Bool.and_eq_true_iff.mp w).1 (by dsimp only; decide) rfl (by dsimp only; decide) (by dsimp only; decide)

theorem unknownCommand : ∀ x0 x1, Statement (.unknownCommand x0 x1) := fun _ _ _ _ _ h => nomatch h

theorem startInAck : ∀ x0, Statement (.startInAck x0) := fun _ _ _ _ h => nomatch h

theorem stretchTimeout : ∀ x0, Statement (.stretchTimeout x0) := fun _ _ _ _ h => nomatch h

theorem sclTimeout : ∀ x0, Statement (.sclTimeout x0) := fun _ _ _ _ h => nomatch h

theorem hostNotify : ∀ x0 x1, Statement (.hostNotify x0 x1) := fun _ _ _ _ _ h => nomatch h

theorem notifyRetry : ∀ x0 x1, Statement (.notifyRetry x0 x1) := fun _ _ _ _ _ h => nomatch h

theorem arbitrationLost : ∀ x0 x1 x2, Statement (.arbitrationLost x0 x1 x2) := fun _ _ _ _ _ _ h => nomatch h

theorem busRecovery : ∀ x0 x1 x2, Statement (.busRecovery x0 x1 x2) := fun _ _ _ _ _ _ h => nomatch h

theorem busStuckRetry : ∀ x0 x1 x2, Statement (.busStuckRetry x0 x1 x2) := fun _ _ _ _ _ _ h => nomatch h

theorem hspiRequest : ∀ x0 x1 x2, Statement (.hspiRequest x0 x1 x2) := fun _ _ _ _ _ _ h => nomatch h

theorem fetch : ∀ x0 x1, Statement (.fetch x0 x1) := fun _ _ _ _ _ h => nomatch h

theorem hspiStatus : ∀ x0 x1, Statement (.hspiStatus x0 x1) := fun _ _ _ _ _ h => nomatch h

theorem refetch : ∀ x0 x1, Statement (.refetch x0 x1) := fun _ _ _ _ _ h => nomatch h

theorem push : ∀ x0 x1 x2 x3, Statement (.push x0 x1 x2 x3) := fun _ _ _ _ _ _ _ h => nomatch h

theorem pushEnd : ∀ x0 x1 x2 x3, Statement (.pushEnd x0 x1 x2 x3) := fun _ _ _ _ _ _ _ h => nomatch h

theorem hspiFrameAbort : ∀ x0, Statement (.hspiFrameAbort x0) := fun _ _ _ _ h => nomatch h

theorem bootImageAccepted : ∀ x0 x1 x2, Statement (.bootImageAccepted x0 x1 x2) := fun _ _ _ _ _ _ h => nomatch h

theorem bootRetry : ∀ x0, Statement (.bootRetry x0) := fun _ _ _ _ h => nomatch h

theorem recipeRecords : ∀ x0, Statement (.recipeRecords x0) := fun _ _ _ _ h => nomatch h

theorem verifySlot : ∀ x0 x1 x2 x3, Statement (.verifySlot x0 x1 x2 x3) := fun _ _ _ _ _ _ _ h => nomatch h

theorem commitSv : ∀ x0 x1, Statement (.commitSv x0 x1) := by
  intro x0 x1 t q b h w
  simp only [Instr.wf] at w
  exact said h (by simp_all) (by dsimp only [writeBody]; decide) rfl (by dsimp only [writeBody]; decide) (by dsimp only [writeBody]; decide)

theorem memTrainingStart : ∀ x0, Statement (.memTrainingStart x0) := fun _ _ _ _ h => nomatch h

theorem memReady : ∀ x0 x1 x2, Statement (.memReady x0 x1 x2) := fun _ _ _ _ _ _ h => nomatch h

theorem memTrainFail : ∀ x0, Statement (.memTrainFail x0) := fun _ _ _ _ h => nomatch h

theorem zqCalibration : ∀ x0, Statement (.zqCalibration x0) := fun _ _ _ _ h => nomatch h

theorem dqsCheck : ∀ x0 x1, Statement (.dqsCheck x0 x1) := fun _ _ _ _ _ h => nomatch h

theorem mr4Poll : ∀ x0 x1 x2, Statement (.mr4Poll x0 x1 x2) := fun _ _ _ _ _ _ h => nomatch h

theorem memFault : ∀ x0 x1, Statement (.memFault x0 x1) := fun _ _ _ _ _ h => nomatch h

theorem autoRetrain : ∀ x0, Statement (.autoRetrain x0) := fun _ _ _ _ h => nomatch h

theorem retrain : ∀ x0 x1, Statement (.retrain x0 x1) := by
  intro x0 x1 t q b h w
  simp only [Instr.wf] at w
  exact said h (by simp_all) (by dsimp only [writeBody]; decide) rfl (by dsimp only [writeBody]; decide) (by dsimp only [writeBody]; decide)

theorem transportCommand : ∀ x0 x1 x2 x3, Statement (.transportCommand x0 x1 x2 x3) := by
  intro x0 x1 x2 x3 t q b h w
  simp only [Instr.wf, Bool.and_eq_true, decide_eq_true_eq] at w
  simp only [asks, Option.ite_none_right_eq_some] at h
  obtain ⟨g, h⟩ := h
  exact said h (by simp_all) (by dsimp only [writeBody]; decide) rfl (by dsimp only [writeBody]; omega) (by dsimp only [writeBody]; decide)

theorem transportStart : ∀ x0 x1, Statement (.transportStart x0 x1) := fun _ _ _ _ _ h => nomatch h

theorem counterSource : ∀ x0 x1 x2 x3, Statement (.counterSource x0 x1 x2 x3) := by
  intro x0 x1 x2 x3 t q b h w
  simp only [Instr.wf, Bool.and_eq_true, decide_eq_true_eq] at w
  simp only [asks, Option.ite_none_right_eq_some] at h
  obtain ⟨g, h⟩ := h
  exact said h (by simp_all) (by dsimp only [writeBody]; decide) rfl (by dsimp only [writeBody]; omega) (by dsimp only [writeBody]; decide)

theorem counterClear : ∀ x0 x1 x2, Statement (.counterClear x0 x1 x2) := by
  intro x0 x1 x2 t q b h w
  simp only [Instr.wf, Bool.and_eq_true, decide_eq_true_eq] at w
  simp only [asks, Option.ite_none_right_eq_some] at h
  obtain ⟨g, h⟩ := h
  exact said h (by simp_all) (by dsimp only [writeBody]; decide) rfl (by dsimp only [writeBody]; omega) (by dsimp only [writeBody]; decide)

theorem snapNow : ∀ x0 x1, Statement (.snapNow x0 x1) := by
  intro x0 x1 t q b h w
  simp only [Instr.wf] at w
  exact said h (by simp_all) (by dsimp only [writeBody]; decide) rfl (by dsimp only [writeBody]; decide) (by dsimp only [writeBody]; decide)

theorem snapChain : ∀ x0 x1, Statement (.snapChain x0 x1) := by
  intro x0 x1 t q b h w
  simp only [Instr.wf] at w
  exact said h (by simp_all) (by dsimp only [writeBody]; decide) rfl (by dsimp only [writeBody]; decide) (by dsimp only [writeBody]; decide)

theorem snapshot : ∀ x0 x1 x2, Statement (.snapshot x0 x1 x2) := fun _ _ _ _ _ _ h => nomatch h

theorem snapAtReached : ∀ x0, Statement (.snapAtReached x0) := fun _ _ _ _ h => nomatch h

theorem testRun : ∀ x0 x1, Statement (.testRun x0 x1) := by
  intro x0 x1 t q b h w
  simp only [Instr.wf] at w
  exact said h (by simp_all) (by dsimp only [writeBody]; decide) rfl (by dsimp only [writeBody]; decide) (by dsimp only [writeBody]; decide)

theorem testItemComplete : ∀ x0 x1, Statement (.testItemComplete x0 x1) := fun _ _ _ _ _ h => nomatch h

theorem avdd33RetentionLoss : ∀ x0, Statement (.avdd33RetentionLoss x0) := fun _ _ _ _ h => nomatch h

theorem bootFail : ∀ x0, Statement (.bootFail x0) := fun _ _ _ _ h => nomatch h

theorem scanConversionDue : ∀ x0, Statement (.scanConversionDue x0) := fun _ _ _ _ h => nomatch h

theorem jackAbsent : ∀ x0 x1, Statement (.jackAbsent x0 x1) := fun _ _ _ _ _ h => nomatch h

theorem edgePtpMessage : ∀ x0 x1 x2 x3, Statement (.edgePtpMessage x0 x1 x2 x3) := fun _ _ _ _ _ _ _ h => nomatch h

end Sys2Proof.Laws.AskFits
end

