-- ==== Sys2Proof/Laws/Rights.lean ====
section
/-!
SUPPORT. The operations that can write the rights of 1020h (R51, R52): each leaves the queue of commands as it was and keeps
the rights legal. Every other operation leaves both as they were (Laws/Fixed*.lean).
-/

set_option autoImplicit false

namespace Sys2Proof.Machine

/-- `u` has the queue of commands of `s`, and legal rights if `s` has. -/
def State.Keeps (s u : State) : Prop := u.pending = s.pending ∧ (s.rights.legal = true → u.rights.legal = true)

/-- The same of the next state that an outcome answers. -/
def State.KeepsIn (s : State) (o : Host.Outcome State Fault Refusal) : Prop := ∃ u, o = .next u ∧ s.Keeps u

namespace State

theorem Keeps.of_fixed {s u : State} (h : u.fixed = s.fixed) : s.Keeps u := by
  obtain ⟨a, b⟩ := Prod.mk.inj h
  exact ⟨b, fun k => a ▸ k⟩

theorem Keeps.refl (s : State) : s.Keeps s := .of_fixed rfl

theorem Keeps.trans {s u v : State} (h : s.Keeps u) (k : u.Keeps v) : s.Keeps v :=
  ⟨k.1.trans h.1, fun l => k.2 (h.2 l)⟩

/-- What keeps the part altogether may follow. -/
theorem Keeps.then {s u v : State} (h : s.Keeps u) (k : v.fixed = u.fixed) : s.Keeps v := h.trans (.of_fixed k)

/-- What keeps the part altogether may come before. -/
theorem Keeps.after {s u v : State} (k : u.Keeps v) (h : u.fixed = s.fixed) : s.Keeps v := (of_fixed h).trans k

theorem KeepsIn.of_fixed {s : State} {o : Host.Outcome State Fault Refusal} (h : fixedOf o = some s.fixed) : s.KeepsIn o := by
  cases o with
  | next u => exact ⟨u, rfl, .of_fixed (Option.some.inj h)⟩
  | fault => cases h
  | refused => cases h

/-- What keeps the part altogether may come before. -/
theorem KeepsIn.after {s u : State} {o : Host.Outcome State Fault Refusal} (k : u.KeepsIn o) (h : u.fixed = s.fixed) :
    s.KeepsIn o :=
  let ⟨v, e, l⟩ := k
  ⟨v, e, l.after h⟩

theorem KeepsIn.of_next {s u : State} (h : s.Keeps u) : s.KeepsIn (.next u) := ⟨u, rfl, h⟩

theorem keeps_ite {s a b : State} (c : Prop) [Decidable c] (h : s.Keeps a) (k : s.Keeps b) : s.Keeps (if c then a else b) := by
  split <;> assumption

theorem keepsIn_ite {s : State} {a b : Host.Outcome State Fault Refusal} (c : Prop) [Decidable c] (h : s.KeepsIn a)
    (k : s.KeepsIn b) : s.KeepsIn (if c then a else b) := by
  split <;> assumption

theorem Keeps.of_default {s u : State} (h : u.fixed = (Rights.default, s.pending)) : s.Keeps u := by
  obtain ⟨a, b⟩ := Prod.mk.inj h
  exact ⟨b, fun _ => a ▸ by decide⟩

end State

theorem foldl_keeps {α : Type} (f : State → α → State) (l : List α) (s : State) (h : ∀ (u : State) x, u.Keeps (f u x)) :
    s.Keeps (l.foldl f s) := by
  induction l generalizing s with
  | nil => exact .refl s
  | cons x l ih => exact (h s x).trans (ih _)

/-! ## Writes -/

theorem low22 (v i : Nat) (h : 22 ≤ i) : (BitVec.ofNat 32 (v % 2 ^ 22)).getLsbD i = false := by
  rw [BitVec.getLsbD_ofNat, Nat.testBit_mod_two_pow]
  simp [Nat.not_lt.mpr h]

theorem writeMaskOk_ofNat (v : Nat) : writeMaskOk (BitVec.ofNat 32 (v % 4194304)) = true := by
  rw [writeMaskOk, beq_iff_eq]
  apply BitVec.eq_of_getLsbD_eq
  intro i hi
  rw [BitVec.getLsbD_and]
  by_cases h : 22 ≤ i
  · rw [show (BitVec.ofNat 32 (v % 4194304)).getLsbD i = false from low22 v i h]; simp
  · have k : i < 22 := by omega
    interval_cases i <;> simp

theorem readMaskOk_ofNat (v : Nat) : readMaskOk (BitVec.ofNat 32 (v % 4194304) ||| 5#32) = true := by
  rw [readMaskOk, beq_iff_eq]
  apply BitVec.eq_of_getLsbD_eq
  intro i hi
  rw [BitVec.getLsbD_and, BitVec.getLsbD_or]
  by_cases h : 22 ≤ i
  · rw [show (BitVec.ofNat 32 (v % 4194304)).getLsbD i = false from low22 v i h]
    interval_cases i <;> rfl
  · have k : i < 22 := by omega
    interval_cases i <;> simp

theorem Rights.set_legal (r : Rights) (sub v : Nat) (h : r.legal = true) : (r.set sub v).legal = true := by
  simp only [Rights.legal, Bool.and_eq_true] at h
  obtain ⟨⟨⟨⟨⟨a, b⟩, c⟩, d⟩, e⟩, f⟩ := h
  unfold Rights.set
  split <;> simp [Rights.legal, a, b, c, d, e, f, writeMaskOk_ofNat, readMaskOk_ofNat]

theorem Rights.default_legal : Rights.default.legal = true := by decide

theorem State.store_keeps (s : State) (x : WItem) : s.Keeps (s.store x) := by
  unfold State.store
  simp only []
  repeat' split
  · exact .refl s
  · exact ⟨rfl, Rights.set_legal _ _ _⟩
  all_goals exact .of_fixed (by simp)

theorem State.applyWrites_keeps (b : State) (l : List WItem) : b.Keeps (b.applyWrites l) := by
  unfold State.applyWrites
  extract_lets s1 s2 s3 s4 s5 s6 s7
  have h1 : s1.fixed = (l.foldl State.store b).fixed := foldl_fixed _ _ _ fun u x => by simp
  have h2 : s2.fixed = s1.fixed := foldl_fixed _ _ _ fun u n => by simp
  have h3 : s3.fixed = s2.fixed := foldl_fixed _ _ _ fun u n => by
    simp only []
    repeat' split
    all_goals simp
  have h4 : s4.fixed = s3.fixed := foldl_fixed _ _ _ fun u x => by simp
  have h5 : s5.fixed = s4.fixed := foldl_fixed _ _ _ fun u n => by
    repeat' split
    all_goals simp
  have h6 : s6.fixed = s5.fixed := foldl_fixed _ _ _ fun u n => by simp
  have h7 : s7.fixed = s6.fixed := by
    unfold s7
    split <;> simp
  refine (foldl_keeps State.store l b State.store_keeps).then ?_
  clear_value s7 s6 s5 s4 s3 s2 s1
  split <;> simp [h7, h6, h5, h4, h3, h2, h1]

theorem State.accept_keeps (s : State) (w : Requester) (node : Nat) (tracked : Bool) (seq count first at_ : Nat)
    (l : List WItem) : s.Keeps (s.accept w node tracked seq count first at_ l) := by
  unfold State.accept
  refine (State.applyWrites_keeps _ _).after ?_
  simp

theorem State.applyDue_keeps (s : State) (d frame : Nat) (only : Bool) : s.Keeps (s.applyDue d frame only) := by
  unfold State.applyDue
  refine (foldl_keeps _ _ _ fun u p => ?_).after (by simp)
  exact (State.applyWrites_keeps u p.writes).then (by simp)

/-! ## Transactions -/

theorem State.written_keeps (r : Reply) (w : Requester) (node : Nat) (x : WItem) :
    r.s.Keeps (State.written r w node x).s := State.accept_keeps _ _ _ _ _ _ _ _ _

@[simp] theorem State.staged_fixed (r : Reply) (w : Requester) (x : WItem) :
    (State.staged r w x).s.fixed = r.s.fixed := by
  simp [State.staged]

theorem State.commitSet_keeps (s : State) (w : Requester) (node : Nat) : s.Keeps (s.commitSet w node).s := by
  unfold State.commitSet
  simp only []
  split
  · exact .of_fixed (by simp)
  · split
    · exact .of_fixed (by simp)
    · refine ((State.accept_keeps _ _ _ _ _ _ _ _ _).after ?_).then (State.applyOwn_fixed _ _ _ _)
      simp

theorem State.closeBlock_keeps (s : State) (w : Requester) (node : Nat) (stage : Bool) (b : Body) :
    s.Keeps (s.closeBlock w node stage b).s := by
  unfold State.closeBlock
  extract_lets crc u x st s1 s2 r
  have h1 : s1.fixed = s.fixed := by
    unfold s1
    split <;> simp
  have h2 : s2.fixed = s1.fixed := by
    unfold s2
    split <;> simp
  have h3 : r.s.fixed = s.fixed := by simp [r, h1, h2]
  clear_value r
  split
  · exact .of_fixed (by simp)
  · split
    · exact .of_fixed h3
    · split
      · exact .of_fixed (by simp [h3])
      · exact (State.written_keeps _ _ _ _).after h3

theorem State.writeNow_keeps (s : State) (w : Requester) (node : Nat) (b : Body) (r : Row) :
    s.Keeps (s.writeNow w node b r).s := by
  unfold State.writeNow
  simp only []
  repeat' split
  case _ => exact .of_fixed (by simp)
  case _ => exact .of_fixed (by simp)
  case _ => exact .of_fixed (by simp)
  case _ => exact State.commitSet_keeps s w node
  all_goals exact .of_fixed (by simp)

theorem State.execWriteOp_keeps (s : State) (w : Requester) (node : Nat) (stage : Bool) (b : Body) :
    s.Keeps (s.execWriteOp w node stage b).s := by
  unfold State.execWriteOp
  extract_lets kind quiet fail st x st1 st2
  have h : ∀ n, (fail n).s.fixed = s.fixed := by
    intro n
    unfold fail
    split <;> simp
  clear_value fail
  split
  · exact .of_fixed (h _)
  · split
    · exact .of_fixed (h _)
    · split
      · exact .of_fixed (h _)
      · split
        · exact .of_fixed (by simp)
        · split
          · exact State.writeNow_keeps _ _ _ _ _
          · split
            · exact State.closeBlock_keeps _ _ _ _ _
            · split
              · split
                · exact .of_fixed (h _)
                · exact .of_fixed (by simp)
              · split
                · exact .of_fixed (by simp)
                · split
                  · exact .of_fixed (h _)
                  · exact (State.written_keeps _ _ _ _).after (by simp)

theorem State.execBody_keeps (s : State) (w : Requester) (node : Nat) (b : Body) : s.Keeps (s.execBody w node b).s := by
  unfold State.execBody
  simp only []
  split
  · exact .of_fixed (by simp)
  · exact (State.execWriteOp_keeps _ _ _ _ _).after (by simp)
  · exact (State.execWriteOp_keeps _ _ _ _ _).after (by simp)
  · exact .of_fixed (by simp)
  · exact .of_fixed (by simp)
  · exact .of_fixed (by simp)

theorem State.serve_keeps (s : State) (k : Nat) (w : Requester) : s.Keeps (s.serve k w) := by
  unfold State.serve
  split
  · exact .refl s
  · extract_lets s1 s2
    have h : s2.fixed = s.fixed := by simp [s2, s1]
    clear_value s2
    split
    · split
      · exact .of_fixed (by simp [h])
      · exact .of_fixed h
    · split
      · exact .of_fixed h
      · next b _ =>
        exact ((State.execBody_keeps s2 w _ b).after h).then (State.answer_fixed _ _ _ _)

theorem State.transact_keeps (s : State) (q : Req) (b : Body) : s.Keeps (s.transact q b) := by
  unfold State.transact
  split
  · split
    · split
      · exact State.serve_keeps _ _ _
      · exact .refl s
    · exact .refl s
  · simp only []
    split
    · exact (State.serve_keeps _ _ _).after (by simp)
    · exact .of_fixed (by simp)

theorem State.transactWrite_keeps (s : State) (q : Req) (i sub : Nat) (data : List Byte) :
    s.Keeps (s.transactWrite q i sub data) := State.transact_keeps _ _ _

theorem State.ownWrite_keeps (s : State) (ok : Bool) (q : Req) (i sub : Nat) (data : List Byte) :
    s.KeepsIn (s.ownWrite ok q i sub data) :=
  State.keepsIn_ite _ (.of_next (State.transactWrite_keeps _ _ _ _ _)) (.of_next (.refl s))

theorem State.ownRead_keeps (s : State) (ok : Bool) (q : Req) (i sub len : Nat) :
    s.KeepsIn (s.ownRead ok q i sub len) :=
  State.keepsIn_ite _ (.of_next (State.transact_keeps _ _ _)) (.of_next (.refl s))

/-! ## Booting -/

theorem State.execRecord_keeps (s : State) (r : BootRecord) : s.Keeps (s.execRecord r).1 := by
  unfold State.execRecord
  extract_lets b s1 x
  have h : s1.fixed = s.fixed := by
    unfold s1
    split <;> simp
  exact ((State.execBody_keeps s1 .internal 0xFFFF b).after h).then (by simp [x])

theorem State.doRecord_keeps (s : State) (r : BootRecord) : s.Keeps (s.doRecord r) := by
  unfold State.doRecord
  refine State.keeps_ite _ (State.execRecord_keeps s r) ((State.execRecord_keeps s r).then (by simp))

theorem State.bootRecords_keeps (s : State) (l : List BootRecord) : s.Keeps (s.bootRecords l) := by
  unfold State.bootRecords
  exact (foldl_keeps _ ((l.filter fun r => !recordLate r && s.applies r)) s State.doRecord_keeps).then (by simp)

theorem State.recipeRecords_keeps (s : State) (l : List BootRecord) : s.Keeps (s.recipeRecords l).1 := by
  induction l generalizing s with
  | nil => exact .refl s
  | cons x l ih =>
    unfold State.recipeRecords
    simp only []
    split
    · exact .refl s
    · refine State.Keeps.trans ?_ (ih _)
      exact State.keeps_ite _ (State.execRecord_keeps s x) ((State.execRecord_keeps s x).then (by simp))

theorem State.bootWith_keeps (s : State) (img : BootImage) (eeprom : List Byte) : s.Keeps (s.bootWith img eeprom) := by
  unfold State.bootWith
  extract_lets s1 s2 s3 s4 s5 s6
  have h : s3.fixed = s.fixed := by simp [s3, s2, s1]
  have k : s6.fixed = (s3.bootRecords img.records).fixed := by simp [s6, s5, s4]
  clear_value s6 s3
  exact ((State.bootRecords_keeps s3 img.records).after h).then (by simp [k])

theorem State.twb_keeps (s : State) (c : Nat) (f : State → State × List Byte) (h : ∀ u : State, u.Keeps (f u).1) :
    s.Keeps (s.twb c f) := by
  unfold State.twb
  split
  · exact .refl s
  · split
    · exact .of_fixed (by simp)
    · exact ((h _).after (State.mapHost_fixed _ _)).then (State.twbSends_fixed _ _ _)

theorem State.hspiFrame_keeps (s : State) (f g : State → State × List Byte) (h : ∀ u : State, u.Keeps (f u).1)
    (k : ∀ u : State, u.Keeps (g u).1) : s.Keeps (s.hspiFrame f g) := by
  unfold State.hspiFrame
  split
  · exact .refl s
  · split
    · exact .of_fixed (by simp)
    · simp only []
      split
      · exact ((k _).after (State.bump_fixed _ _ _)).then (State.mapHost_fixed _ _)
      · exact ((h _).after (State.bump_fixed _ _ _)).then (State.mapHost_fixed _ _)

/-! ## Ticks -/

theorem State.tick_keeps (s : State) (d : Nat) (env : TickEnv) : s.Keeps (s.tick d env) := by
  unfold State.tick
  extract_lets s1 frame s2
  have h : (s1.tickEnds d).fixed = s.fixed := by simp [s1]
  exact ((State.applyDue_keeps (s1.tickEnds d) d frame false).after h).then (by simp [s2])

/-! ## The commands -/

theorem execRead_keeps (x0 : Nat) (x1 : Req) (x2 : Nat) (x3 : Nat) (x4 : Nat) (x5 : State) :
    x5.KeepsIn (execRead x0 x1 x2 x3 x4 x5) := by
  unfold execRead
  exact .of_next ((State.transact_keeps _ _ _).after (by simp))

theorem execWrite_keeps (x0 : Nat) (x1 : Req) (x2 : Nat) (x3 : Nat) (x4 : List Byte) (x5 : State) :
    x5.KeepsIn (execWrite x0 x1 x2 x3 x4 x5) := by
  unfold execWrite
  exact .of_next ((State.transactWrite_keeps _ _ _ _ _).after (by simp))

theorem execStage_keeps (x0 : Nat) (x1 : Req) (x2 : Nat) (x3 : Nat) (x4 : List Byte) (x5 : State) :
    x5.KeepsIn (execStage x0 x1 x2 x3 x4 x5) := by
  unfold execStage
  exact .of_next ((State.transact_keeps _ _ _).after (by simp))

theorem execBlockRead_keeps (x0 : Nat) (x1 : Req) (x2 : Nat) (x3 : Nat) (x4 : Nat) (x5 : Nat) (x6 : State) :
    x6.KeepsIn (execBlockRead x0 x1 x2 x3 x4 x5 x6) := by
  unfold execBlockRead
  exact .of_next ((State.transact_keeps _ _ _).after (by simp))

theorem execBlockWrite_keeps (x0 : Nat) (x1 : Req) (x2 : Nat) (x3 : Nat) (x4 : Nat) (x5 : List Byte) (x6 : State) :
    x6.KeepsIn (execBlockWrite x0 x1 x2 x3 x4 x5 x6) := by
  unfold execBlockWrite
  exact .of_next ((State.transact_keeps _ _ _).after (by simp))

theorem execUnknownOp_keeps (x0 : Nat) (x1 : Req) (x2 : Nat) (x3 : State) :
    x3.KeepsIn (execUnknownOp x0 x1 x2 x3) := by
  unfold execUnknownOp
  exact State.keepsIn_ite _ (.of_next (.of_fixed (by simp))) (.of_next ((State.transact_keeps _ _ _).after (by simp)))

theorem execCommit_keeps (x0 : Nat) (x1 : Req) (x2 : State) :
    x2.KeepsIn (execCommit x0 x1 x2) := by
  unfold execCommit
  exact .of_next ((State.transactWrite_keeps _ _ _ _ _).after (by simp))

theorem execDiscard_keeps (x0 : Nat) (x1 : Req) (x2 : State) :
    x2.KeepsIn (execDiscard x0 x1 x2) := by
  unfold execDiscard
  exact .of_next ((State.transactWrite_keeps _ _ _ _ _).after (by simp))

theorem execBlockOpen_keeps (x0 : Nat) (x1 : Req) (x2 : Nat) (x3 : List Byte) (x4 : State) :
    x4.KeepsIn (execBlockOpen x0 x1 x2 x3 x4) := by
  unfold execBlockOpen
  exact .of_next ((State.transactWrite_keeps _ _ _ _ _).after (by simp))

theorem execBlockClose_keeps (x0 : Nat) (x1 : Req) (x2 : Nat) (x3 : Bool) (x4 : List Byte) (x5 : State) :
    x5.KeepsIn (execBlockClose x0 x1 x2 x3 x4 x5) := by
  unfold execBlockClose
  exact .of_next ((State.transact_keeps _ _ _).after (by simp))

theorem execLock_keeps (x0 : Nat) (x1 : Req) (x2 : State) :
    x2.KeepsIn (execLock x0 x1 x2) := by
  unfold execLock
  exact .of_next ((State.transactWrite_keeps _ _ _ _ _).after (by simp))

theorem execReadFrom_keeps (x0 : Nat) (x1 : Req) (x2 : List Byte) (x3 : State) :
    x3.KeepsIn (execReadFrom x0 x1 x2 x3) := by
  unfold execReadFrom
  exact .of_next ((State.transactWrite_keeps _ _ _ _ _).after (by simp))

theorem execEntriesRead_keeps (x0 : Nat) (x1 : Req) (x2 : Nat) (x3 : State) :
    x3.KeepsIn (execEntriesRead x0 x1 x2 x3) := by
  unfold execEntriesRead
  exact .of_next ((State.transact_keeps _ _ _).after (by simp))

theorem execTick_keeps (x0 : Nat) (x1 : Nat) (x2 : TickEnv) (x3 : State) :
    x3.KeepsIn (execTick x0 x1 x2 x3) := by
  unfold execTick
  exact State.keepsIn_ite _ (.of_next ((State.tick_keeps _ _ _).after (by simp)))
    (State.keepsIn_ite _ (.of_next (.of_fixed (by simp))) (.of_next (.of_fixed (by simp))))

theorem execFabricPartApply_keeps (x0 : Nat) (x1 : Nat) (x2 : State) :
    x2.KeepsIn (execFabricPartApply x0 x1 x2) := by
  unfold execFabricPartApply
  exact State.keepsIn_ite _ (.of_next ((State.applyDue_keeps _ _ _ _).after (by simp))) (.of_next (.of_fixed (by simp)))

theorem execTargetMode_keeps (x0 : Nat) (x1 : Req) (x2 : List Byte) (x3 : State) :
    x3.KeepsIn (execTargetMode x0 x1 x2 x3) := by
  unfold execTargetMode
  exact (State.ownWrite_keeps _ _ _ _ _ _).after (by simp)

theorem execResetNLow_keeps (x0 : Nat) (x1 : State) :
    x1.KeepsIn (execResetNLow x0 x1) := by
  unfold execResetNLow
  simp only []
  repeat' split
  · exact .of_next (.of_fixed (by simp))
  · exact .of_next ⟨rfl, fun _ => Rights.default_legal⟩
  · exact .of_next (.of_default (by simp [State.mapMs, State.clock]))

theorem execKeepOff_keeps (x0 : Nat) (x1 : Req) (x2 : Nat) (x3 : List Byte) (x4 : State) :
    x4.KeepsIn (execKeepOff x0 x1 x2 x3 x4) := by
  unfold execKeepOff
  exact (State.ownWrite_keeps _ _ _ _ _ _).after (by simp)

theorem execCrimsonAck_keeps (x0 : Nat) (x1 : Req) (x2 : State) :
    x2.KeepsIn (execCrimsonAck x0 x1 x2) := by
  unfold execCrimsonAck
  exact (State.ownWrite_keeps _ _ _ _ _ _).after (by simp)

theorem execCrimsonCauseRead_keeps (x0 : Nat) (x1 : Req) (x2 : Nat) (x3 : State) :
    x3.KeepsIn (execCrimsonCauseRead x0 x1 x2 x3) := by
  unfold execCrimsonCauseRead
  exact (State.ownRead_keeps _ _ _ _ _ _).after (by simp)

theorem execCeiling_keeps (x0 : Nat) (x1 : Req) (x2 : List Byte) (x3 : State) :
    x3.KeepsIn (execCeiling x0 x1 x2 x3) := by
  unfold execCeiling
  exact (State.ownWrite_keeps _ _ _ _ _ _).after (by simp)

theorem execForceSwitch_keeps (x0 : Nat) (x1 : Req) (x2 : Nat) (x3 : Nat) (x4 : State) :
    x4.KeepsIn (execForceSwitch x0 x1 x2 x3 x4) := by
  unfold execForceSwitch
  exact (State.ownWrite_keeps _ _ _ _ _ _).after (by simp)

theorem execRefScale_keeps (x0 : Nat) (x1 : Req) (x2 : Syn) (x3 : List Byte) (x4 : State) :
    x4.KeepsIn (execRefScale x0 x1 x2 x3 x4) := by
  unfold execRefScale
  exact (State.ownWrite_keeps _ _ _ _ _ _).after (by simp)

theorem execLeader_keeps (x0 : Nat) (x1 : Req) (x2 : Nat) (x3 : List Byte) (x4 : State) :
    x4.KeepsIn (execLeader x0 x1 x2 x3 x4) := by
  unfold execLeader
  exact (State.ownWrite_keeps _ _ _ _ _ _).after (by simp)

theorem execOverLatch_keeps (x0 : Nat) (x1 : Req) (x2 : Nat) (x3 : List Byte) (x4 : State) :
    x4.KeepsIn (execOverLatch x0 x1 x2 x3 x4) := by
  unfold execOverLatch
  exact (State.ownWrite_keeps _ _ _ _ _ _).after (by simp)

theorem execBlockLiveValue_keeps (x0 : Nat) (x1 : Req) (x2 : Nat) (x3 : Nat) (x4 : List Byte) (x5 : State) :
    x5.KeepsIn (execBlockLiveValue x0 x1 x2 x3 x4 x5) := by
  unfold execBlockLiveValue
  exact (State.ownWrite_keeps _ _ _ _ _ _).after (by simp)

theorem execMeterRead_keeps (x0 : Nat) (x1 : Req) (x2 : Nat) (x3 : Nat) (x4 : Nat) (x5 : State) :
    x5.KeepsIn (execMeterRead x0 x1 x2 x3 x4 x5) := by
  unfold execMeterRead
  exact (State.ownRead_keeps _ _ _ _ _ _).after (by simp)

theorem execFaultClear_keeps (x0 : Nat) (x1 : Req) (x2 : Nat) (x3 : State) :
    x3.KeepsIn (execFaultClear x0 x1 x2 x3) := by
  unfold execFaultClear
  exact (State.ownWrite_keeps _ _ _ _ _ _).after (by simp)

theorem execJackAction_keeps (x0 : Nat) (x1 : Req) (x2 : Nat) (x3 : Bool) (x4 : List Byte) (x5 : State) :
    x5.KeepsIn (execJackAction x0 x1 x2 x3 x4 x5) := by
  unfold execJackAction
  exact (State.ownWrite_keeps _ _ _ _ _ _).after (by simp)

theorem execShareRequest_keeps (x0 : Nat) (x1 : Req) (x2 : List Byte) (x3 : State) :
    x3.KeepsIn (execShareRequest x0 x1 x2 x3) := by
  unfold execShareRequest
  exact (State.ownWrite_keeps _ _ _ _ _ _).after (by simp)

theorem execSendBeacon_keeps (x0 : Nat) (x1 : Req) (x2 : List Byte) (x3 : State) :
    x3.KeepsIn (execSendBeacon x0 x1 x2 x3) := by
  unfold execSendBeacon
  exact (State.ownWrite_keeps _ _ _ _ _ _).after (by simp)

theorem execSwitchRequest_keeps (x0 : Nat) (x1 : Req) (x2 : List Byte) (x3 : State) :
    x3.KeepsIn (execSwitchRequest x0 x1 x2 x3) := by
  unfold execSwitchRequest
  exact (State.ownWrite_keeps _ _ _ _ _ _).after (by simp)

theorem execGrantTo_keeps (x0 : Nat) (x1 : Req) (x2 : Nat) (x3 : List Byte) (x4 : State) :
    x4.KeepsIn (execGrantTo x0 x1 x2 x3 x4) := by
  unfold execGrantTo
  exact (State.ownWrite_keeps _ _ _ _ _ _).after (by simp)

theorem execRingRelease_keeps (x0 : Nat) (x1 : Req) (x2 : State) :
    x2.KeepsIn (execRingRelease x0 x1 x2) := by
  unfold execRingRelease
  exact (State.ownWrite_keeps _ _ _ _ _ _).after (by simp)

theorem execSwTrigger_keeps (x0 : Nat) (x1 : Req) (x2 : State) :
    x2.KeepsIn (execSwTrigger x0 x1 x2) := by
  unfold execSwTrigger
  exact (State.ownWrite_keeps _ _ _ _ _ _).after (by simp)

theorem execUrgentBank_keeps (x0 : Nat) (x1 : Req) (x2 : List Byte) (x3 : State) :
    x3.KeepsIn (execUrgentBank x0 x1 x2 x3) := by
  unfold execUrgentBank
  exact (State.ownWrite_keeps _ _ _ _ _ _).after (by simp)

theorem execUrgentSlice_keeps (x0 : Nat) (x1 : Req) (x2 : List Byte) (x3 : State) :
    x3.KeepsIn (execUrgentSlice x0 x1 x2 x3) := by
  unfold execUrgentSlice
  exact (State.ownWrite_keeps _ _ _ _ _ _).after (by simp)

theorem execRefSource_keeps (x0 : Nat) (x1 : Req) (x2 : List Byte) (x3 : State) :
    x3.KeepsIn (execRefSource x0 x1 x2 x3) := by
  unfold execRefSource
  exact (State.ownWrite_keeps _ _ _ _ _ _).after (by simp)

theorem execWindowMode_keeps (x0 : Nat) (x1 : Req) (x2 : List Byte) (x3 : State) :
    x3.KeepsIn (execWindowMode x0 x1 x2 x3) := by
  unfold execWindowMode
  exact (State.ownWrite_keeps _ _ _ _ _ _).after (by simp)

theorem execHkResultRead_keeps (x0 : Nat) (x1 : Req) (x2 : Nat) (x3 : State) :
    x3.KeepsIn (execHkResultRead x0 x1 x2 x3) := by
  unfold execHkResultRead
  exact (State.ownRead_keeps _ _ _ _ _ _).after (by simp)

theorem execAttention_keeps (x0 : Nat) (x1 : AttnVia) (x2 : State) :
    x2.KeepsIn (execAttention x0 x1 x2) := by
  unfold execAttention
  simp only []
  split
  · exact .of_next (.of_fixed (by simp))
  · exact .of_next ((State.transact_keeps _ _ _).after (by simp))

theorem execPushEnd_keeps (x0 : Nat) (x1 : Nat) (x2 : Nat) (x3 : BootImage) (x4 : State) :
    x4.KeepsIn (execPushEnd x0 x1 x2 x3 x4) := by
  unfold execPushEnd
  refine .of_next ((State.hspiFrame_keeps _ _ _ (fun u => .of_fixed (by simp)) fun u => ?_).after (by simp))
  simp only []
  split
  · exact .of_fixed (by simp)
  · split
    · exact .of_fixed (by simp)
    · exact (State.bootWith_keeps _ _ _).after (by simp)

theorem execBootImageAccepted_keeps (x0 : Nat) (x1 : BootImage) (x2 : List Byte) (x3 : State) :
    x3.KeepsIn (execBootImageAccepted x0 x1 x2 x3) := by
  unfold execBootImageAccepted
  exact State.keepsIn_ite _ (.of_next ((State.bootWith_keeps _ _ _).after (by simp))) (.of_next (.of_fixed (by simp)))

theorem execRecipeRecords_keeps (x0 : Nat) (x1 : State) :
    x1.KeepsIn (execRecipeRecords x0 x1) := by
  unfold execRecipeRecords
  extract_lets s r v
  have h : s.Keeps v := (State.recipeRecords_keeps _ _).then (State.mapBoot_fixed _ _)
  have hs : s.fixed = x1.fixed := by simp [s]
  have h1 : x1.Keeps v := h.after hs
  clear_value v s
  refine State.keepsIn_ite _ (.of_next ?_) (.of_next (.of_fixed hs))
  split
  · exact h1.then (State.mapMs_fixed _ _)
  · exact h1

theorem execVerifySlot_keeps (x0 : Nat) (x1 : Req) (x2 : List Byte) (x3 : Bool) (x4 : State) :
    x4.KeepsIn (execVerifySlot x0 x1 x2 x3 x4) := by
  unfold execVerifySlot
  extract_lets s s'
  have h : x4.Keeps s' := (State.transactWrite_keeps _ _ _ _ _).after (by simp [s])
  clear_value s'
  split
  · exact State.keepsIn_ite _ (.of_next (h.then (by simp))) (.of_next h)
  · exact .of_next h

theorem execCommitSv_keeps (x0 : Nat) (x1 : Req) (x2 : State) :
    x2.KeepsIn (execCommitSv x0 x1 x2) := by
  unfold execCommitSv
  exact .of_next ((State.transactWrite_keeps _ _ _ _ _).after (by simp))

theorem execRetrain_keeps (x0 : Nat) (x1 : Req) (x2 : State) :
    x2.KeepsIn (execRetrain x0 x1 x2) := by
  unfold execRetrain
  exact (State.ownWrite_keeps _ _ _ _ _ _).after (by simp)

theorem execTransportCommand_keeps (x0 : Nat) (x1 : Req) (x2 : Nat) (x3 : List Byte) (x4 : State) :
    x4.KeepsIn (execTransportCommand x0 x1 x2 x3 x4) := by
  unfold execTransportCommand
  exact (State.ownWrite_keeps _ _ _ _ _ _).after (by simp)

theorem execCounterSource_keeps (x0 : Nat) (x1 : Req) (x2 : Nat) (x3 : List Byte) (x4 : State) :
    x4.KeepsIn (execCounterSource x0 x1 x2 x3 x4) := by
  unfold execCounterSource
  exact (State.ownWrite_keeps _ _ _ _ _ _).after (by simp)

theorem execCounterClear_keeps (x0 : Nat) (x1 : Req) (x2 : Nat) (x3 : State) :
    x3.KeepsIn (execCounterClear x0 x1 x2 x3) := by
  unfold execCounterClear
  exact (State.ownWrite_keeps _ _ _ _ _ _).after (by simp)

theorem execSnapNow_keeps (x0 : Nat) (x1 : Req) (x2 : State) :
    x2.KeepsIn (execSnapNow x0 x1 x2) := by
  unfold execSnapNow
  exact (State.ownWrite_keeps _ _ _ _ _ _).after (by simp)

theorem execSnapChain_keeps (x0 : Nat) (x1 : Req) (x2 : State) :
    x2.KeepsIn (execSnapChain x0 x1 x2) := by
  unfold execSnapChain
  exact (State.ownWrite_keeps _ _ _ _ _ _).after (by simp)

theorem execTestRun_keeps (x0 : Nat) (x1 : Req) (x2 : State) :
    x2.KeepsIn (execTestRun x0 x1 x2) := by
  unfold execTestRun
  exact (State.ownWrite_keeps _ _ _ _ _ _).after (by simp)

theorem execAvdd33RetentionLoss_keeps (x0 : Nat) (x1 : State) :
    x1.KeepsIn (execAvdd33RetentionLoss x0 x1) := by
  unfold execAvdd33RetentionLoss
  simp only []
  split
  · exact .of_next ⟨rfl, fun _ => Rights.default_legal⟩
  · exact .of_next (.of_fixed (by simp))

end Sys2Proof.Machine
end

