-- ==== Sys2Proof/Laws/State.lean ====
section
/-!
SUPPORT. What each named update of the state writes and what it leaves: one lemma per field per update.
-/

set_option autoImplicit false

namespace Sys2Proof.Machine

variable (s : State)

/-! `State.clock` -/
section
variable (t : Nat)
@[simp] theorem State.clock_ptpOffset : (s.clock t).ptpOffset = s.ptpOffset := by rfl
@[simp] theorem State.clock_freeCtr : (s.clock t).freeCtr = s.freeCtr := by rfl
@[simp] theorem State.clock_objs : (s.clock t).objs = s.objs := by rfl
@[simp] theorem State.clock_blocks : (s.clock t).blocks = s.blocks := by rfl
@[simp] theorem State.clock_rights : (s.clock t).rights = s.rights := by rfl
@[simp] theorem State.clock_funcs : (s.clock t).funcs = s.funcs := by rfl
@[simp] theorem State.clock_internal : (s.clock t).internal = s.internal := by rfl
@[simp] theorem State.clock_hspi : (s.clock t).hspi = s.hspi := by rfl
@[simp] theorem State.clock_twb0 : (s.clock t).twb0 = s.twb0 := by rfl
@[simp] theorem State.clock_chain : (s.clock t).chain = s.chain := by rfl
@[simp] theorem State.clock_turn : (s.clock t).turn = s.turn := by rfl
@[simp] theorem State.clock_parts : (s.clock t).parts = s.parts := by rfl
@[simp] theorem State.clock_journal : (s.clock t).journal = s.journal := by rfl
@[simp] theorem State.clock_ms : (s.clock t).ms = s.ms := by rfl
@[simp] theorem State.clock_gov : (s.clock t).gov = s.gov := by rfl
@[simp] theorem State.clock_avs : (s.clock t).avs = s.avs := by rfl
@[simp] theorem State.clock_clk : (s.clock t).clk = s.clk := by rfl
@[simp] theorem State.clock_snap : (s.clock t).snap = s.snap := by rfl
@[simp] theorem State.clock_counters : (s.clock t).counters = s.counters := by rfl
@[simp] theorem State.clock_test : (s.clock t).test = s.test := by rfl
@[simp] theorem State.clock_inputs : (s.clock t).inputs = s.inputs := by rfl
@[simp] theorem State.clock_refs : (s.clock t).refs = s.refs := by rfl
@[simp] theorem State.clock_phantom : (s.clock t).phantom = s.phantom := by rfl
@[simp] theorem State.clock_router : (s.clock t).router = s.router := by rfl
@[simp] theorem State.clock_lanes : (s.clock t).lanes = s.lanes := by rfl
@[simp] theorem State.clock_slack : (s.clock t).slack = s.slack := by rfl
@[simp] theorem State.clock_buses : (s.clock t).buses = s.buses := by rfl
@[simp] theorem State.clock_meters : (s.clock t).meters = s.meters := by rfl
@[simp] theorem State.clock_links : (s.clock t).links = s.links := by rfl
@[simp] theorem State.clock_lines : (s.clock t).lines = s.lines := by rfl
@[simp] theorem State.clock_outs : (s.clock t).outs = s.outs := by rfl
@[simp] theorem State.clock_sap : (s.clock t).sap = s.sap := by rfl
@[simp] theorem State.clock_net : (s.clock t).net = s.net := by rfl
@[simp] theorem State.clock_pair : (s.clock t).pair = s.pair := by rfl
@[simp] theorem State.clock_arb : (s.clock t).arb = s.arb := by rfl
@[simp] theorem State.clock_listen : (s.clock t).listen = s.listen := by rfl
@[simp] theorem State.clock_ring : (s.clock t).ring = s.ring := by rfl
@[simp] theorem State.clock_readers : (s.clock t).readers = s.readers := by rfl
@[simp] theorem State.clock_hk : (s.clock t).hk = s.hk := by rfl
@[simp] theorem State.clock_host : (s.clock t).host = s.host := by rfl
@[simp] theorem State.clock_boot : (s.clock t).boot = s.boot := by rfl
@[simp] theorem State.clock_mem : (s.clock t).mem = s.mem := by rfl
@[simp] theorem State.clock_pending : (s.clock t).pending = s.pending := by rfl
end

/-! `State.wr` -/
section
variable (i sub v : Nat)
@[simp] theorem State.wr_now : (s.wr i sub v).now = s.now := by rfl
@[simp] theorem State.wr_ptpOffset : (s.wr i sub v).ptpOffset = s.ptpOffset := by rfl
@[simp] theorem State.wr_freeCtr : (s.wr i sub v).freeCtr = s.freeCtr := by rfl
@[simp] theorem State.wr_blocks : (s.wr i sub v).blocks = s.blocks := by rfl
@[simp] theorem State.wr_rights : (s.wr i sub v).rights = s.rights := by rfl
@[simp] theorem State.wr_funcs : (s.wr i sub v).funcs = s.funcs := by rfl
@[simp] theorem State.wr_internal : (s.wr i sub v).internal = s.internal := by rfl
@[simp] theorem State.wr_hspi : (s.wr i sub v).hspi = s.hspi := by rfl
@[simp] theorem State.wr_twb0 : (s.wr i sub v).twb0 = s.twb0 := by rfl
@[simp] theorem State.wr_chain : (s.wr i sub v).chain = s.chain := by rfl
@[simp] theorem State.wr_turn : (s.wr i sub v).turn = s.turn := by rfl
@[simp] theorem State.wr_parts : (s.wr i sub v).parts = s.parts := by rfl
@[simp] theorem State.wr_journal : (s.wr i sub v).journal = s.journal := by rfl
@[simp] theorem State.wr_ms : (s.wr i sub v).ms = s.ms := by rfl
@[simp] theorem State.wr_gov : (s.wr i sub v).gov = s.gov := by rfl
@[simp] theorem State.wr_avs : (s.wr i sub v).avs = s.avs := by rfl
@[simp] theorem State.wr_clk : (s.wr i sub v).clk = s.clk := by rfl
@[simp] theorem State.wr_snap : (s.wr i sub v).snap = s.snap := by rfl
@[simp] theorem State.wr_counters : (s.wr i sub v).counters = s.counters := by rfl
@[simp] theorem State.wr_test : (s.wr i sub v).test = s.test := by rfl
@[simp] theorem State.wr_inputs : (s.wr i sub v).inputs = s.inputs := by rfl
@[simp] theorem State.wr_refs : (s.wr i sub v).refs = s.refs := by rfl
@[simp] theorem State.wr_phantom : (s.wr i sub v).phantom = s.phantom := by rfl
@[simp] theorem State.wr_router : (s.wr i sub v).router = s.router := by rfl
@[simp] theorem State.wr_lanes : (s.wr i sub v).lanes = s.lanes := by rfl
@[simp] theorem State.wr_slack : (s.wr i sub v).slack = s.slack := by rfl
@[simp] theorem State.wr_buses : (s.wr i sub v).buses = s.buses := by rfl
@[simp] theorem State.wr_meters : (s.wr i sub v).meters = s.meters := by rfl
@[simp] theorem State.wr_links : (s.wr i sub v).links = s.links := by rfl
@[simp] theorem State.wr_lines : (s.wr i sub v).lines = s.lines := by rfl
@[simp] theorem State.wr_outs : (s.wr i sub v).outs = s.outs := by rfl
@[simp] theorem State.wr_sap : (s.wr i sub v).sap = s.sap := by rfl
@[simp] theorem State.wr_net : (s.wr i sub v).net = s.net := by rfl
@[simp] theorem State.wr_pair : (s.wr i sub v).pair = s.pair := by rfl
@[simp] theorem State.wr_arb : (s.wr i sub v).arb = s.arb := by rfl
@[simp] theorem State.wr_listen : (s.wr i sub v).listen = s.listen := by rfl
@[simp] theorem State.wr_ring : (s.wr i sub v).ring = s.ring := by rfl
@[simp] theorem State.wr_readers : (s.wr i sub v).readers = s.readers := by rfl
@[simp] theorem State.wr_hk : (s.wr i sub v).hk = s.hk := by rfl
@[simp] theorem State.wr_host : (s.wr i sub v).host = s.host := by rfl
@[simp] theorem State.wr_boot : (s.wr i sub v).boot = s.boot := by rfl
@[simp] theorem State.wr_mem : (s.wr i sub v).mem = s.mem := by rfl
@[simp] theorem State.wr_pending : (s.wr i sub v).pending = s.pending := by rfl
end

/-! `State.setFn` -/
section
variable (f : Func) (x : FuncState)
@[simp] theorem State.setFn_now : (s.setFn f x).now = s.now := by rfl
@[simp] theorem State.setFn_ptpOffset : (s.setFn f x).ptpOffset = s.ptpOffset := by rfl
@[simp] theorem State.setFn_freeCtr : (s.setFn f x).freeCtr = s.freeCtr := by rfl
@[simp] theorem State.setFn_objs : (s.setFn f x).objs = s.objs := by rfl
@[simp] theorem State.setFn_blocks : (s.setFn f x).blocks = s.blocks := by rfl
@[simp] theorem State.setFn_rights : (s.setFn f x).rights = s.rights := by rfl
@[simp] theorem State.setFn_internal : (s.setFn f x).internal = s.internal := by rfl
@[simp] theorem State.setFn_hspi : (s.setFn f x).hspi = s.hspi := by rfl
@[simp] theorem State.setFn_twb0 : (s.setFn f x).twb0 = s.twb0 := by rfl
@[simp] theorem State.setFn_chain : (s.setFn f x).chain = s.chain := by rfl
@[simp] theorem State.setFn_turn : (s.setFn f x).turn = s.turn := by rfl
@[simp] theorem State.setFn_parts : (s.setFn f x).parts = s.parts := by rfl
@[simp] theorem State.setFn_journal : (s.setFn f x).journal = s.journal := by rfl
@[simp] theorem State.setFn_ms : (s.setFn f x).ms = s.ms := by rfl
@[simp] theorem State.setFn_gov : (s.setFn f x).gov = s.gov := by rfl
@[simp] theorem State.setFn_avs : (s.setFn f x).avs = s.avs := by rfl
@[simp] theorem State.setFn_clk : (s.setFn f x).clk = s.clk := by rfl
@[simp] theorem State.setFn_snap : (s.setFn f x).snap = s.snap := by rfl
@[simp] theorem State.setFn_counters : (s.setFn f x).counters = s.counters := by rfl
@[simp] theorem State.setFn_test : (s.setFn f x).test = s.test := by rfl
@[simp] theorem State.setFn_inputs : (s.setFn f x).inputs = s.inputs := by rfl
@[simp] theorem State.setFn_refs : (s.setFn f x).refs = s.refs := by rfl
@[simp] theorem State.setFn_phantom : (s.setFn f x).phantom = s.phantom := by rfl
@[simp] theorem State.setFn_router : (s.setFn f x).router = s.router := by rfl
@[simp] theorem State.setFn_lanes : (s.setFn f x).lanes = s.lanes := by rfl
@[simp] theorem State.setFn_slack : (s.setFn f x).slack = s.slack := by rfl
@[simp] theorem State.setFn_buses : (s.setFn f x).buses = s.buses := by rfl
@[simp] theorem State.setFn_meters : (s.setFn f x).meters = s.meters := by rfl
@[simp] theorem State.setFn_links : (s.setFn f x).links = s.links := by rfl
@[simp] theorem State.setFn_lines : (s.setFn f x).lines = s.lines := by rfl
@[simp] theorem State.setFn_outs : (s.setFn f x).outs = s.outs := by rfl
@[simp] theorem State.setFn_sap : (s.setFn f x).sap = s.sap := by rfl
@[simp] theorem State.setFn_net : (s.setFn f x).net = s.net := by rfl
@[simp] theorem State.setFn_pair : (s.setFn f x).pair = s.pair := by rfl
@[simp] theorem State.setFn_arb : (s.setFn f x).arb = s.arb := by rfl
@[simp] theorem State.setFn_listen : (s.setFn f x).listen = s.listen := by rfl
@[simp] theorem State.setFn_ring : (s.setFn f x).ring = s.ring := by rfl
@[simp] theorem State.setFn_readers : (s.setFn f x).readers = s.readers := by rfl
@[simp] theorem State.setFn_hk : (s.setFn f x).hk = s.hk := by rfl
@[simp] theorem State.setFn_host : (s.setFn f x).host = s.host := by rfl
@[simp] theorem State.setFn_boot : (s.setFn f x).boot = s.boot := by rfl
@[simp] theorem State.setFn_mem : (s.setFn f x).mem = s.mem := by rfl
@[simp] theorem State.setFn_pending : (s.setFn f x).pending = s.pending := by rfl
end

/-! `State.setInp` -/
section
variable (n : Nat) (x : InputCh)
@[simp] theorem State.setInp_now : (s.setInp n x).now = s.now := by rfl
@[simp] theorem State.setInp_ptpOffset : (s.setInp n x).ptpOffset = s.ptpOffset := by rfl
@[simp] theorem State.setInp_freeCtr : (s.setInp n x).freeCtr = s.freeCtr := by rfl
@[simp] theorem State.setInp_objs : (s.setInp n x).objs = s.objs := by rfl
@[simp] theorem State.setInp_blocks : (s.setInp n x).blocks = s.blocks := by rfl
@[simp] theorem State.setInp_rights : (s.setInp n x).rights = s.rights := by rfl
@[simp] theorem State.setInp_funcs : (s.setInp n x).funcs = s.funcs := by rfl
@[simp] theorem State.setInp_internal : (s.setInp n x).internal = s.internal := by rfl
@[simp] theorem State.setInp_hspi : (s.setInp n x).hspi = s.hspi := by rfl
@[simp] theorem State.setInp_twb0 : (s.setInp n x).twb0 = s.twb0 := by rfl
@[simp] theorem State.setInp_chain : (s.setInp n x).chain = s.chain := by rfl
@[simp] theorem State.setInp_turn : (s.setInp n x).turn = s.turn := by rfl
@[simp] theorem State.setInp_parts : (s.setInp n x).parts = s.parts := by rfl
@[simp] theorem State.setInp_journal : (s.setInp n x).journal = s.journal := by rfl
@[simp] theorem State.setInp_ms : (s.setInp n x).ms = s.ms := by rfl
@[simp] theorem State.setInp_gov : (s.setInp n x).gov = s.gov := by rfl
@[simp] theorem State.setInp_avs : (s.setInp n x).avs = s.avs := by rfl
@[simp] theorem State.setInp_clk : (s.setInp n x).clk = s.clk := by rfl
@[simp] theorem State.setInp_snap : (s.setInp n x).snap = s.snap := by rfl
@[simp] theorem State.setInp_counters : (s.setInp n x).counters = s.counters := by rfl
@[simp] theorem State.setInp_test : (s.setInp n x).test = s.test := by rfl
@[simp] theorem State.setInp_refs : (s.setInp n x).refs = s.refs := by rfl
@[simp] theorem State.setInp_phantom : (s.setInp n x).phantom = s.phantom := by rfl
@[simp] theorem State.setInp_router : (s.setInp n x).router = s.router := by rfl
@[simp] theorem State.setInp_lanes : (s.setInp n x).lanes = s.lanes := by rfl
@[simp] theorem State.setInp_slack : (s.setInp n x).slack = s.slack := by rfl
@[simp] theorem State.setInp_buses : (s.setInp n x).buses = s.buses := by rfl
@[simp] theorem State.setInp_meters : (s.setInp n x).meters = s.meters := by rfl
@[simp] theorem State.setInp_links : (s.setInp n x).links = s.links := by rfl
@[simp] theorem State.setInp_lines : (s.setInp n x).lines = s.lines := by rfl
@[simp] theorem State.setInp_outs : (s.setInp n x).outs = s.outs := by rfl
@[simp] theorem State.setInp_sap : (s.setInp n x).sap = s.sap := by rfl
@[simp] theorem State.setInp_net : (s.setInp n x).net = s.net := by rfl
@[simp] theorem State.setInp_pair : (s.setInp n x).pair = s.pair := by rfl
@[simp] theorem State.setInp_arb : (s.setInp n x).arb = s.arb := by rfl
@[simp] theorem State.setInp_listen : (s.setInp n x).listen = s.listen := by rfl
@[simp] theorem State.setInp_ring : (s.setInp n x).ring = s.ring := by rfl
@[simp] theorem State.setInp_readers : (s.setInp n x).readers = s.readers := by rfl
@[simp] theorem State.setInp_hk : (s.setInp n x).hk = s.hk := by rfl
@[simp] theorem State.setInp_host : (s.setInp n x).host = s.host := by rfl
@[simp] theorem State.setInp_boot : (s.setInp n x).boot = s.boot := by rfl
@[simp] theorem State.setInp_mem : (s.setInp n x).mem = s.mem := by rfl
@[simp] theorem State.setInp_pending : (s.setInp n x).pending = s.pending := by rfl
end

/-! `State.setRef` -/
section
variable (g : Nat) (x : RefGroup)
@[simp] theorem State.setRef_now : (s.setRef g x).now = s.now := by rfl
@[simp] theorem State.setRef_ptpOffset : (s.setRef g x).ptpOffset = s.ptpOffset := by rfl
@[simp] theorem State.setRef_freeCtr : (s.setRef g x).freeCtr = s.freeCtr := by rfl
@[simp] theorem State.setRef_objs : (s.setRef g x).objs = s.objs := by rfl
@[simp] theorem State.setRef_blocks : (s.setRef g x).blocks = s.blocks := by rfl
@[simp] theorem State.setRef_rights : (s.setRef g x).rights = s.rights := by rfl
@[simp] theorem State.setRef_funcs : (s.setRef g x).funcs = s.funcs := by rfl
@[simp] theorem State.setRef_internal : (s.setRef g x).internal = s.internal := by rfl
@[simp] theorem State.setRef_hspi : (s.setRef g x).hspi = s.hspi := by rfl
@[simp] theorem State.setRef_twb0 : (s.setRef g x).twb0 = s.twb0 := by rfl
@[simp] theorem State.setRef_chain : (s.setRef g x).chain = s.chain := by rfl
@[simp] theorem State.setRef_turn : (s.setRef g x).turn = s.turn := by rfl
@[simp] theorem State.setRef_parts : (s.setRef g x).parts = s.parts := by rfl
@[simp] theorem State.setRef_journal : (s.setRef g x).journal = s.journal := by rfl
@[simp] theorem State.setRef_ms : (s.setRef g x).ms = s.ms := by rfl
@[simp] theorem State.setRef_gov : (s.setRef g x).gov = s.gov := by rfl
@[simp] theorem State.setRef_avs : (s.setRef g x).avs = s.avs := by rfl
@[simp] theorem State.setRef_clk : (s.setRef g x).clk = s.clk := by rfl
@[simp] theorem State.setRef_snap : (s.setRef g x).snap = s.snap := by rfl
@[simp] theorem State.setRef_counters : (s.setRef g x).counters = s.counters := by rfl
@[simp] theorem State.setRef_test : (s.setRef g x).test = s.test := by rfl
@[simp] theorem State.setRef_inputs : (s.setRef g x).inputs = s.inputs := by rfl
@[simp] theorem State.setRef_phantom : (s.setRef g x).phantom = s.phantom := by rfl
@[simp] theorem State.setRef_router : (s.setRef g x).router = s.router := by rfl
@[simp] theorem State.setRef_lanes : (s.setRef g x).lanes = s.lanes := by rfl
@[simp] theorem State.setRef_slack : (s.setRef g x).slack = s.slack := by rfl
@[simp] theorem State.setRef_buses : (s.setRef g x).buses = s.buses := by rfl
@[simp] theorem State.setRef_meters : (s.setRef g x).meters = s.meters := by rfl
@[simp] theorem State.setRef_links : (s.setRef g x).links = s.links := by rfl
@[simp] theorem State.setRef_lines : (s.setRef g x).lines = s.lines := by rfl
@[simp] theorem State.setRef_outs : (s.setRef g x).outs = s.outs := by rfl
@[simp] theorem State.setRef_sap : (s.setRef g x).sap = s.sap := by rfl
@[simp] theorem State.setRef_net : (s.setRef g x).net = s.net := by rfl
@[simp] theorem State.setRef_pair : (s.setRef g x).pair = s.pair := by rfl
@[simp] theorem State.setRef_arb : (s.setRef g x).arb = s.arb := by rfl
@[simp] theorem State.setRef_listen : (s.setRef g x).listen = s.listen := by rfl
@[simp] theorem State.setRef_ring : (s.setRef g x).ring = s.ring := by rfl
@[simp] theorem State.setRef_readers : (s.setRef g x).readers = s.readers := by rfl
@[simp] theorem State.setRef_hk : (s.setRef g x).hk = s.hk := by rfl
@[simp] theorem State.setRef_host : (s.setRef g x).host = s.host := by rfl
@[simp] theorem State.setRef_boot : (s.setRef g x).boot = s.boot := by rfl
@[simp] theorem State.setRef_mem : (s.setRef g x).mem = s.mem := by rfl
@[simp] theorem State.setRef_pending : (s.setRef g x).pending = s.pending := by rfl
end

/-! `State.setRoute` -/
section
variable (p : Nat) (x : RouteState)
@[simp] theorem State.setRoute_now : (s.setRoute p x).now = s.now := by rfl
@[simp] theorem State.setRoute_ptpOffset : (s.setRoute p x).ptpOffset = s.ptpOffset := by rfl
@[simp] theorem State.setRoute_freeCtr : (s.setRoute p x).freeCtr = s.freeCtr := by rfl
@[simp] theorem State.setRoute_objs : (s.setRoute p x).objs = s.objs := by rfl
@[simp] theorem State.setRoute_blocks : (s.setRoute p x).blocks = s.blocks := by rfl
@[simp] theorem State.setRoute_rights : (s.setRoute p x).rights = s.rights := by rfl
@[simp] theorem State.setRoute_funcs : (s.setRoute p x).funcs = s.funcs := by rfl
@[simp] theorem State.setRoute_internal : (s.setRoute p x).internal = s.internal := by rfl
@[simp] theorem State.setRoute_hspi : (s.setRoute p x).hspi = s.hspi := by rfl
@[simp] theorem State.setRoute_twb0 : (s.setRoute p x).twb0 = s.twb0 := by rfl
@[simp] theorem State.setRoute_chain : (s.setRoute p x).chain = s.chain := by rfl
@[simp] theorem State.setRoute_turn : (s.setRoute p x).turn = s.turn := by rfl
@[simp] theorem State.setRoute_parts : (s.setRoute p x).parts = s.parts := by rfl
@[simp] theorem State.setRoute_journal : (s.setRoute p x).journal = s.journal := by rfl
@[simp] theorem State.setRoute_ms : (s.setRoute p x).ms = s.ms := by rfl
@[simp] theorem State.setRoute_gov : (s.setRoute p x).gov = s.gov := by rfl
@[simp] theorem State.setRoute_avs : (s.setRoute p x).avs = s.avs := by rfl
@[simp] theorem State.setRoute_clk : (s.setRoute p x).clk = s.clk := by rfl
@[simp] theorem State.setRoute_snap : (s.setRoute p x).snap = s.snap := by rfl
@[simp] theorem State.setRoute_counters : (s.setRoute p x).counters = s.counters := by rfl
@[simp] theorem State.setRoute_test : (s.setRoute p x).test = s.test := by rfl
@[simp] theorem State.setRoute_inputs : (s.setRoute p x).inputs = s.inputs := by rfl
@[simp] theorem State.setRoute_refs : (s.setRoute p x).refs = s.refs := by rfl
@[simp] theorem State.setRoute_phantom : (s.setRoute p x).phantom = s.phantom := by rfl
@[simp] theorem State.setRoute_lanes : (s.setRoute p x).lanes = s.lanes := by rfl
@[simp] theorem State.setRoute_slack : (s.setRoute p x).slack = s.slack := by rfl
@[simp] theorem State.setRoute_buses : (s.setRoute p x).buses = s.buses := by rfl
@[simp] theorem State.setRoute_meters : (s.setRoute p x).meters = s.meters := by rfl
@[simp] theorem State.setRoute_links : (s.setRoute p x).links = s.links := by rfl
@[simp] theorem State.setRoute_lines : (s.setRoute p x).lines = s.lines := by rfl
@[simp] theorem State.setRoute_outs : (s.setRoute p x).outs = s.outs := by rfl
@[simp] theorem State.setRoute_sap : (s.setRoute p x).sap = s.sap := by rfl
@[simp] theorem State.setRoute_net : (s.setRoute p x).net = s.net := by rfl
@[simp] theorem State.setRoute_pair : (s.setRoute p x).pair = s.pair := by rfl
@[simp] theorem State.setRoute_arb : (s.setRoute p x).arb = s.arb := by rfl
@[simp] theorem State.setRoute_listen : (s.setRoute p x).listen = s.listen := by rfl
@[simp] theorem State.setRoute_ring : (s.setRoute p x).ring = s.ring := by rfl
@[simp] theorem State.setRoute_readers : (s.setRoute p x).readers = s.readers := by rfl
@[simp] theorem State.setRoute_hk : (s.setRoute p x).hk = s.hk := by rfl
@[simp] theorem State.setRoute_host : (s.setRoute p x).host = s.host := by rfl
@[simp] theorem State.setRoute_boot : (s.setRoute p x).boot = s.boot := by rfl
@[simp] theorem State.setRoute_mem : (s.setRoute p x).mem = s.mem := by rfl
@[simp] theorem State.setRoute_pending : (s.setRoute p x).pending = s.pending := by rfl
end

/-! `State.setSink` -/
section
variable (p : Nat) (x : Sample)
@[simp] theorem State.setSink_now : (s.setSink p x).now = s.now := by rfl
@[simp] theorem State.setSink_ptpOffset : (s.setSink p x).ptpOffset = s.ptpOffset := by rfl
@[simp] theorem State.setSink_freeCtr : (s.setSink p x).freeCtr = s.freeCtr := by rfl
@[simp] theorem State.setSink_objs : (s.setSink p x).objs = s.objs := by rfl
@[simp] theorem State.setSink_blocks : (s.setSink p x).blocks = s.blocks := by rfl
@[simp] theorem State.setSink_rights : (s.setSink p x).rights = s.rights := by rfl
@[simp] theorem State.setSink_funcs : (s.setSink p x).funcs = s.funcs := by rfl
@[simp] theorem State.setSink_internal : (s.setSink p x).internal = s.internal := by rfl
@[simp] theorem State.setSink_hspi : (s.setSink p x).hspi = s.hspi := by rfl
@[simp] theorem State.setSink_twb0 : (s.setSink p x).twb0 = s.twb0 := by rfl
@[simp] theorem State.setSink_chain : (s.setSink p x).chain = s.chain := by rfl
@[simp] theorem State.setSink_turn : (s.setSink p x).turn = s.turn := by rfl
@[simp] theorem State.setSink_parts : (s.setSink p x).parts = s.parts := by rfl
@[simp] theorem State.setSink_journal : (s.setSink p x).journal = s.journal := by rfl
@[simp] theorem State.setSink_ms : (s.setSink p x).ms = s.ms := by rfl
@[simp] theorem State.setSink_gov : (s.setSink p x).gov = s.gov := by rfl
@[simp] theorem State.setSink_avs : (s.setSink p x).avs = s.avs := by rfl
@[simp] theorem State.setSink_clk : (s.setSink p x).clk = s.clk := by rfl
@[simp] theorem State.setSink_snap : (s.setSink p x).snap = s.snap := by rfl
@[simp] theorem State.setSink_counters : (s.setSink p x).counters = s.counters := by rfl
@[simp] theorem State.setSink_test : (s.setSink p x).test = s.test := by rfl
@[simp] theorem State.setSink_inputs : (s.setSink p x).inputs = s.inputs := by rfl
@[simp] theorem State.setSink_refs : (s.setSink p x).refs = s.refs := by rfl
@[simp] theorem State.setSink_phantom : (s.setSink p x).phantom = s.phantom := by rfl
@[simp] theorem State.setSink_lanes : (s.setSink p x).lanes = s.lanes := by rfl
@[simp] theorem State.setSink_slack : (s.setSink p x).slack = s.slack := by rfl
@[simp] theorem State.setSink_buses : (s.setSink p x).buses = s.buses := by rfl
@[simp] theorem State.setSink_meters : (s.setSink p x).meters = s.meters := by rfl
@[simp] theorem State.setSink_links : (s.setSink p x).links = s.links := by rfl
@[simp] theorem State.setSink_lines : (s.setSink p x).lines = s.lines := by rfl
@[simp] theorem State.setSink_outs : (s.setSink p x).outs = s.outs := by rfl
@[simp] theorem State.setSink_sap : (s.setSink p x).sap = s.sap := by rfl
@[simp] theorem State.setSink_net : (s.setSink p x).net = s.net := by rfl
@[simp] theorem State.setSink_pair : (s.setSink p x).pair = s.pair := by rfl
@[simp] theorem State.setSink_arb : (s.setSink p x).arb = s.arb := by rfl
@[simp] theorem State.setSink_listen : (s.setSink p x).listen = s.listen := by rfl
@[simp] theorem State.setSink_ring : (s.setSink p x).ring = s.ring := by rfl
@[simp] theorem State.setSink_readers : (s.setSink p x).readers = s.readers := by rfl
@[simp] theorem State.setSink_hk : (s.setSink p x).hk = s.hk := by rfl
@[simp] theorem State.setSink_host : (s.setSink p x).host = s.host := by rfl
@[simp] theorem State.setSink_boot : (s.setSink p x).boot = s.boot := by rfl
@[simp] theorem State.setSink_mem : (s.setSink p x).mem = s.mem := by rfl
@[simp] theorem State.setSink_pending : (s.setSink p x).pending = s.pending := by rfl
end

/-! `State.setSrc` -/
section
variable (p : Nat) (x : Sample)
@[simp] theorem State.setSrc_now : (s.setSrc p x).now = s.now := by rfl
@[simp] theorem State.setSrc_ptpOffset : (s.setSrc p x).ptpOffset = s.ptpOffset := by rfl
@[simp] theorem State.setSrc_freeCtr : (s.setSrc p x).freeCtr = s.freeCtr := by rfl
@[simp] theorem State.setSrc_objs : (s.setSrc p x).objs = s.objs := by rfl
@[simp] theorem State.setSrc_blocks : (s.setSrc p x).blocks = s.blocks := by rfl
@[simp] theorem State.setSrc_rights : (s.setSrc p x).rights = s.rights := by rfl
@[simp] theorem State.setSrc_funcs : (s.setSrc p x).funcs = s.funcs := by rfl
@[simp] theorem State.setSrc_internal : (s.setSrc p x).internal = s.internal := by rfl
@[simp] theorem State.setSrc_hspi : (s.setSrc p x).hspi = s.hspi := by rfl
@[simp] theorem State.setSrc_twb0 : (s.setSrc p x).twb0 = s.twb0 := by rfl
@[simp] theorem State.setSrc_chain : (s.setSrc p x).chain = s.chain := by rfl
@[simp] theorem State.setSrc_turn : (s.setSrc p x).turn = s.turn := by rfl
@[simp] theorem State.setSrc_parts : (s.setSrc p x).parts = s.parts := by rfl
@[simp] theorem State.setSrc_journal : (s.setSrc p x).journal = s.journal := by rfl
@[simp] theorem State.setSrc_ms : (s.setSrc p x).ms = s.ms := by rfl
@[simp] theorem State.setSrc_gov : (s.setSrc p x).gov = s.gov := by rfl
@[simp] theorem State.setSrc_avs : (s.setSrc p x).avs = s.avs := by rfl
@[simp] theorem State.setSrc_clk : (s.setSrc p x).clk = s.clk := by rfl
@[simp] theorem State.setSrc_snap : (s.setSrc p x).snap = s.snap := by rfl
@[simp] theorem State.setSrc_counters : (s.setSrc p x).counters = s.counters := by rfl
@[simp] theorem State.setSrc_test : (s.setSrc p x).test = s.test := by rfl
@[simp] theorem State.setSrc_inputs : (s.setSrc p x).inputs = s.inputs := by rfl
@[simp] theorem State.setSrc_refs : (s.setSrc p x).refs = s.refs := by rfl
@[simp] theorem State.setSrc_phantom : (s.setSrc p x).phantom = s.phantom := by rfl
@[simp] theorem State.setSrc_lanes : (s.setSrc p x).lanes = s.lanes := by rfl
@[simp] theorem State.setSrc_slack : (s.setSrc p x).slack = s.slack := by rfl
@[simp] theorem State.setSrc_buses : (s.setSrc p x).buses = s.buses := by rfl
@[simp] theorem State.setSrc_meters : (s.setSrc p x).meters = s.meters := by rfl
@[simp] theorem State.setSrc_links : (s.setSrc p x).links = s.links := by rfl
@[simp] theorem State.setSrc_lines : (s.setSrc p x).lines = s.lines := by rfl
@[simp] theorem State.setSrc_outs : (s.setSrc p x).outs = s.outs := by rfl
@[simp] theorem State.setSrc_sap : (s.setSrc p x).sap = s.sap := by rfl
@[simp] theorem State.setSrc_net : (s.setSrc p x).net = s.net := by rfl
@[simp] theorem State.setSrc_pair : (s.setSrc p x).pair = s.pair := by rfl
@[simp] theorem State.setSrc_arb : (s.setSrc p x).arb = s.arb := by rfl
@[simp] theorem State.setSrc_listen : (s.setSrc p x).listen = s.listen := by rfl
@[simp] theorem State.setSrc_ring : (s.setSrc p x).ring = s.ring := by rfl
@[simp] theorem State.setSrc_readers : (s.setSrc p x).readers = s.readers := by rfl
@[simp] theorem State.setSrc_hk : (s.setSrc p x).hk = s.hk := by rfl
@[simp] theorem State.setSrc_host : (s.setSrc p x).host = s.host := by rfl
@[simp] theorem State.setSrc_boot : (s.setSrc p x).boot = s.boot := by rfl
@[simp] theorem State.setSrc_mem : (s.setSrc p x).mem = s.mem := by rfl
@[simp] theorem State.setSrc_pending : (s.setSrc p x).pending = s.pending := by rfl
end

/-! `State.setAsrc` -/
section
variable (c : Nat) (x : Option AsrcCh)
@[simp] theorem State.setAsrc_now : (s.setAsrc c x).now = s.now := by rfl
@[simp] theorem State.setAsrc_ptpOffset : (s.setAsrc c x).ptpOffset = s.ptpOffset := by rfl
@[simp] theorem State.setAsrc_freeCtr : (s.setAsrc c x).freeCtr = s.freeCtr := by rfl
@[simp] theorem State.setAsrc_objs : (s.setAsrc c x).objs = s.objs := by rfl
@[simp] theorem State.setAsrc_blocks : (s.setAsrc c x).blocks = s.blocks := by rfl
@[simp] theorem State.setAsrc_rights : (s.setAsrc c x).rights = s.rights := by rfl
@[simp] theorem State.setAsrc_funcs : (s.setAsrc c x).funcs = s.funcs := by rfl
@[simp] theorem State.setAsrc_internal : (s.setAsrc c x).internal = s.internal := by rfl
@[simp] theorem State.setAsrc_hspi : (s.setAsrc c x).hspi = s.hspi := by rfl
@[simp] theorem State.setAsrc_twb0 : (s.setAsrc c x).twb0 = s.twb0 := by rfl
@[simp] theorem State.setAsrc_chain : (s.setAsrc c x).chain = s.chain := by rfl
@[simp] theorem State.setAsrc_turn : (s.setAsrc c x).turn = s.turn := by rfl
@[simp] theorem State.setAsrc_parts : (s.setAsrc c x).parts = s.parts := by rfl
@[simp] theorem State.setAsrc_journal : (s.setAsrc c x).journal = s.journal := by rfl
@[simp] theorem State.setAsrc_ms : (s.setAsrc c x).ms = s.ms := by rfl
@[simp] theorem State.setAsrc_gov : (s.setAsrc c x).gov = s.gov := by rfl
@[simp] theorem State.setAsrc_avs : (s.setAsrc c x).avs = s.avs := by rfl
@[simp] theorem State.setAsrc_clk : (s.setAsrc c x).clk = s.clk := by rfl
@[simp] theorem State.setAsrc_snap : (s.setAsrc c x).snap = s.snap := by rfl
@[simp] theorem State.setAsrc_counters : (s.setAsrc c x).counters = s.counters := by rfl
@[simp] theorem State.setAsrc_test : (s.setAsrc c x).test = s.test := by rfl
@[simp] theorem State.setAsrc_inputs : (s.setAsrc c x).inputs = s.inputs := by rfl
@[simp] theorem State.setAsrc_refs : (s.setAsrc c x).refs = s.refs := by rfl
@[simp] theorem State.setAsrc_phantom : (s.setAsrc c x).phantom = s.phantom := by rfl
@[simp] theorem State.setAsrc_lanes : (s.setAsrc c x).lanes = s.lanes := by rfl
@[simp] theorem State.setAsrc_slack : (s.setAsrc c x).slack = s.slack := by rfl
@[simp] theorem State.setAsrc_buses : (s.setAsrc c x).buses = s.buses := by rfl
@[simp] theorem State.setAsrc_meters : (s.setAsrc c x).meters = s.meters := by rfl
@[simp] theorem State.setAsrc_links : (s.setAsrc c x).links = s.links := by rfl
@[simp] theorem State.setAsrc_lines : (s.setAsrc c x).lines = s.lines := by rfl
@[simp] theorem State.setAsrc_outs : (s.setAsrc c x).outs = s.outs := by rfl
@[simp] theorem State.setAsrc_sap : (s.setAsrc c x).sap = s.sap := by rfl
@[simp] theorem State.setAsrc_net : (s.setAsrc c x).net = s.net := by rfl
@[simp] theorem State.setAsrc_pair : (s.setAsrc c x).pair = s.pair := by rfl
@[simp] theorem State.setAsrc_arb : (s.setAsrc c x).arb = s.arb := by rfl
@[simp] theorem State.setAsrc_listen : (s.setAsrc c x).listen = s.listen := by rfl
@[simp] theorem State.setAsrc_ring : (s.setAsrc c x).ring = s.ring := by rfl
@[simp] theorem State.setAsrc_readers : (s.setAsrc c x).readers = s.readers := by rfl
@[simp] theorem State.setAsrc_hk : (s.setAsrc c x).hk = s.hk := by rfl
@[simp] theorem State.setAsrc_host : (s.setAsrc c x).host = s.host := by rfl
@[simp] theorem State.setAsrc_boot : (s.setAsrc c x).boot = s.boot := by rfl
@[simp] theorem State.setAsrc_mem : (s.setAsrc c x).mem = s.mem := by rfl
@[simp] theorem State.setAsrc_pending : (s.setAsrc c x).pending = s.pending := by rfl
end

/-! `State.setDom` -/
section
variable (d : Nat) (x : DomState)
@[simp] theorem State.setDom_now : (s.setDom d x).now = s.now := by rfl
@[simp] theorem State.setDom_ptpOffset : (s.setDom d x).ptpOffset = s.ptpOffset := by rfl
@[simp] theorem State.setDom_freeCtr : (s.setDom d x).freeCtr = s.freeCtr := by rfl
@[simp] theorem State.setDom_objs : (s.setDom d x).objs = s.objs := by rfl
@[simp] theorem State.setDom_blocks : (s.setDom d x).blocks = s.blocks := by rfl
@[simp] theorem State.setDom_rights : (s.setDom d x).rights = s.rights := by rfl
@[simp] theorem State.setDom_funcs : (s.setDom d x).funcs = s.funcs := by rfl
@[simp] theorem State.setDom_internal : (s.setDom d x).internal = s.internal := by rfl
@[simp] theorem State.setDom_hspi : (s.setDom d x).hspi = s.hspi := by rfl
@[simp] theorem State.setDom_twb0 : (s.setDom d x).twb0 = s.twb0 := by rfl
@[simp] theorem State.setDom_chain : (s.setDom d x).chain = s.chain := by rfl
@[simp] theorem State.setDom_turn : (s.setDom d x).turn = s.turn := by rfl
@[simp] theorem State.setDom_parts : (s.setDom d x).parts = s.parts := by rfl
@[simp] theorem State.setDom_journal : (s.setDom d x).journal = s.journal := by rfl
@[simp] theorem State.setDom_ms : (s.setDom d x).ms = s.ms := by rfl
@[simp] theorem State.setDom_gov : (s.setDom d x).gov = s.gov := by rfl
@[simp] theorem State.setDom_avs : (s.setDom d x).avs = s.avs := by rfl
@[simp] theorem State.setDom_clk : (s.setDom d x).clk = s.clk := by rfl
@[simp] theorem State.setDom_snap : (s.setDom d x).snap = s.snap := by rfl
@[simp] theorem State.setDom_counters : (s.setDom d x).counters = s.counters := by rfl
@[simp] theorem State.setDom_test : (s.setDom d x).test = s.test := by rfl
@[simp] theorem State.setDom_inputs : (s.setDom d x).inputs = s.inputs := by rfl
@[simp] theorem State.setDom_refs : (s.setDom d x).refs = s.refs := by rfl
@[simp] theorem State.setDom_phantom : (s.setDom d x).phantom = s.phantom := by rfl
@[simp] theorem State.setDom_lanes : (s.setDom d x).lanes = s.lanes := by rfl
@[simp] theorem State.setDom_slack : (s.setDom d x).slack = s.slack := by rfl
@[simp] theorem State.setDom_buses : (s.setDom d x).buses = s.buses := by rfl
@[simp] theorem State.setDom_meters : (s.setDom d x).meters = s.meters := by rfl
@[simp] theorem State.setDom_links : (s.setDom d x).links = s.links := by rfl
@[simp] theorem State.setDom_lines : (s.setDom d x).lines = s.lines := by rfl
@[simp] theorem State.setDom_outs : (s.setDom d x).outs = s.outs := by rfl
@[simp] theorem State.setDom_sap : (s.setDom d x).sap = s.sap := by rfl
@[simp] theorem State.setDom_net : (s.setDom d x).net = s.net := by rfl
@[simp] theorem State.setDom_pair : (s.setDom d x).pair = s.pair := by rfl
@[simp] theorem State.setDom_arb : (s.setDom d x).arb = s.arb := by rfl
@[simp] theorem State.setDom_listen : (s.setDom d x).listen = s.listen := by rfl
@[simp] theorem State.setDom_ring : (s.setDom d x).ring = s.ring := by rfl
@[simp] theorem State.setDom_readers : (s.setDom d x).readers = s.readers := by rfl
@[simp] theorem State.setDom_hk : (s.setDom d x).hk = s.hk := by rfl
@[simp] theorem State.setDom_host : (s.setDom d x).host = s.host := by rfl
@[simp] theorem State.setDom_boot : (s.setDom d x).boot = s.boot := by rfl
@[simp] theorem State.setDom_mem : (s.setDom d x).mem = s.mem := by rfl
@[simp] theorem State.setDom_pending : (s.setDom d x).pending = s.pending := by rfl
end

/-! `State.setGen` -/
section
variable (g : Nat) (x : GenState)
@[simp] theorem State.setGen_now : (s.setGen g x).now = s.now := by rfl
@[simp] theorem State.setGen_ptpOffset : (s.setGen g x).ptpOffset = s.ptpOffset := by rfl
@[simp] theorem State.setGen_freeCtr : (s.setGen g x).freeCtr = s.freeCtr := by rfl
@[simp] theorem State.setGen_objs : (s.setGen g x).objs = s.objs := by rfl
@[simp] theorem State.setGen_blocks : (s.setGen g x).blocks = s.blocks := by rfl
@[simp] theorem State.setGen_rights : (s.setGen g x).rights = s.rights := by rfl
@[simp] theorem State.setGen_funcs : (s.setGen g x).funcs = s.funcs := by rfl
@[simp] theorem State.setGen_internal : (s.setGen g x).internal = s.internal := by rfl
@[simp] theorem State.setGen_hspi : (s.setGen g x).hspi = s.hspi := by rfl
@[simp] theorem State.setGen_twb0 : (s.setGen g x).twb0 = s.twb0 := by rfl
@[simp] theorem State.setGen_chain : (s.setGen g x).chain = s.chain := by rfl
@[simp] theorem State.setGen_turn : (s.setGen g x).turn = s.turn := by rfl
@[simp] theorem State.setGen_parts : (s.setGen g x).parts = s.parts := by rfl
@[simp] theorem State.setGen_journal : (s.setGen g x).journal = s.journal := by rfl
@[simp] theorem State.setGen_ms : (s.setGen g x).ms = s.ms := by rfl
@[simp] theorem State.setGen_gov : (s.setGen g x).gov = s.gov := by rfl
@[simp] theorem State.setGen_avs : (s.setGen g x).avs = s.avs := by rfl
@[simp] theorem State.setGen_clk : (s.setGen g x).clk = s.clk := by rfl
@[simp] theorem State.setGen_snap : (s.setGen g x).snap = s.snap := by rfl
@[simp] theorem State.setGen_counters : (s.setGen g x).counters = s.counters := by rfl
@[simp] theorem State.setGen_test : (s.setGen g x).test = s.test := by rfl
@[simp] theorem State.setGen_inputs : (s.setGen g x).inputs = s.inputs := by rfl
@[simp] theorem State.setGen_refs : (s.setGen g x).refs = s.refs := by rfl
@[simp] theorem State.setGen_phantom : (s.setGen g x).phantom = s.phantom := by rfl
@[simp] theorem State.setGen_lanes : (s.setGen g x).lanes = s.lanes := by rfl
@[simp] theorem State.setGen_slack : (s.setGen g x).slack = s.slack := by rfl
@[simp] theorem State.setGen_buses : (s.setGen g x).buses = s.buses := by rfl
@[simp] theorem State.setGen_meters : (s.setGen g x).meters = s.meters := by rfl
@[simp] theorem State.setGen_links : (s.setGen g x).links = s.links := by rfl
@[simp] theorem State.setGen_lines : (s.setGen g x).lines = s.lines := by rfl
@[simp] theorem State.setGen_outs : (s.setGen g x).outs = s.outs := by rfl
@[simp] theorem State.setGen_sap : (s.setGen g x).sap = s.sap := by rfl
@[simp] theorem State.setGen_net : (s.setGen g x).net = s.net := by rfl
@[simp] theorem State.setGen_pair : (s.setGen g x).pair = s.pair := by rfl
@[simp] theorem State.setGen_arb : (s.setGen g x).arb = s.arb := by rfl
@[simp] theorem State.setGen_listen : (s.setGen g x).listen = s.listen := by rfl
@[simp] theorem State.setGen_ring : (s.setGen g x).ring = s.ring := by rfl
@[simp] theorem State.setGen_readers : (s.setGen g x).readers = s.readers := by rfl
@[simp] theorem State.setGen_hk : (s.setGen g x).hk = s.hk := by rfl
@[simp] theorem State.setGen_host : (s.setGen g x).host = s.host := by rfl
@[simp] theorem State.setGen_boot : (s.setGen g x).boot = s.boot := by rfl
@[simp] theorem State.setGen_mem : (s.setGen g x).mem = s.mem := by rfl
@[simp] theorem State.setGen_pending : (s.setGen g x).pending = s.pending := by rfl
end

/-! `State.setLane` -/
section
variable (n : Nat) (x : LaneState)
@[simp] theorem State.setLane_now : (s.setLane n x).now = s.now := by rfl
@[simp] theorem State.setLane_ptpOffset : (s.setLane n x).ptpOffset = s.ptpOffset := by rfl
@[simp] theorem State.setLane_freeCtr : (s.setLane n x).freeCtr = s.freeCtr := by rfl
@[simp] theorem State.setLane_objs : (s.setLane n x).objs = s.objs := by rfl
@[simp] theorem State.setLane_blocks : (s.setLane n x).blocks = s.blocks := by rfl
@[simp] theorem State.setLane_rights : (s.setLane n x).rights = s.rights := by rfl
@[simp] theorem State.setLane_funcs : (s.setLane n x).funcs = s.funcs := by rfl
@[simp] theorem State.setLane_internal : (s.setLane n x).internal = s.internal := by rfl
@[simp] theorem State.setLane_hspi : (s.setLane n x).hspi = s.hspi := by rfl
@[simp] theorem State.setLane_twb0 : (s.setLane n x).twb0 = s.twb0 := by rfl
@[simp] theorem State.setLane_chain : (s.setLane n x).chain = s.chain := by rfl
@[simp] theorem State.setLane_turn : (s.setLane n x).turn = s.turn := by rfl
@[simp] theorem State.setLane_parts : (s.setLane n x).parts = s.parts := by rfl
@[simp] theorem State.setLane_journal : (s.setLane n x).journal = s.journal := by rfl
@[simp] theorem State.setLane_ms : (s.setLane n x).ms = s.ms := by rfl
@[simp] theorem State.setLane_gov : (s.setLane n x).gov = s.gov := by rfl
@[simp] theorem State.setLane_avs : (s.setLane n x).avs = s.avs := by rfl
@[simp] theorem State.setLane_clk : (s.setLane n x).clk = s.clk := by rfl
@[simp] theorem State.setLane_snap : (s.setLane n x).snap = s.snap := by rfl
@[simp] theorem State.setLane_counters : (s.setLane n x).counters = s.counters := by rfl
@[simp] theorem State.setLane_test : (s.setLane n x).test = s.test := by rfl
@[simp] theorem State.setLane_inputs : (s.setLane n x).inputs = s.inputs := by rfl
@[simp] theorem State.setLane_refs : (s.setLane n x).refs = s.refs := by rfl
@[simp] theorem State.setLane_phantom : (s.setLane n x).phantom = s.phantom := by rfl
@[simp] theorem State.setLane_router : (s.setLane n x).router = s.router := by rfl
@[simp] theorem State.setLane_slack : (s.setLane n x).slack = s.slack := by rfl
@[simp] theorem State.setLane_buses : (s.setLane n x).buses = s.buses := by rfl
@[simp] theorem State.setLane_meters : (s.setLane n x).meters = s.meters := by rfl
@[simp] theorem State.setLane_links : (s.setLane n x).links = s.links := by rfl
@[simp] theorem State.setLane_lines : (s.setLane n x).lines = s.lines := by rfl
@[simp] theorem State.setLane_outs : (s.setLane n x).outs = s.outs := by rfl
@[simp] theorem State.setLane_sap : (s.setLane n x).sap = s.sap := by rfl
@[simp] theorem State.setLane_net : (s.setLane n x).net = s.net := by rfl
@[simp] theorem State.setLane_pair : (s.setLane n x).pair = s.pair := by rfl
@[simp] theorem State.setLane_arb : (s.setLane n x).arb = s.arb := by rfl
@[simp] theorem State.setLane_listen : (s.setLane n x).listen = s.listen := by rfl
@[simp] theorem State.setLane_ring : (s.setLane n x).ring = s.ring := by rfl
@[simp] theorem State.setLane_readers : (s.setLane n x).readers = s.readers := by rfl
@[simp] theorem State.setLane_hk : (s.setLane n x).hk = s.hk := by rfl
@[simp] theorem State.setLane_host : (s.setLane n x).host = s.host := by rfl
@[simp] theorem State.setLane_boot : (s.setLane n x).boot = s.boot := by rfl
@[simp] theorem State.setLane_mem : (s.setLane n x).mem = s.mem := by rfl
@[simp] theorem State.setLane_pending : (s.setLane n x).pending = s.pending := by rfl
end

/-! `State.setBus` -/
section
variable (b : Nat) (x : BusState)
@[simp] theorem State.setBus_now : (s.setBus b x).now = s.now := by rfl
@[simp] theorem State.setBus_ptpOffset : (s.setBus b x).ptpOffset = s.ptpOffset := by rfl
@[simp] theorem State.setBus_freeCtr : (s.setBus b x).freeCtr = s.freeCtr := by rfl
@[simp] theorem State.setBus_objs : (s.setBus b x).objs = s.objs := by rfl
@[simp] theorem State.setBus_blocks : (s.setBus b x).blocks = s.blocks := by rfl
@[simp] theorem State.setBus_rights : (s.setBus b x).rights = s.rights := by rfl
@[simp] theorem State.setBus_funcs : (s.setBus b x).funcs = s.funcs := by rfl
@[simp] theorem State.setBus_internal : (s.setBus b x).internal = s.internal := by rfl
@[simp] theorem State.setBus_hspi : (s.setBus b x).hspi = s.hspi := by rfl
@[simp] theorem State.setBus_twb0 : (s.setBus b x).twb0 = s.twb0 := by rfl
@[simp] theorem State.setBus_chain : (s.setBus b x).chain = s.chain := by rfl
@[simp] theorem State.setBus_turn : (s.setBus b x).turn = s.turn := by rfl
@[simp] theorem State.setBus_parts : (s.setBus b x).parts = s.parts := by rfl
@[simp] theorem State.setBus_journal : (s.setBus b x).journal = s.journal := by rfl
@[simp] theorem State.setBus_ms : (s.setBus b x).ms = s.ms := by rfl
@[simp] theorem State.setBus_gov : (s.setBus b x).gov = s.gov := by rfl
@[simp] theorem State.setBus_avs : (s.setBus b x).avs = s.avs := by rfl
@[simp] theorem State.setBus_clk : (s.setBus b x).clk = s.clk := by rfl
@[simp] theorem State.setBus_snap : (s.setBus b x).snap = s.snap := by rfl
@[simp] theorem State.setBus_counters : (s.setBus b x).counters = s.counters := by rfl
@[simp] theorem State.setBus_test : (s.setBus b x).test = s.test := by rfl
@[simp] theorem State.setBus_inputs : (s.setBus b x).inputs = s.inputs := by rfl
@[simp] theorem State.setBus_refs : (s.setBus b x).refs = s.refs := by rfl
@[simp] theorem State.setBus_phantom : (s.setBus b x).phantom = s.phantom := by rfl
@[simp] theorem State.setBus_router : (s.setBus b x).router = s.router := by rfl
@[simp] theorem State.setBus_lanes : (s.setBus b x).lanes = s.lanes := by rfl
@[simp] theorem State.setBus_slack : (s.setBus b x).slack = s.slack := by rfl
@[simp] theorem State.setBus_meters : (s.setBus b x).meters = s.meters := by rfl
@[simp] theorem State.setBus_links : (s.setBus b x).links = s.links := by rfl
@[simp] theorem State.setBus_lines : (s.setBus b x).lines = s.lines := by rfl
@[simp] theorem State.setBus_outs : (s.setBus b x).outs = s.outs := by rfl
@[simp] theorem State.setBus_sap : (s.setBus b x).sap = s.sap := by rfl
@[simp] theorem State.setBus_net : (s.setBus b x).net = s.net := by rfl
@[simp] theorem State.setBus_pair : (s.setBus b x).pair = s.pair := by rfl
@[simp] theorem State.setBus_arb : (s.setBus b x).arb = s.arb := by rfl
@[simp] theorem State.setBus_listen : (s.setBus b x).listen = s.listen := by rfl
@[simp] theorem State.setBus_ring : (s.setBus b x).ring = s.ring := by rfl
@[simp] theorem State.setBus_readers : (s.setBus b x).readers = s.readers := by rfl
@[simp] theorem State.setBus_hk : (s.setBus b x).hk = s.hk := by rfl
@[simp] theorem State.setBus_host : (s.setBus b x).host = s.host := by rfl
@[simp] theorem State.setBus_boot : (s.setBus b x).boot = s.boot := by rfl
@[simp] theorem State.setBus_mem : (s.setBus b x).mem = s.mem := by rfl
@[simp] theorem State.setBus_pending : (s.setBus b x).pending = s.pending := by rfl
end

/-! `State.setMeter` -/
section
variable (m : Nat) (x : Meter)
@[simp] theorem State.setMeter_now : (s.setMeter m x).now = s.now := by rfl
@[simp] theorem State.setMeter_ptpOffset : (s.setMeter m x).ptpOffset = s.ptpOffset := by rfl
@[simp] theorem State.setMeter_freeCtr : (s.setMeter m x).freeCtr = s.freeCtr := by rfl
@[simp] theorem State.setMeter_objs : (s.setMeter m x).objs = s.objs := by rfl
@[simp] theorem State.setMeter_blocks : (s.setMeter m x).blocks = s.blocks := by rfl
@[simp] theorem State.setMeter_rights : (s.setMeter m x).rights = s.rights := by rfl
@[simp] theorem State.setMeter_funcs : (s.setMeter m x).funcs = s.funcs := by rfl
@[simp] theorem State.setMeter_internal : (s.setMeter m x).internal = s.internal := by rfl
@[simp] theorem State.setMeter_hspi : (s.setMeter m x).hspi = s.hspi := by rfl
@[simp] theorem State.setMeter_twb0 : (s.setMeter m x).twb0 = s.twb0 := by rfl
@[simp] theorem State.setMeter_chain : (s.setMeter m x).chain = s.chain := by rfl
@[simp] theorem State.setMeter_turn : (s.setMeter m x).turn = s.turn := by rfl
@[simp] theorem State.setMeter_parts : (s.setMeter m x).parts = s.parts := by rfl
@[simp] theorem State.setMeter_journal : (s.setMeter m x).journal = s.journal := by rfl
@[simp] theorem State.setMeter_ms : (s.setMeter m x).ms = s.ms := by rfl
@[simp] theorem State.setMeter_gov : (s.setMeter m x).gov = s.gov := by rfl
@[simp] theorem State.setMeter_avs : (s.setMeter m x).avs = s.avs := by rfl
@[simp] theorem State.setMeter_clk : (s.setMeter m x).clk = s.clk := by rfl
@[simp] theorem State.setMeter_snap : (s.setMeter m x).snap = s.snap := by rfl
@[simp] theorem State.setMeter_counters : (s.setMeter m x).counters = s.counters := by rfl
@[simp] theorem State.setMeter_test : (s.setMeter m x).test = s.test := by rfl
@[simp] theorem State.setMeter_inputs : (s.setMeter m x).inputs = s.inputs := by rfl
@[simp] theorem State.setMeter_refs : (s.setMeter m x).refs = s.refs := by rfl
@[simp] theorem State.setMeter_phantom : (s.setMeter m x).phantom = s.phantom := by rfl
@[simp] theorem State.setMeter_router : (s.setMeter m x).router = s.router := by rfl
@[simp] theorem State.setMeter_lanes : (s.setMeter m x).lanes = s.lanes := by rfl
@[simp] theorem State.setMeter_slack : (s.setMeter m x).slack = s.slack := by rfl
@[simp] theorem State.setMeter_buses : (s.setMeter m x).buses = s.buses := by rfl
@[simp] theorem State.setMeter_links : (s.setMeter m x).links = s.links := by rfl
@[simp] theorem State.setMeter_lines : (s.setMeter m x).lines = s.lines := by rfl
@[simp] theorem State.setMeter_outs : (s.setMeter m x).outs = s.outs := by rfl
@[simp] theorem State.setMeter_sap : (s.setMeter m x).sap = s.sap := by rfl
@[simp] theorem State.setMeter_net : (s.setMeter m x).net = s.net := by rfl
@[simp] theorem State.setMeter_pair : (s.setMeter m x).pair = s.pair := by rfl
@[simp] theorem State.setMeter_arb : (s.setMeter m x).arb = s.arb := by rfl
@[simp] theorem State.setMeter_listen : (s.setMeter m x).listen = s.listen := by rfl
@[simp] theorem State.setMeter_ring : (s.setMeter m x).ring = s.ring := by rfl
@[simp] theorem State.setMeter_readers : (s.setMeter m x).readers = s.readers := by rfl
@[simp] theorem State.setMeter_hk : (s.setMeter m x).hk = s.hk := by rfl
@[simp] theorem State.setMeter_host : (s.setMeter m x).host = s.host := by rfl
@[simp] theorem State.setMeter_boot : (s.setMeter m x).boot = s.boot := by rfl
@[simp] theorem State.setMeter_mem : (s.setMeter m x).mem = s.mem := by rfl
@[simp] theorem State.setMeter_pending : (s.setMeter m x).pending = s.pending := by rfl
end

/-! `State.setLink` -/
section
variable (l : Nat) (x : LinkState)
@[simp] theorem State.setLink_now : (s.setLink l x).now = s.now := by rfl
@[simp] theorem State.setLink_ptpOffset : (s.setLink l x).ptpOffset = s.ptpOffset := by rfl
@[simp] theorem State.setLink_freeCtr : (s.setLink l x).freeCtr = s.freeCtr := by rfl
@[simp] theorem State.setLink_objs : (s.setLink l x).objs = s.objs := by rfl
@[simp] theorem State.setLink_blocks : (s.setLink l x).blocks = s.blocks := by rfl
@[simp] theorem State.setLink_rights : (s.setLink l x).rights = s.rights := by rfl
@[simp] theorem State.setLink_funcs : (s.setLink l x).funcs = s.funcs := by rfl
@[simp] theorem State.setLink_internal : (s.setLink l x).internal = s.internal := by rfl
@[simp] theorem State.setLink_hspi : (s.setLink l x).hspi = s.hspi := by rfl
@[simp] theorem State.setLink_twb0 : (s.setLink l x).twb0 = s.twb0 := by rfl
@[simp] theorem State.setLink_chain : (s.setLink l x).chain = s.chain := by rfl
@[simp] theorem State.setLink_turn : (s.setLink l x).turn = s.turn := by rfl
@[simp] theorem State.setLink_parts : (s.setLink l x).parts = s.parts := by rfl
@[simp] theorem State.setLink_journal : (s.setLink l x).journal = s.journal := by rfl
@[simp] theorem State.setLink_ms : (s.setLink l x).ms = s.ms := by rfl
@[simp] theorem State.setLink_gov : (s.setLink l x).gov = s.gov := by rfl
@[simp] theorem State.setLink_avs : (s.setLink l x).avs = s.avs := by rfl
@[simp] theorem State.setLink_clk : (s.setLink l x).clk = s.clk := by rfl
@[simp] theorem State.setLink_snap : (s.setLink l x).snap = s.snap := by rfl
@[simp] theorem State.setLink_counters : (s.setLink l x).counters = s.counters := by rfl
@[simp] theorem State.setLink_test : (s.setLink l x).test = s.test := by rfl
@[simp] theorem State.setLink_inputs : (s.setLink l x).inputs = s.inputs := by rfl
@[simp] theorem State.setLink_refs : (s.setLink l x).refs = s.refs := by rfl
@[simp] theorem State.setLink_phantom : (s.setLink l x).phantom = s.phantom := by rfl
@[simp] theorem State.setLink_router : (s.setLink l x).router = s.router := by rfl
@[simp] theorem State.setLink_lanes : (s.setLink l x).lanes = s.lanes := by rfl
@[simp] theorem State.setLink_slack : (s.setLink l x).slack = s.slack := by rfl
@[simp] theorem State.setLink_buses : (s.setLink l x).buses = s.buses := by rfl
@[simp] theorem State.setLink_meters : (s.setLink l x).meters = s.meters := by rfl
@[simp] theorem State.setLink_lines : (s.setLink l x).lines = s.lines := by rfl
@[simp] theorem State.setLink_outs : (s.setLink l x).outs = s.outs := by rfl
@[simp] theorem State.setLink_sap : (s.setLink l x).sap = s.sap := by rfl
@[simp] theorem State.setLink_net : (s.setLink l x).net = s.net := by rfl
@[simp] theorem State.setLink_pair : (s.setLink l x).pair = s.pair := by rfl
@[simp] theorem State.setLink_arb : (s.setLink l x).arb = s.arb := by rfl
@[simp] theorem State.setLink_listen : (s.setLink l x).listen = s.listen := by rfl
@[simp] theorem State.setLink_ring : (s.setLink l x).ring = s.ring := by rfl
@[simp] theorem State.setLink_readers : (s.setLink l x).readers = s.readers := by rfl
@[simp] theorem State.setLink_hk : (s.setLink l x).hk = s.hk := by rfl
@[simp] theorem State.setLink_host : (s.setLink l x).host = s.host := by rfl
@[simp] theorem State.setLink_boot : (s.setLink l x).boot = s.boot := by rfl
@[simp] theorem State.setLink_mem : (s.setLink l x).mem = s.mem := by rfl
@[simp] theorem State.setLink_pending : (s.setLink l x).pending = s.pending := by rfl
end

/-! `State.setLine` -/
section
variable (d : Nat) (x : DelayLine)
@[simp] theorem State.setLine_now : (s.setLine d x).now = s.now := by rfl
@[simp] theorem State.setLine_ptpOffset : (s.setLine d x).ptpOffset = s.ptpOffset := by rfl
@[simp] theorem State.setLine_freeCtr : (s.setLine d x).freeCtr = s.freeCtr := by rfl
@[simp] theorem State.setLine_objs : (s.setLine d x).objs = s.objs := by rfl
@[simp] theorem State.setLine_blocks : (s.setLine d x).blocks = s.blocks := by rfl
@[simp] theorem State.setLine_rights : (s.setLine d x).rights = s.rights := by rfl
@[simp] theorem State.setLine_funcs : (s.setLine d x).funcs = s.funcs := by rfl
@[simp] theorem State.setLine_internal : (s.setLine d x).internal = s.internal := by rfl
@[simp] theorem State.setLine_hspi : (s.setLine d x).hspi = s.hspi := by rfl
@[simp] theorem State.setLine_twb0 : (s.setLine d x).twb0 = s.twb0 := by rfl
@[simp] theorem State.setLine_chain : (s.setLine d x).chain = s.chain := by rfl
@[simp] theorem State.setLine_turn : (s.setLine d x).turn = s.turn := by rfl
@[simp] theorem State.setLine_parts : (s.setLine d x).parts = s.parts := by rfl
@[simp] theorem State.setLine_journal : (s.setLine d x).journal = s.journal := by rfl
@[simp] theorem State.setLine_ms : (s.setLine d x).ms = s.ms := by rfl
@[simp] theorem State.setLine_gov : (s.setLine d x).gov = s.gov := by rfl
@[simp] theorem State.setLine_avs : (s.setLine d x).avs = s.avs := by rfl
@[simp] theorem State.setLine_clk : (s.setLine d x).clk = s.clk := by rfl
@[simp] theorem State.setLine_snap : (s.setLine d x).snap = s.snap := by rfl
@[simp] theorem State.setLine_counters : (s.setLine d x).counters = s.counters := by rfl
@[simp] theorem State.setLine_test : (s.setLine d x).test = s.test := by rfl
@[simp] theorem State.setLine_inputs : (s.setLine d x).inputs = s.inputs := by rfl
@[simp] theorem State.setLine_refs : (s.setLine d x).refs = s.refs := by rfl
@[simp] theorem State.setLine_phantom : (s.setLine d x).phantom = s.phantom := by rfl
@[simp] theorem State.setLine_router : (s.setLine d x).router = s.router := by rfl
@[simp] theorem State.setLine_lanes : (s.setLine d x).lanes = s.lanes := by rfl
@[simp] theorem State.setLine_slack : (s.setLine d x).slack = s.slack := by rfl
@[simp] theorem State.setLine_buses : (s.setLine d x).buses = s.buses := by rfl
@[simp] theorem State.setLine_meters : (s.setLine d x).meters = s.meters := by rfl
@[simp] theorem State.setLine_links : (s.setLine d x).links = s.links := by rfl
@[simp] theorem State.setLine_outs : (s.setLine d x).outs = s.outs := by rfl
@[simp] theorem State.setLine_sap : (s.setLine d x).sap = s.sap := by rfl
@[simp] theorem State.setLine_net : (s.setLine d x).net = s.net := by rfl
@[simp] theorem State.setLine_pair : (s.setLine d x).pair = s.pair := by rfl
@[simp] theorem State.setLine_arb : (s.setLine d x).arb = s.arb := by rfl
@[simp] theorem State.setLine_listen : (s.setLine d x).listen = s.listen := by rfl
@[simp] theorem State.setLine_ring : (s.setLine d x).ring = s.ring := by rfl
@[simp] theorem State.setLine_readers : (s.setLine d x).readers = s.readers := by rfl
@[simp] theorem State.setLine_hk : (s.setLine d x).hk = s.hk := by rfl
@[simp] theorem State.setLine_host : (s.setLine d x).host = s.host := by rfl
@[simp] theorem State.setLine_boot : (s.setLine d x).boot = s.boot := by rfl
@[simp] theorem State.setLine_mem : (s.setLine d x).mem = s.mem := by rfl
@[simp] theorem State.setLine_pending : (s.setLine d x).pending = s.pending := by rfl
end

/-! `State.setOut` -/
section
variable (n : Nat) (x : OutCh)
@[simp] theorem State.setOut_now : (s.setOut n x).now = s.now := by rfl
@[simp] theorem State.setOut_ptpOffset : (s.setOut n x).ptpOffset = s.ptpOffset := by rfl
@[simp] theorem State.setOut_freeCtr : (s.setOut n x).freeCtr = s.freeCtr := by rfl
@[simp] theorem State.setOut_objs : (s.setOut n x).objs = s.objs := by rfl
@[simp] theorem State.setOut_blocks : (s.setOut n x).blocks = s.blocks := by rfl
@[simp] theorem State.setOut_rights : (s.setOut n x).rights = s.rights := by rfl
@[simp] theorem State.setOut_funcs : (s.setOut n x).funcs = s.funcs := by rfl
@[simp] theorem State.setOut_internal : (s.setOut n x).internal = s.internal := by rfl
@[simp] theorem State.setOut_hspi : (s.setOut n x).hspi = s.hspi := by rfl
@[simp] theorem State.setOut_twb0 : (s.setOut n x).twb0 = s.twb0 := by rfl
@[simp] theorem State.setOut_chain : (s.setOut n x).chain = s.chain := by rfl
@[simp] theorem State.setOut_turn : (s.setOut n x).turn = s.turn := by rfl
@[simp] theorem State.setOut_parts : (s.setOut n x).parts = s.parts := by rfl
@[simp] theorem State.setOut_journal : (s.setOut n x).journal = s.journal := by rfl
@[simp] theorem State.setOut_ms : (s.setOut n x).ms = s.ms := by rfl
@[simp] theorem State.setOut_gov : (s.setOut n x).gov = s.gov := by rfl
@[simp] theorem State.setOut_avs : (s.setOut n x).avs = s.avs := by rfl
@[simp] theorem State.setOut_clk : (s.setOut n x).clk = s.clk := by rfl
@[simp] theorem State.setOut_snap : (s.setOut n x).snap = s.snap := by rfl
@[simp] theorem State.setOut_counters : (s.setOut n x).counters = s.counters := by rfl
@[simp] theorem State.setOut_test : (s.setOut n x).test = s.test := by rfl
@[simp] theorem State.setOut_inputs : (s.setOut n x).inputs = s.inputs := by rfl
@[simp] theorem State.setOut_refs : (s.setOut n x).refs = s.refs := by rfl
@[simp] theorem State.setOut_phantom : (s.setOut n x).phantom = s.phantom := by rfl
@[simp] theorem State.setOut_router : (s.setOut n x).router = s.router := by rfl
@[simp] theorem State.setOut_lanes : (s.setOut n x).lanes = s.lanes := by rfl
@[simp] theorem State.setOut_slack : (s.setOut n x).slack = s.slack := by rfl
@[simp] theorem State.setOut_buses : (s.setOut n x).buses = s.buses := by rfl
@[simp] theorem State.setOut_meters : (s.setOut n x).meters = s.meters := by rfl
@[simp] theorem State.setOut_links : (s.setOut n x).links = s.links := by rfl
@[simp] theorem State.setOut_lines : (s.setOut n x).lines = s.lines := by rfl
@[simp] theorem State.setOut_sap : (s.setOut n x).sap = s.sap := by rfl
@[simp] theorem State.setOut_net : (s.setOut n x).net = s.net := by rfl
@[simp] theorem State.setOut_pair : (s.setOut n x).pair = s.pair := by rfl
@[simp] theorem State.setOut_arb : (s.setOut n x).arb = s.arb := by rfl
@[simp] theorem State.setOut_listen : (s.setOut n x).listen = s.listen := by rfl
@[simp] theorem State.setOut_ring : (s.setOut n x).ring = s.ring := by rfl
@[simp] theorem State.setOut_readers : (s.setOut n x).readers = s.readers := by rfl
@[simp] theorem State.setOut_hk : (s.setOut n x).hk = s.hk := by rfl
@[simp] theorem State.setOut_host : (s.setOut n x).host = s.host := by rfl
@[simp] theorem State.setOut_boot : (s.setOut n x).boot = s.boot := by rfl
@[simp] theorem State.setOut_mem : (s.setOut n x).mem = s.mem := by rfl
@[simp] theorem State.setOut_pending : (s.setOut n x).pending = s.pending := by rfl
end

/-! `State.setHp` -/
section
variable (h : Nat) (x : HpCh)
@[simp] theorem State.setHp_now : (s.setHp h x).now = s.now := by rfl
@[simp] theorem State.setHp_ptpOffset : (s.setHp h x).ptpOffset = s.ptpOffset := by rfl
@[simp] theorem State.setHp_freeCtr : (s.setHp h x).freeCtr = s.freeCtr := by rfl
@[simp] theorem State.setHp_objs : (s.setHp h x).objs = s.objs := by rfl
@[simp] theorem State.setHp_blocks : (s.setHp h x).blocks = s.blocks := by rfl
@[simp] theorem State.setHp_rights : (s.setHp h x).rights = s.rights := by rfl
@[simp] theorem State.setHp_funcs : (s.setHp h x).funcs = s.funcs := by rfl
@[simp] theorem State.setHp_internal : (s.setHp h x).internal = s.internal := by rfl
@[simp] theorem State.setHp_hspi : (s.setHp h x).hspi = s.hspi := by rfl
@[simp] theorem State.setHp_twb0 : (s.setHp h x).twb0 = s.twb0 := by rfl
@[simp] theorem State.setHp_chain : (s.setHp h x).chain = s.chain := by rfl
@[simp] theorem State.setHp_turn : (s.setHp h x).turn = s.turn := by rfl
@[simp] theorem State.setHp_parts : (s.setHp h x).parts = s.parts := by rfl
@[simp] theorem State.setHp_journal : (s.setHp h x).journal = s.journal := by rfl
@[simp] theorem State.setHp_ms : (s.setHp h x).ms = s.ms := by rfl
@[simp] theorem State.setHp_gov : (s.setHp h x).gov = s.gov := by rfl
@[simp] theorem State.setHp_avs : (s.setHp h x).avs = s.avs := by rfl
@[simp] theorem State.setHp_clk : (s.setHp h x).clk = s.clk := by rfl
@[simp] theorem State.setHp_snap : (s.setHp h x).snap = s.snap := by rfl
@[simp] theorem State.setHp_counters : (s.setHp h x).counters = s.counters := by rfl
@[simp] theorem State.setHp_test : (s.setHp h x).test = s.test := by rfl
@[simp] theorem State.setHp_inputs : (s.setHp h x).inputs = s.inputs := by rfl
@[simp] theorem State.setHp_refs : (s.setHp h x).refs = s.refs := by rfl
@[simp] theorem State.setHp_phantom : (s.setHp h x).phantom = s.phantom := by rfl
@[simp] theorem State.setHp_router : (s.setHp h x).router = s.router := by rfl
@[simp] theorem State.setHp_lanes : (s.setHp h x).lanes = s.lanes := by rfl
@[simp] theorem State.setHp_slack : (s.setHp h x).slack = s.slack := by rfl
@[simp] theorem State.setHp_buses : (s.setHp h x).buses = s.buses := by rfl
@[simp] theorem State.setHp_meters : (s.setHp h x).meters = s.meters := by rfl
@[simp] theorem State.setHp_links : (s.setHp h x).links = s.links := by rfl
@[simp] theorem State.setHp_lines : (s.setHp h x).lines = s.lines := by rfl
@[simp] theorem State.setHp_sap : (s.setHp h x).sap = s.sap := by rfl
@[simp] theorem State.setHp_net : (s.setHp h x).net = s.net := by rfl
@[simp] theorem State.setHp_pair : (s.setHp h x).pair = s.pair := by rfl
@[simp] theorem State.setHp_arb : (s.setHp h x).arb = s.arb := by rfl
@[simp] theorem State.setHp_listen : (s.setHp h x).listen = s.listen := by rfl
@[simp] theorem State.setHp_ring : (s.setHp h x).ring = s.ring := by rfl
@[simp] theorem State.setHp_readers : (s.setHp h x).readers = s.readers := by rfl
@[simp] theorem State.setHp_hk : (s.setHp h x).hk = s.hk := by rfl
@[simp] theorem State.setHp_host : (s.setHp h x).host = s.host := by rfl
@[simp] theorem State.setHp_boot : (s.setHp h x).boot = s.boot := by rfl
@[simp] theorem State.setHp_mem : (s.setHp h x).mem = s.mem := by rfl
@[simp] theorem State.setHp_pending : (s.setHp h x).pending = s.pending := by rfl
end

/-! `State.setPwm` -/
section
variable (n : Nat) (x : PwmCh)
@[simp] theorem State.setPwm_now : (s.setPwm n x).now = s.now := by rfl
@[simp] theorem State.setPwm_ptpOffset : (s.setPwm n x).ptpOffset = s.ptpOffset := by rfl
@[simp] theorem State.setPwm_freeCtr : (s.setPwm n x).freeCtr = s.freeCtr := by rfl
@[simp] theorem State.setPwm_objs : (s.setPwm n x).objs = s.objs := by rfl
@[simp] theorem State.setPwm_blocks : (s.setPwm n x).blocks = s.blocks := by rfl
@[simp] theorem State.setPwm_rights : (s.setPwm n x).rights = s.rights := by rfl
@[simp] theorem State.setPwm_funcs : (s.setPwm n x).funcs = s.funcs := by rfl
@[simp] theorem State.setPwm_internal : (s.setPwm n x).internal = s.internal := by rfl
@[simp] theorem State.setPwm_hspi : (s.setPwm n x).hspi = s.hspi := by rfl
@[simp] theorem State.setPwm_twb0 : (s.setPwm n x).twb0 = s.twb0 := by rfl
@[simp] theorem State.setPwm_chain : (s.setPwm n x).chain = s.chain := by rfl
@[simp] theorem State.setPwm_turn : (s.setPwm n x).turn = s.turn := by rfl
@[simp] theorem State.setPwm_parts : (s.setPwm n x).parts = s.parts := by rfl
@[simp] theorem State.setPwm_journal : (s.setPwm n x).journal = s.journal := by rfl
@[simp] theorem State.setPwm_ms : (s.setPwm n x).ms = s.ms := by rfl
@[simp] theorem State.setPwm_gov : (s.setPwm n x).gov = s.gov := by rfl
@[simp] theorem State.setPwm_avs : (s.setPwm n x).avs = s.avs := by rfl
@[simp] theorem State.setPwm_clk : (s.setPwm n x).clk = s.clk := by rfl
@[simp] theorem State.setPwm_snap : (s.setPwm n x).snap = s.snap := by rfl
@[simp] theorem State.setPwm_counters : (s.setPwm n x).counters = s.counters := by rfl
@[simp] theorem State.setPwm_test : (s.setPwm n x).test = s.test := by rfl
@[simp] theorem State.setPwm_inputs : (s.setPwm n x).inputs = s.inputs := by rfl
@[simp] theorem State.setPwm_refs : (s.setPwm n x).refs = s.refs := by rfl
@[simp] theorem State.setPwm_phantom : (s.setPwm n x).phantom = s.phantom := by rfl
@[simp] theorem State.setPwm_router : (s.setPwm n x).router = s.router := by rfl
@[simp] theorem State.setPwm_lanes : (s.setPwm n x).lanes = s.lanes := by rfl
@[simp] theorem State.setPwm_slack : (s.setPwm n x).slack = s.slack := by rfl
@[simp] theorem State.setPwm_buses : (s.setPwm n x).buses = s.buses := by rfl
@[simp] theorem State.setPwm_meters : (s.setPwm n x).meters = s.meters := by rfl
@[simp] theorem State.setPwm_links : (s.setPwm n x).links = s.links := by rfl
@[simp] theorem State.setPwm_lines : (s.setPwm n x).lines = s.lines := by rfl
@[simp] theorem State.setPwm_sap : (s.setPwm n x).sap = s.sap := by rfl
@[simp] theorem State.setPwm_net : (s.setPwm n x).net = s.net := by rfl
@[simp] theorem State.setPwm_pair : (s.setPwm n x).pair = s.pair := by rfl
@[simp] theorem State.setPwm_arb : (s.setPwm n x).arb = s.arb := by rfl
@[simp] theorem State.setPwm_listen : (s.setPwm n x).listen = s.listen := by rfl
@[simp] theorem State.setPwm_ring : (s.setPwm n x).ring = s.ring := by rfl
@[simp] theorem State.setPwm_readers : (s.setPwm n x).readers = s.readers := by rfl
@[simp] theorem State.setPwm_hk : (s.setPwm n x).hk = s.hk := by rfl
@[simp] theorem State.setPwm_host : (s.setPwm n x).host = s.host := by rfl
@[simp] theorem State.setPwm_boot : (s.setPwm n x).boot = s.boot := by rfl
@[simp] theorem State.setPwm_mem : (s.setPwm n x).mem = s.mem := by rfl
@[simp] theorem State.setPwm_pending : (s.setPwm n x).pending = s.pending := by rfl
end

/-! `State.setSap` -/
section
variable (p : Nat) (dir : SapDir) (x : SapDirSt)
@[simp] theorem State.setSap_now : (s.setSap p dir x).now = s.now := by rfl
@[simp] theorem State.setSap_ptpOffset : (s.setSap p dir x).ptpOffset = s.ptpOffset := by rfl
@[simp] theorem State.setSap_freeCtr : (s.setSap p dir x).freeCtr = s.freeCtr := by rfl
@[simp] theorem State.setSap_objs : (s.setSap p dir x).objs = s.objs := by rfl
@[simp] theorem State.setSap_blocks : (s.setSap p dir x).blocks = s.blocks := by rfl
@[simp] theorem State.setSap_rights : (s.setSap p dir x).rights = s.rights := by rfl
@[simp] theorem State.setSap_funcs : (s.setSap p dir x).funcs = s.funcs := by rfl
@[simp] theorem State.setSap_internal : (s.setSap p dir x).internal = s.internal := by rfl
@[simp] theorem State.setSap_hspi : (s.setSap p dir x).hspi = s.hspi := by rfl
@[simp] theorem State.setSap_twb0 : (s.setSap p dir x).twb0 = s.twb0 := by rfl
@[simp] theorem State.setSap_chain : (s.setSap p dir x).chain = s.chain := by rfl
@[simp] theorem State.setSap_turn : (s.setSap p dir x).turn = s.turn := by rfl
@[simp] theorem State.setSap_parts : (s.setSap p dir x).parts = s.parts := by rfl
@[simp] theorem State.setSap_journal : (s.setSap p dir x).journal = s.journal := by rfl
@[simp] theorem State.setSap_ms : (s.setSap p dir x).ms = s.ms := by rfl
@[simp] theorem State.setSap_gov : (s.setSap p dir x).gov = s.gov := by rfl
@[simp] theorem State.setSap_avs : (s.setSap p dir x).avs = s.avs := by rfl
@[simp] theorem State.setSap_clk : (s.setSap p dir x).clk = s.clk := by rfl
@[simp] theorem State.setSap_snap : (s.setSap p dir x).snap = s.snap := by rfl
@[simp] theorem State.setSap_counters : (s.setSap p dir x).counters = s.counters := by rfl
@[simp] theorem State.setSap_test : (s.setSap p dir x).test = s.test := by rfl
@[simp] theorem State.setSap_inputs : (s.setSap p dir x).inputs = s.inputs := by rfl
@[simp] theorem State.setSap_refs : (s.setSap p dir x).refs = s.refs := by rfl
@[simp] theorem State.setSap_phantom : (s.setSap p dir x).phantom = s.phantom := by rfl
@[simp] theorem State.setSap_router : (s.setSap p dir x).router = s.router := by rfl
@[simp] theorem State.setSap_lanes : (s.setSap p dir x).lanes = s.lanes := by rfl
@[simp] theorem State.setSap_slack : (s.setSap p dir x).slack = s.slack := by rfl
@[simp] theorem State.setSap_buses : (s.setSap p dir x).buses = s.buses := by rfl
@[simp] theorem State.setSap_meters : (s.setSap p dir x).meters = s.meters := by rfl
@[simp] theorem State.setSap_links : (s.setSap p dir x).links = s.links := by rfl
@[simp] theorem State.setSap_lines : (s.setSap p dir x).lines = s.lines := by rfl
@[simp] theorem State.setSap_outs : (s.setSap p dir x).outs = s.outs := by rfl
@[simp] theorem State.setSap_net : (s.setSap p dir x).net = s.net := by rfl
@[simp] theorem State.setSap_pair : (s.setSap p dir x).pair = s.pair := by rfl
@[simp] theorem State.setSap_arb : (s.setSap p dir x).arb = s.arb := by rfl
@[simp] theorem State.setSap_listen : (s.setSap p dir x).listen = s.listen := by rfl
@[simp] theorem State.setSap_ring : (s.setSap p dir x).ring = s.ring := by rfl
@[simp] theorem State.setSap_readers : (s.setSap p dir x).readers = s.readers := by rfl
@[simp] theorem State.setSap_hk : (s.setSap p dir x).hk = s.hk := by rfl
@[simp] theorem State.setSap_host : (s.setSap p dir x).host = s.host := by rfl
@[simp] theorem State.setSap_boot : (s.setSap p dir x).boot = s.boot := by rfl
@[simp] theorem State.setSap_mem : (s.setSap p dir x).mem = s.mem := by rfl
@[simp] theorem State.setSap_pending : (s.setSap p dir x).pending = s.pending := by rfl
end

/-! `State.setTx` -/
section
variable (f : Nat) (x : FlowTxSt)
@[simp] theorem State.setTx_now : (s.setTx f x).now = s.now := by rfl
@[simp] theorem State.setTx_ptpOffset : (s.setTx f x).ptpOffset = s.ptpOffset := by rfl
@[simp] theorem State.setTx_freeCtr : (s.setTx f x).freeCtr = s.freeCtr := by rfl
@[simp] theorem State.setTx_objs : (s.setTx f x).objs = s.objs := by rfl
@[simp] theorem State.setTx_blocks : (s.setTx f x).blocks = s.blocks := by rfl
@[simp] theorem State.setTx_rights : (s.setTx f x).rights = s.rights := by rfl
@[simp] theorem State.setTx_funcs : (s.setTx f x).funcs = s.funcs := by rfl
@[simp] theorem State.setTx_internal : (s.setTx f x).internal = s.internal := by rfl
@[simp] theorem State.setTx_hspi : (s.setTx f x).hspi = s.hspi := by rfl
@[simp] theorem State.setTx_twb0 : (s.setTx f x).twb0 = s.twb0 := by rfl
@[simp] theorem State.setTx_chain : (s.setTx f x).chain = s.chain := by rfl
@[simp] theorem State.setTx_turn : (s.setTx f x).turn = s.turn := by rfl
@[simp] theorem State.setTx_parts : (s.setTx f x).parts = s.parts := by rfl
@[simp] theorem State.setTx_journal : (s.setTx f x).journal = s.journal := by rfl
@[simp] theorem State.setTx_ms : (s.setTx f x).ms = s.ms := by rfl
@[simp] theorem State.setTx_gov : (s.setTx f x).gov = s.gov := by rfl
@[simp] theorem State.setTx_avs : (s.setTx f x).avs = s.avs := by rfl
@[simp] theorem State.setTx_clk : (s.setTx f x).clk = s.clk := by rfl
@[simp] theorem State.setTx_snap : (s.setTx f x).snap = s.snap := by rfl
@[simp] theorem State.setTx_counters : (s.setTx f x).counters = s.counters := by rfl
@[simp] theorem State.setTx_test : (s.setTx f x).test = s.test := by rfl
@[simp] theorem State.setTx_inputs : (s.setTx f x).inputs = s.inputs := by rfl
@[simp] theorem State.setTx_refs : (s.setTx f x).refs = s.refs := by rfl
@[simp] theorem State.setTx_phantom : (s.setTx f x).phantom = s.phantom := by rfl
@[simp] theorem State.setTx_router : (s.setTx f x).router = s.router := by rfl
@[simp] theorem State.setTx_lanes : (s.setTx f x).lanes = s.lanes := by rfl
@[simp] theorem State.setTx_slack : (s.setTx f x).slack = s.slack := by rfl
@[simp] theorem State.setTx_buses : (s.setTx f x).buses = s.buses := by rfl
@[simp] theorem State.setTx_meters : (s.setTx f x).meters = s.meters := by rfl
@[simp] theorem State.setTx_links : (s.setTx f x).links = s.links := by rfl
@[simp] theorem State.setTx_lines : (s.setTx f x).lines = s.lines := by rfl
@[simp] theorem State.setTx_outs : (s.setTx f x).outs = s.outs := by rfl
@[simp] theorem State.setTx_sap : (s.setTx f x).sap = s.sap := by rfl
@[simp] theorem State.setTx_pair : (s.setTx f x).pair = s.pair := by rfl
@[simp] theorem State.setTx_arb : (s.setTx f x).arb = s.arb := by rfl
@[simp] theorem State.setTx_listen : (s.setTx f x).listen = s.listen := by rfl
@[simp] theorem State.setTx_ring : (s.setTx f x).ring = s.ring := by rfl
@[simp] theorem State.setTx_readers : (s.setTx f x).readers = s.readers := by rfl
@[simp] theorem State.setTx_hk : (s.setTx f x).hk = s.hk := by rfl
@[simp] theorem State.setTx_host : (s.setTx f x).host = s.host := by rfl
@[simp] theorem State.setTx_boot : (s.setTx f x).boot = s.boot := by rfl
@[simp] theorem State.setTx_mem : (s.setTx f x).mem = s.mem := by rfl
@[simp] theorem State.setTx_pending : (s.setTx f x).pending = s.pending := by rfl
end

/-! `State.setRx` -/
section
variable (r : Nat) (x : FlowRxSt)
@[simp] theorem State.setRx_now : (s.setRx r x).now = s.now := by rfl
@[simp] theorem State.setRx_ptpOffset : (s.setRx r x).ptpOffset = s.ptpOffset := by rfl
@[simp] theorem State.setRx_freeCtr : (s.setRx r x).freeCtr = s.freeCtr := by rfl
@[simp] theorem State.setRx_objs : (s.setRx r x).objs = s.objs := by rfl
@[simp] theorem State.setRx_blocks : (s.setRx r x).blocks = s.blocks := by rfl
@[simp] theorem State.setRx_rights : (s.setRx r x).rights = s.rights := by rfl
@[simp] theorem State.setRx_funcs : (s.setRx r x).funcs = s.funcs := by rfl
@[simp] theorem State.setRx_internal : (s.setRx r x).internal = s.internal := by rfl
@[simp] theorem State.setRx_hspi : (s.setRx r x).hspi = s.hspi := by rfl
@[simp] theorem State.setRx_twb0 : (s.setRx r x).twb0 = s.twb0 := by rfl
@[simp] theorem State.setRx_chain : (s.setRx r x).chain = s.chain := by rfl
@[simp] theorem State.setRx_turn : (s.setRx r x).turn = s.turn := by rfl
@[simp] theorem State.setRx_parts : (s.setRx r x).parts = s.parts := by rfl
@[simp] theorem State.setRx_journal : (s.setRx r x).journal = s.journal := by rfl
@[simp] theorem State.setRx_ms : (s.setRx r x).ms = s.ms := by rfl
@[simp] theorem State.setRx_gov : (s.setRx r x).gov = s.gov := by rfl
@[simp] theorem State.setRx_avs : (s.setRx r x).avs = s.avs := by rfl
@[simp] theorem State.setRx_clk : (s.setRx r x).clk = s.clk := by rfl
@[simp] theorem State.setRx_snap : (s.setRx r x).snap = s.snap := by rfl
@[simp] theorem State.setRx_counters : (s.setRx r x).counters = s.counters := by rfl
@[simp] theorem State.setRx_test : (s.setRx r x).test = s.test := by rfl
@[simp] theorem State.setRx_inputs : (s.setRx r x).inputs = s.inputs := by rfl
@[simp] theorem State.setRx_refs : (s.setRx r x).refs = s.refs := by rfl
@[simp] theorem State.setRx_phantom : (s.setRx r x).phantom = s.phantom := by rfl
@[simp] theorem State.setRx_router : (s.setRx r x).router = s.router := by rfl
@[simp] theorem State.setRx_lanes : (s.setRx r x).lanes = s.lanes := by rfl
@[simp] theorem State.setRx_slack : (s.setRx r x).slack = s.slack := by rfl
@[simp] theorem State.setRx_buses : (s.setRx r x).buses = s.buses := by rfl
@[simp] theorem State.setRx_meters : (s.setRx r x).meters = s.meters := by rfl
@[simp] theorem State.setRx_links : (s.setRx r x).links = s.links := by rfl
@[simp] theorem State.setRx_lines : (s.setRx r x).lines = s.lines := by rfl
@[simp] theorem State.setRx_outs : (s.setRx r x).outs = s.outs := by rfl
@[simp] theorem State.setRx_sap : (s.setRx r x).sap = s.sap := by rfl
@[simp] theorem State.setRx_pair : (s.setRx r x).pair = s.pair := by rfl
@[simp] theorem State.setRx_arb : (s.setRx r x).arb = s.arb := by rfl
@[simp] theorem State.setRx_listen : (s.setRx r x).listen = s.listen := by rfl
@[simp] theorem State.setRx_ring : (s.setRx r x).ring = s.ring := by rfl
@[simp] theorem State.setRx_readers : (s.setRx r x).readers = s.readers := by rfl
@[simp] theorem State.setRx_hk : (s.setRx r x).hk = s.hk := by rfl
@[simp] theorem State.setRx_host : (s.setRx r x).host = s.host := by rfl
@[simp] theorem State.setRx_boot : (s.setRx r x).boot = s.boot := by rfl
@[simp] theorem State.setRx_mem : (s.setRx r x).mem = s.mem := by rfl
@[simp] theorem State.setRx_pending : (s.setRx r x).pending = s.pending := by rfl
end

/-! `State.setArb` -/
section
variable (i : Nat) (x : ArbPair)
@[simp] theorem State.setArb_now : (s.setArb i x).now = s.now := by rfl
@[simp] theorem State.setArb_ptpOffset : (s.setArb i x).ptpOffset = s.ptpOffset := by rfl
@[simp] theorem State.setArb_freeCtr : (s.setArb i x).freeCtr = s.freeCtr := by rfl
@[simp] theorem State.setArb_objs : (s.setArb i x).objs = s.objs := by rfl
@[simp] theorem State.setArb_blocks : (s.setArb i x).blocks = s.blocks := by rfl
@[simp] theorem State.setArb_rights : (s.setArb i x).rights = s.rights := by rfl
@[simp] theorem State.setArb_funcs : (s.setArb i x).funcs = s.funcs := by rfl
@[simp] theorem State.setArb_internal : (s.setArb i x).internal = s.internal := by rfl
@[simp] theorem State.setArb_hspi : (s.setArb i x).hspi = s.hspi := by rfl
@[simp] theorem State.setArb_twb0 : (s.setArb i x).twb0 = s.twb0 := by rfl
@[simp] theorem State.setArb_chain : (s.setArb i x).chain = s.chain := by rfl
@[simp] theorem State.setArb_turn : (s.setArb i x).turn = s.turn := by rfl
@[simp] theorem State.setArb_parts : (s.setArb i x).parts = s.parts := by rfl
@[simp] theorem State.setArb_journal : (s.setArb i x).journal = s.journal := by rfl
@[simp] theorem State.setArb_ms : (s.setArb i x).ms = s.ms := by rfl
@[simp] theorem State.setArb_gov : (s.setArb i x).gov = s.gov := by rfl
@[simp] theorem State.setArb_avs : (s.setArb i x).avs = s.avs := by rfl
@[simp] theorem State.setArb_clk : (s.setArb i x).clk = s.clk := by rfl
@[simp] theorem State.setArb_snap : (s.setArb i x).snap = s.snap := by rfl
@[simp] theorem State.setArb_counters : (s.setArb i x).counters = s.counters := by rfl
@[simp] theorem State.setArb_test : (s.setArb i x).test = s.test := by rfl
@[simp] theorem State.setArb_inputs : (s.setArb i x).inputs = s.inputs := by rfl
@[simp] theorem State.setArb_refs : (s.setArb i x).refs = s.refs := by rfl
@[simp] theorem State.setArb_phantom : (s.setArb i x).phantom = s.phantom := by rfl
@[simp] theorem State.setArb_router : (s.setArb i x).router = s.router := by rfl
@[simp] theorem State.setArb_lanes : (s.setArb i x).lanes = s.lanes := by rfl
@[simp] theorem State.setArb_slack : (s.setArb i x).slack = s.slack := by rfl
@[simp] theorem State.setArb_buses : (s.setArb i x).buses = s.buses := by rfl
@[simp] theorem State.setArb_meters : (s.setArb i x).meters = s.meters := by rfl
@[simp] theorem State.setArb_links : (s.setArb i x).links = s.links := by rfl
@[simp] theorem State.setArb_lines : (s.setArb i x).lines = s.lines := by rfl
@[simp] theorem State.setArb_outs : (s.setArb i x).outs = s.outs := by rfl
@[simp] theorem State.setArb_sap : (s.setArb i x).sap = s.sap := by rfl
@[simp] theorem State.setArb_net : (s.setArb i x).net = s.net := by rfl
@[simp] theorem State.setArb_pair : (s.setArb i x).pair = s.pair := by rfl
@[simp] theorem State.setArb_listen : (s.setArb i x).listen = s.listen := by rfl
@[simp] theorem State.setArb_ring : (s.setArb i x).ring = s.ring := by rfl
@[simp] theorem State.setArb_readers : (s.setArb i x).readers = s.readers := by rfl
@[simp] theorem State.setArb_hk : (s.setArb i x).hk = s.hk := by rfl
@[simp] theorem State.setArb_host : (s.setArb i x).host = s.host := by rfl
@[simp] theorem State.setArb_boot : (s.setArb i x).boot = s.boot := by rfl
@[simp] theorem State.setArb_mem : (s.setArb i x).mem = s.mem := by rfl
@[simp] theorem State.setArb_pending : (s.setArb i x).pending = s.pending := by rfl
end

/-! `State.setReader` -/
section
variable (r : Nat) (x : Reader)
@[simp] theorem State.setReader_now : (s.setReader r x).now = s.now := by rfl
@[simp] theorem State.setReader_ptpOffset : (s.setReader r x).ptpOffset = s.ptpOffset := by rfl
@[simp] theorem State.setReader_freeCtr : (s.setReader r x).freeCtr = s.freeCtr := by rfl
@[simp] theorem State.setReader_objs : (s.setReader r x).objs = s.objs := by rfl
@[simp] theorem State.setReader_blocks : (s.setReader r x).blocks = s.blocks := by rfl
@[simp] theorem State.setReader_rights : (s.setReader r x).rights = s.rights := by rfl
@[simp] theorem State.setReader_funcs : (s.setReader r x).funcs = s.funcs := by rfl
@[simp] theorem State.setReader_internal : (s.setReader r x).internal = s.internal := by rfl
@[simp] theorem State.setReader_hspi : (s.setReader r x).hspi = s.hspi := by rfl
@[simp] theorem State.setReader_twb0 : (s.setReader r x).twb0 = s.twb0 := by rfl
@[simp] theorem State.setReader_chain : (s.setReader r x).chain = s.chain := by rfl
@[simp] theorem State.setReader_turn : (s.setReader r x).turn = s.turn := by rfl
@[simp] theorem State.setReader_parts : (s.setReader r x).parts = s.parts := by rfl
@[simp] theorem State.setReader_journal : (s.setReader r x).journal = s.journal := by rfl
@[simp] theorem State.setReader_ms : (s.setReader r x).ms = s.ms := by rfl
@[simp] theorem State.setReader_gov : (s.setReader r x).gov = s.gov := by rfl
@[simp] theorem State.setReader_avs : (s.setReader r x).avs = s.avs := by rfl
@[simp] theorem State.setReader_clk : (s.setReader r x).clk = s.clk := by rfl
@[simp] theorem State.setReader_snap : (s.setReader r x).snap = s.snap := by rfl
@[simp] theorem State.setReader_counters : (s.setReader r x).counters = s.counters := by rfl
@[simp] theorem State.setReader_test : (s.setReader r x).test = s.test := by rfl
@[simp] theorem State.setReader_inputs : (s.setReader r x).inputs = s.inputs := by rfl
@[simp] theorem State.setReader_refs : (s.setReader r x).refs = s.refs := by rfl
@[simp] theorem State.setReader_phantom : (s.setReader r x).phantom = s.phantom := by rfl
@[simp] theorem State.setReader_router : (s.setReader r x).router = s.router := by rfl
@[simp] theorem State.setReader_lanes : (s.setReader r x).lanes = s.lanes := by rfl
@[simp] theorem State.setReader_slack : (s.setReader r x).slack = s.slack := by rfl
@[simp] theorem State.setReader_buses : (s.setReader r x).buses = s.buses := by rfl
@[simp] theorem State.setReader_meters : (s.setReader r x).meters = s.meters := by rfl
@[simp] theorem State.setReader_links : (s.setReader r x).links = s.links := by rfl
@[simp] theorem State.setReader_lines : (s.setReader r x).lines = s.lines := by rfl
@[simp] theorem State.setReader_outs : (s.setReader r x).outs = s.outs := by rfl
@[simp] theorem State.setReader_sap : (s.setReader r x).sap = s.sap := by rfl
@[simp] theorem State.setReader_net : (s.setReader r x).net = s.net := by rfl
@[simp] theorem State.setReader_pair : (s.setReader r x).pair = s.pair := by rfl
@[simp] theorem State.setReader_arb : (s.setReader r x).arb = s.arb := by rfl
@[simp] theorem State.setReader_listen : (s.setReader r x).listen = s.listen := by rfl
@[simp] theorem State.setReader_ring : (s.setReader r x).ring = s.ring := by rfl
@[simp] theorem State.setReader_hk : (s.setReader r x).hk = s.hk := by rfl
@[simp] theorem State.setReader_host : (s.setReader r x).host = s.host := by rfl
@[simp] theorem State.setReader_boot : (s.setReader r x).boot = s.boot := by rfl
@[simp] theorem State.setReader_mem : (s.setReader r x).mem = s.mem := by rfl
@[simp] theorem State.setReader_pending : (s.setReader r x).pending = s.pending := by rfl
end

/-! `State.setCap` -/
section
variable (c : Nat) (x : CapBuf)
@[simp] theorem State.setCap_now : (s.setCap c x).now = s.now := by rfl
@[simp] theorem State.setCap_ptpOffset : (s.setCap c x).ptpOffset = s.ptpOffset := by rfl
@[simp] theorem State.setCap_freeCtr : (s.setCap c x).freeCtr = s.freeCtr := by rfl
@[simp] theorem State.setCap_objs : (s.setCap c x).objs = s.objs := by rfl
@[simp] theorem State.setCap_blocks : (s.setCap c x).blocks = s.blocks := by rfl
@[simp] theorem State.setCap_rights : (s.setCap c x).rights = s.rights := by rfl
@[simp] theorem State.setCap_funcs : (s.setCap c x).funcs = s.funcs := by rfl
@[simp] theorem State.setCap_internal : (s.setCap c x).internal = s.internal := by rfl
@[simp] theorem State.setCap_hspi : (s.setCap c x).hspi = s.hspi := by rfl
@[simp] theorem State.setCap_twb0 : (s.setCap c x).twb0 = s.twb0 := by rfl
@[simp] theorem State.setCap_chain : (s.setCap c x).chain = s.chain := by rfl
@[simp] theorem State.setCap_turn : (s.setCap c x).turn = s.turn := by rfl
@[simp] theorem State.setCap_parts : (s.setCap c x).parts = s.parts := by rfl
@[simp] theorem State.setCap_journal : (s.setCap c x).journal = s.journal := by rfl
@[simp] theorem State.setCap_ms : (s.setCap c x).ms = s.ms := by rfl
@[simp] theorem State.setCap_gov : (s.setCap c x).gov = s.gov := by rfl
@[simp] theorem State.setCap_avs : (s.setCap c x).avs = s.avs := by rfl
@[simp] theorem State.setCap_clk : (s.setCap c x).clk = s.clk := by rfl
@[simp] theorem State.setCap_snap : (s.setCap c x).snap = s.snap := by rfl
@[simp] theorem State.setCap_counters : (s.setCap c x).counters = s.counters := by rfl
@[simp] theorem State.setCap_test : (s.setCap c x).test = s.test := by rfl
@[simp] theorem State.setCap_inputs : (s.setCap c x).inputs = s.inputs := by rfl
@[simp] theorem State.setCap_refs : (s.setCap c x).refs = s.refs := by rfl
@[simp] theorem State.setCap_phantom : (s.setCap c x).phantom = s.phantom := by rfl
@[simp] theorem State.setCap_router : (s.setCap c x).router = s.router := by rfl
@[simp] theorem State.setCap_lanes : (s.setCap c x).lanes = s.lanes := by rfl
@[simp] theorem State.setCap_slack : (s.setCap c x).slack = s.slack := by rfl
@[simp] theorem State.setCap_buses : (s.setCap c x).buses = s.buses := by rfl
@[simp] theorem State.setCap_meters : (s.setCap c x).meters = s.meters := by rfl
@[simp] theorem State.setCap_links : (s.setCap c x).links = s.links := by rfl
@[simp] theorem State.setCap_lines : (s.setCap c x).lines = s.lines := by rfl
@[simp] theorem State.setCap_outs : (s.setCap c x).outs = s.outs := by rfl
@[simp] theorem State.setCap_sap : (s.setCap c x).sap = s.sap := by rfl
@[simp] theorem State.setCap_net : (s.setCap c x).net = s.net := by rfl
@[simp] theorem State.setCap_pair : (s.setCap c x).pair = s.pair := by rfl
@[simp] theorem State.setCap_arb : (s.setCap c x).arb = s.arb := by rfl
@[simp] theorem State.setCap_listen : (s.setCap c x).listen = s.listen := by rfl
@[simp] theorem State.setCap_ring : (s.setCap c x).ring = s.ring := by rfl
@[simp] theorem State.setCap_readers : (s.setCap c x).readers = s.readers := by rfl
@[simp] theorem State.setCap_hk : (s.setCap c x).hk = s.hk := by rfl
@[simp] theorem State.setCap_host : (s.setCap c x).host = s.host := by rfl
@[simp] theorem State.setCap_boot : (s.setCap c x).boot = s.boot := by rfl
@[simp] theorem State.setCap_pending : (s.setCap c x).pending = s.pending := by rfl
end

/-! `State.setPlay` -/
section
variable (c : Nat) (x : PlayCh)
@[simp] theorem State.setPlay_now : (s.setPlay c x).now = s.now := by rfl
@[simp] theorem State.setPlay_ptpOffset : (s.setPlay c x).ptpOffset = s.ptpOffset := by rfl
@[simp] theorem State.setPlay_freeCtr : (s.setPlay c x).freeCtr = s.freeCtr := by rfl
@[simp] theorem State.setPlay_objs : (s.setPlay c x).objs = s.objs := by rfl
@[simp] theorem State.setPlay_blocks : (s.setPlay c x).blocks = s.blocks := by rfl
@[simp] theorem State.setPlay_rights : (s.setPlay c x).rights = s.rights := by rfl
@[simp] theorem State.setPlay_funcs : (s.setPlay c x).funcs = s.funcs := by rfl
@[simp] theorem State.setPlay_internal : (s.setPlay c x).internal = s.internal := by rfl
@[simp] theorem State.setPlay_hspi : (s.setPlay c x).hspi = s.hspi := by rfl
@[simp] theorem State.setPlay_twb0 : (s.setPlay c x).twb0 = s.twb0 := by rfl
@[simp] theorem State.setPlay_chain : (s.setPlay c x).chain = s.chain := by rfl
@[simp] theorem State.setPlay_turn : (s.setPlay c x).turn = s.turn := by rfl
@[simp] theorem State.setPlay_parts : (s.setPlay c x).parts = s.parts := by rfl
@[simp] theorem State.setPlay_journal : (s.setPlay c x).journal = s.journal := by rfl
@[simp] theorem State.setPlay_ms : (s.setPlay c x).ms = s.ms := by rfl
@[simp] theorem State.setPlay_gov : (s.setPlay c x).gov = s.gov := by rfl
@[simp] theorem State.setPlay_avs : (s.setPlay c x).avs = s.avs := by rfl
@[simp] theorem State.setPlay_clk : (s.setPlay c x).clk = s.clk := by rfl
@[simp] theorem State.setPlay_snap : (s.setPlay c x).snap = s.snap := by rfl
@[simp] theorem State.setPlay_counters : (s.setPlay c x).counters = s.counters := by rfl
@[simp] theorem State.setPlay_test : (s.setPlay c x).test = s.test := by rfl
@[simp] theorem State.setPlay_inputs : (s.setPlay c x).inputs = s.inputs := by rfl
@[simp] theorem State.setPlay_refs : (s.setPlay c x).refs = s.refs := by rfl
@[simp] theorem State.setPlay_phantom : (s.setPlay c x).phantom = s.phantom := by rfl
@[simp] theorem State.setPlay_router : (s.setPlay c x).router = s.router := by rfl
@[simp] theorem State.setPlay_lanes : (s.setPlay c x).lanes = s.lanes := by rfl
@[simp] theorem State.setPlay_slack : (s.setPlay c x).slack = s.slack := by rfl
@[simp] theorem State.setPlay_buses : (s.setPlay c x).buses = s.buses := by rfl
@[simp] theorem State.setPlay_meters : (s.setPlay c x).meters = s.meters := by rfl
@[simp] theorem State.setPlay_links : (s.setPlay c x).links = s.links := by rfl
@[simp] theorem State.setPlay_lines : (s.setPlay c x).lines = s.lines := by rfl
@[simp] theorem State.setPlay_outs : (s.setPlay c x).outs = s.outs := by rfl
@[simp] theorem State.setPlay_sap : (s.setPlay c x).sap = s.sap := by rfl
@[simp] theorem State.setPlay_net : (s.setPlay c x).net = s.net := by rfl
@[simp] theorem State.setPlay_pair : (s.setPlay c x).pair = s.pair := by rfl
@[simp] theorem State.setPlay_arb : (s.setPlay c x).arb = s.arb := by rfl
@[simp] theorem State.setPlay_listen : (s.setPlay c x).listen = s.listen := by rfl
@[simp] theorem State.setPlay_ring : (s.setPlay c x).ring = s.ring := by rfl
@[simp] theorem State.setPlay_readers : (s.setPlay c x).readers = s.readers := by rfl
@[simp] theorem State.setPlay_hk : (s.setPlay c x).hk = s.hk := by rfl
@[simp] theorem State.setPlay_host : (s.setPlay c x).host = s.host := by rfl
@[simp] theorem State.setPlay_boot : (s.setPlay c x).boot = s.boot := by rfl
@[simp] theorem State.setPlay_pending : (s.setPlay c x).pending = s.pending := by rfl
end

/-! `State.setTransport` -/
section
variable (t : Nat) (x : Transport)
@[simp] theorem State.setTransport_now : (s.setTransport t x).now = s.now := by rfl
@[simp] theorem State.setTransport_ptpOffset : (s.setTransport t x).ptpOffset = s.ptpOffset := by rfl
@[simp] theorem State.setTransport_freeCtr : (s.setTransport t x).freeCtr = s.freeCtr := by rfl
@[simp] theorem State.setTransport_objs : (s.setTransport t x).objs = s.objs := by rfl
@[simp] theorem State.setTransport_blocks : (s.setTransport t x).blocks = s.blocks := by rfl
@[simp] theorem State.setTransport_rights : (s.setTransport t x).rights = s.rights := by rfl
@[simp] theorem State.setTransport_funcs : (s.setTransport t x).funcs = s.funcs := by rfl
@[simp] theorem State.setTransport_internal : (s.setTransport t x).internal = s.internal := by rfl
@[simp] theorem State.setTransport_hspi : (s.setTransport t x).hspi = s.hspi := by rfl
@[simp] theorem State.setTransport_twb0 : (s.setTransport t x).twb0 = s.twb0 := by rfl
@[simp] theorem State.setTransport_chain : (s.setTransport t x).chain = s.chain := by rfl
@[simp] theorem State.setTransport_turn : (s.setTransport t x).turn = s.turn := by rfl
@[simp] theorem State.setTransport_parts : (s.setTransport t x).parts = s.parts := by rfl
@[simp] theorem State.setTransport_journal : (s.setTransport t x).journal = s.journal := by rfl
@[simp] theorem State.setTransport_ms : (s.setTransport t x).ms = s.ms := by rfl
@[simp] theorem State.setTransport_gov : (s.setTransport t x).gov = s.gov := by rfl
@[simp] theorem State.setTransport_avs : (s.setTransport t x).avs = s.avs := by rfl
@[simp] theorem State.setTransport_clk : (s.setTransport t x).clk = s.clk := by rfl
@[simp] theorem State.setTransport_snap : (s.setTransport t x).snap = s.snap := by rfl
@[simp] theorem State.setTransport_counters : (s.setTransport t x).counters = s.counters := by rfl
@[simp] theorem State.setTransport_test : (s.setTransport t x).test = s.test := by rfl
@[simp] theorem State.setTransport_inputs : (s.setTransport t x).inputs = s.inputs := by rfl
@[simp] theorem State.setTransport_refs : (s.setTransport t x).refs = s.refs := by rfl
@[simp] theorem State.setTransport_phantom : (s.setTransport t x).phantom = s.phantom := by rfl
@[simp] theorem State.setTransport_router : (s.setTransport t x).router = s.router := by rfl
@[simp] theorem State.setTransport_lanes : (s.setTransport t x).lanes = s.lanes := by rfl
@[simp] theorem State.setTransport_slack : (s.setTransport t x).slack = s.slack := by rfl
@[simp] theorem State.setTransport_buses : (s.setTransport t x).buses = s.buses := by rfl
@[simp] theorem State.setTransport_meters : (s.setTransport t x).meters = s.meters := by rfl
@[simp] theorem State.setTransport_links : (s.setTransport t x).links = s.links := by rfl
@[simp] theorem State.setTransport_lines : (s.setTransport t x).lines = s.lines := by rfl
@[simp] theorem State.setTransport_outs : (s.setTransport t x).outs = s.outs := by rfl
@[simp] theorem State.setTransport_sap : (s.setTransport t x).sap = s.sap := by rfl
@[simp] theorem State.setTransport_net : (s.setTransport t x).net = s.net := by rfl
@[simp] theorem State.setTransport_pair : (s.setTransport t x).pair = s.pair := by rfl
@[simp] theorem State.setTransport_arb : (s.setTransport t x).arb = s.arb := by rfl
@[simp] theorem State.setTransport_listen : (s.setTransport t x).listen = s.listen := by rfl
@[simp] theorem State.setTransport_ring : (s.setTransport t x).ring = s.ring := by rfl
@[simp] theorem State.setTransport_readers : (s.setTransport t x).readers = s.readers := by rfl
@[simp] theorem State.setTransport_hk : (s.setTransport t x).hk = s.hk := by rfl
@[simp] theorem State.setTransport_host : (s.setTransport t x).host = s.host := by rfl
@[simp] theorem State.setTransport_boot : (s.setTransport t x).boot = s.boot := by rfl
@[simp] theorem State.setTransport_pending : (s.setTransport t x).pending = s.pending := by rfl
end

/-! `State.setMux` -/
section
variable (k : Nat) (x : MuxState)
@[simp] theorem State.setMux_now : (s.setMux k x).now = s.now := by rfl
@[simp] theorem State.setMux_ptpOffset : (s.setMux k x).ptpOffset = s.ptpOffset := by rfl
@[simp] theorem State.setMux_freeCtr : (s.setMux k x).freeCtr = s.freeCtr := by rfl
@[simp] theorem State.setMux_objs : (s.setMux k x).objs = s.objs := by rfl
@[simp] theorem State.setMux_blocks : (s.setMux k x).blocks = s.blocks := by rfl
@[simp] theorem State.setMux_rights : (s.setMux k x).rights = s.rights := by rfl
@[simp] theorem State.setMux_funcs : (s.setMux k x).funcs = s.funcs := by rfl
@[simp] theorem State.setMux_internal : (s.setMux k x).internal = s.internal := by rfl
@[simp] theorem State.setMux_hspi : (s.setMux k x).hspi = s.hspi := by rfl
@[simp] theorem State.setMux_twb0 : (s.setMux k x).twb0 = s.twb0 := by rfl
@[simp] theorem State.setMux_chain : (s.setMux k x).chain = s.chain := by rfl
@[simp] theorem State.setMux_turn : (s.setMux k x).turn = s.turn := by rfl
@[simp] theorem State.setMux_parts : (s.setMux k x).parts = s.parts := by rfl
@[simp] theorem State.setMux_journal : (s.setMux k x).journal = s.journal := by rfl
@[simp] theorem State.setMux_ms : (s.setMux k x).ms = s.ms := by rfl
@[simp] theorem State.setMux_gov : (s.setMux k x).gov = s.gov := by rfl
@[simp] theorem State.setMux_avs : (s.setMux k x).avs = s.avs := by rfl
@[simp] theorem State.setMux_snap : (s.setMux k x).snap = s.snap := by rfl
@[simp] theorem State.setMux_counters : (s.setMux k x).counters = s.counters := by rfl
@[simp] theorem State.setMux_test : (s.setMux k x).test = s.test := by rfl
@[simp] theorem State.setMux_inputs : (s.setMux k x).inputs = s.inputs := by rfl
@[simp] theorem State.setMux_refs : (s.setMux k x).refs = s.refs := by rfl
@[simp] theorem State.setMux_phantom : (s.setMux k x).phantom = s.phantom := by rfl
@[simp] theorem State.setMux_router : (s.setMux k x).router = s.router := by rfl
@[simp] theorem State.setMux_lanes : (s.setMux k x).lanes = s.lanes := by rfl
@[simp] theorem State.setMux_slack : (s.setMux k x).slack = s.slack := by rfl
@[simp] theorem State.setMux_buses : (s.setMux k x).buses = s.buses := by rfl
@[simp] theorem State.setMux_meters : (s.setMux k x).meters = s.meters := by rfl
@[simp] theorem State.setMux_links : (s.setMux k x).links = s.links := by rfl
@[simp] theorem State.setMux_lines : (s.setMux k x).lines = s.lines := by rfl
@[simp] theorem State.setMux_outs : (s.setMux k x).outs = s.outs := by rfl
@[simp] theorem State.setMux_sap : (s.setMux k x).sap = s.sap := by rfl
@[simp] theorem State.setMux_net : (s.setMux k x).net = s.net := by rfl
@[simp] theorem State.setMux_pair : (s.setMux k x).pair = s.pair := by rfl
@[simp] theorem State.setMux_arb : (s.setMux k x).arb = s.arb := by rfl
@[simp] theorem State.setMux_listen : (s.setMux k x).listen = s.listen := by rfl
@[simp] theorem State.setMux_ring : (s.setMux k x).ring = s.ring := by rfl
@[simp] theorem State.setMux_readers : (s.setMux k x).readers = s.readers := by rfl
@[simp] theorem State.setMux_hk : (s.setMux k x).hk = s.hk := by rfl
@[simp] theorem State.setMux_host : (s.setMux k x).host = s.host := by rfl
@[simp] theorem State.setMux_boot : (s.setMux k x).boot = s.boot := by rfl
@[simp] theorem State.setMux_mem : (s.setMux k x).mem = s.mem := by rfl
@[simp] theorem State.setMux_pending : (s.setMux k x).pending = s.pending := by rfl
end

/-! `State.setCko` -/
section
variable (n : Nat) (x : CkoSt)
@[simp] theorem State.setCko_now : (s.setCko n x).now = s.now := by rfl
@[simp] theorem State.setCko_ptpOffset : (s.setCko n x).ptpOffset = s.ptpOffset := by rfl
@[simp] theorem State.setCko_freeCtr : (s.setCko n x).freeCtr = s.freeCtr := by rfl
@[simp] theorem State.setCko_objs : (s.setCko n x).objs = s.objs := by rfl
@[simp] theorem State.setCko_blocks : (s.setCko n x).blocks = s.blocks := by rfl
@[simp] theorem State.setCko_rights : (s.setCko n x).rights = s.rights := by rfl
@[simp] theorem State.setCko_funcs : (s.setCko n x).funcs = s.funcs := by rfl
@[simp] theorem State.setCko_internal : (s.setCko n x).internal = s.internal := by rfl
@[simp] theorem State.setCko_hspi : (s.setCko n x).hspi = s.hspi := by rfl
@[simp] theorem State.setCko_twb0 : (s.setCko n x).twb0 = s.twb0 := by rfl
@[simp] theorem State.setCko_chain : (s.setCko n x).chain = s.chain := by rfl
@[simp] theorem State.setCko_turn : (s.setCko n x).turn = s.turn := by rfl
@[simp] theorem State.setCko_parts : (s.setCko n x).parts = s.parts := by rfl
@[simp] theorem State.setCko_journal : (s.setCko n x).journal = s.journal := by rfl
@[simp] theorem State.setCko_ms : (s.setCko n x).ms = s.ms := by rfl
@[simp] theorem State.setCko_gov : (s.setCko n x).gov = s.gov := by rfl
@[simp] theorem State.setCko_avs : (s.setCko n x).avs = s.avs := by rfl
@[simp] theorem State.setCko_snap : (s.setCko n x).snap = s.snap := by rfl
@[simp] theorem State.setCko_counters : (s.setCko n x).counters = s.counters := by rfl
@[simp] theorem State.setCko_test : (s.setCko n x).test = s.test := by rfl
@[simp] theorem State.setCko_inputs : (s.setCko n x).inputs = s.inputs := by rfl
@[simp] theorem State.setCko_refs : (s.setCko n x).refs = s.refs := by rfl
@[simp] theorem State.setCko_phantom : (s.setCko n x).phantom = s.phantom := by rfl
@[simp] theorem State.setCko_router : (s.setCko n x).router = s.router := by rfl
@[simp] theorem State.setCko_lanes : (s.setCko n x).lanes = s.lanes := by rfl
@[simp] theorem State.setCko_slack : (s.setCko n x).slack = s.slack := by rfl
@[simp] theorem State.setCko_buses : (s.setCko n x).buses = s.buses := by rfl
@[simp] theorem State.setCko_meters : (s.setCko n x).meters = s.meters := by rfl
@[simp] theorem State.setCko_links : (s.setCko n x).links = s.links := by rfl
@[simp] theorem State.setCko_lines : (s.setCko n x).lines = s.lines := by rfl
@[simp] theorem State.setCko_outs : (s.setCko n x).outs = s.outs := by rfl
@[simp] theorem State.setCko_sap : (s.setCko n x).sap = s.sap := by rfl
@[simp] theorem State.setCko_net : (s.setCko n x).net = s.net := by rfl
@[simp] theorem State.setCko_pair : (s.setCko n x).pair = s.pair := by rfl
@[simp] theorem State.setCko_arb : (s.setCko n x).arb = s.arb := by rfl
@[simp] theorem State.setCko_listen : (s.setCko n x).listen = s.listen := by rfl
@[simp] theorem State.setCko_ring : (s.setCko n x).ring = s.ring := by rfl
@[simp] theorem State.setCko_readers : (s.setCko n x).readers = s.readers := by rfl
@[simp] theorem State.setCko_hk : (s.setCko n x).hk = s.hk := by rfl
@[simp] theorem State.setCko_host : (s.setCko n x).host = s.host := by rfl
@[simp] theorem State.setCko_boot : (s.setCko n x).boot = s.boot := by rfl
@[simp] theorem State.setCko_mem : (s.setCko n x).mem = s.mem := by rfl
@[simp] theorem State.setCko_pending : (s.setCko n x).pending = s.pending := by rfl
end

/-! `State.setCounter` -/
section
variable (n : Nat) (x : Counter)
@[simp] theorem State.setCounter_now : (s.setCounter n x).now = s.now := by rfl
@[simp] theorem State.setCounter_ptpOffset : (s.setCounter n x).ptpOffset = s.ptpOffset := by rfl
@[simp] theorem State.setCounter_freeCtr : (s.setCounter n x).freeCtr = s.freeCtr := by rfl
@[simp] theorem State.setCounter_objs : (s.setCounter n x).objs = s.objs := by rfl
@[simp] theorem State.setCounter_blocks : (s.setCounter n x).blocks = s.blocks := by rfl
@[simp] theorem State.setCounter_rights : (s.setCounter n x).rights = s.rights := by rfl
@[simp] theorem State.setCounter_funcs : (s.setCounter n x).funcs = s.funcs := by rfl
@[simp] theorem State.setCounter_internal : (s.setCounter n x).internal = s.internal := by rfl
@[simp] theorem State.setCounter_hspi : (s.setCounter n x).hspi = s.hspi := by rfl
@[simp] theorem State.setCounter_twb0 : (s.setCounter n x).twb0 = s.twb0 := by rfl
@[simp] theorem State.setCounter_chain : (s.setCounter n x).chain = s.chain := by rfl
@[simp] theorem State.setCounter_turn : (s.setCounter n x).turn = s.turn := by rfl
@[simp] theorem State.setCounter_parts : (s.setCounter n x).parts = s.parts := by rfl
@[simp] theorem State.setCounter_journal : (s.setCounter n x).journal = s.journal := by rfl
@[simp] theorem State.setCounter_ms : (s.setCounter n x).ms = s.ms := by rfl
@[simp] theorem State.setCounter_gov : (s.setCounter n x).gov = s.gov := by rfl
@[simp] theorem State.setCounter_avs : (s.setCounter n x).avs = s.avs := by rfl
@[simp] theorem State.setCounter_clk : (s.setCounter n x).clk = s.clk := by rfl
@[simp] theorem State.setCounter_snap : (s.setCounter n x).snap = s.snap := by rfl
@[simp] theorem State.setCounter_test : (s.setCounter n x).test = s.test := by rfl
@[simp] theorem State.setCounter_inputs : (s.setCounter n x).inputs = s.inputs := by rfl
@[simp] theorem State.setCounter_refs : (s.setCounter n x).refs = s.refs := by rfl
@[simp] theorem State.setCounter_phantom : (s.setCounter n x).phantom = s.phantom := by rfl
@[simp] theorem State.setCounter_router : (s.setCounter n x).router = s.router := by rfl
@[simp] theorem State.setCounter_lanes : (s.setCounter n x).lanes = s.lanes := by rfl
@[simp] theorem State.setCounter_slack : (s.setCounter n x).slack = s.slack := by rfl
@[simp] theorem State.setCounter_buses : (s.setCounter n x).buses = s.buses := by rfl
@[simp] theorem State.setCounter_meters : (s.setCounter n x).meters = s.meters := by rfl
@[simp] theorem State.setCounter_links : (s.setCounter n x).links = s.links := by rfl
@[simp] theorem State.setCounter_lines : (s.setCounter n x).lines = s.lines := by rfl
@[simp] theorem State.setCounter_outs : (s.setCounter n x).outs = s.outs := by rfl
@[simp] theorem State.setCounter_sap : (s.setCounter n x).sap = s.sap := by rfl
@[simp] theorem State.setCounter_net : (s.setCounter n x).net = s.net := by rfl
@[simp] theorem State.setCounter_pair : (s.setCounter n x).pair = s.pair := by rfl
@[simp] theorem State.setCounter_arb : (s.setCounter n x).arb = s.arb := by rfl
@[simp] theorem State.setCounter_listen : (s.setCounter n x).listen = s.listen := by rfl
@[simp] theorem State.setCounter_ring : (s.setCounter n x).ring = s.ring := by rfl
@[simp] theorem State.setCounter_readers : (s.setCounter n x).readers = s.readers := by rfl
@[simp] theorem State.setCounter_hk : (s.setCounter n x).hk = s.hk := by rfl
@[simp] theorem State.setCounter_host : (s.setCounter n x).host = s.host := by rfl
@[simp] theorem State.setCounter_boot : (s.setCounter n x).boot = s.boot := by rfl
@[simp] theorem State.setCounter_mem : (s.setCounter n x).mem = s.mem := by rfl
@[simp] theorem State.setCounter_pending : (s.setCounter n x).pending = s.pending := by rfl
end

/-! `State.mapMs` -/
section
variable (g : ModeState → ModeState)
@[simp] theorem State.mapMs_now : (s.mapMs g).now = s.now := by rfl
@[simp] theorem State.mapMs_ptpOffset : (s.mapMs g).ptpOffset = s.ptpOffset := by rfl
@[simp] theorem State.mapMs_freeCtr : (s.mapMs g).freeCtr = s.freeCtr := by rfl
@[simp] theorem State.mapMs_objs : (s.mapMs g).objs = s.objs := by rfl
@[simp] theorem State.mapMs_blocks : (s.mapMs g).blocks = s.blocks := by rfl
@[simp] theorem State.mapMs_rights : (s.mapMs g).rights = s.rights := by rfl
@[simp] theorem State.mapMs_funcs : (s.mapMs g).funcs = s.funcs := by rfl
@[simp] theorem State.mapMs_internal : (s.mapMs g).internal = s.internal := by rfl
@[simp] theorem State.mapMs_hspi : (s.mapMs g).hspi = s.hspi := by rfl
@[simp] theorem State.mapMs_twb0 : (s.mapMs g).twb0 = s.twb0 := by rfl
@[simp] theorem State.mapMs_chain : (s.mapMs g).chain = s.chain := by rfl
@[simp] theorem State.mapMs_turn : (s.mapMs g).turn = s.turn := by rfl
@[simp] theorem State.mapMs_parts : (s.mapMs g).parts = s.parts := by rfl
@[simp] theorem State.mapMs_journal : (s.mapMs g).journal = s.journal := by rfl
@[simp] theorem State.mapMs_gov : (s.mapMs g).gov = s.gov := by rfl
@[simp] theorem State.mapMs_avs : (s.mapMs g).avs = s.avs := by rfl
@[simp] theorem State.mapMs_clk : (s.mapMs g).clk = s.clk := by rfl
@[simp] theorem State.mapMs_snap : (s.mapMs g).snap = s.snap := by rfl
@[simp] theorem State.mapMs_counters : (s.mapMs g).counters = s.counters := by rfl
@[simp] theorem State.mapMs_test : (s.mapMs g).test = s.test := by rfl
@[simp] theorem State.mapMs_inputs : (s.mapMs g).inputs = s.inputs := by rfl
@[simp] theorem State.mapMs_refs : (s.mapMs g).refs = s.refs := by rfl
@[simp] theorem State.mapMs_phantom : (s.mapMs g).phantom = s.phantom := by rfl
@[simp] theorem State.mapMs_router : (s.mapMs g).router = s.router := by rfl
@[simp] theorem State.mapMs_lanes : (s.mapMs g).lanes = s.lanes := by rfl
@[simp] theorem State.mapMs_slack : (s.mapMs g).slack = s.slack := by rfl
@[simp] theorem State.mapMs_buses : (s.mapMs g).buses = s.buses := by rfl
@[simp] theorem State.mapMs_meters : (s.mapMs g).meters = s.meters := by rfl
@[simp] theorem State.mapMs_links : (s.mapMs g).links = s.links := by rfl
@[simp] theorem State.mapMs_lines : (s.mapMs g).lines = s.lines := by rfl
@[simp] theorem State.mapMs_outs : (s.mapMs g).outs = s.outs := by rfl
@[simp] theorem State.mapMs_sap : (s.mapMs g).sap = s.sap := by rfl
@[simp] theorem State.mapMs_net : (s.mapMs g).net = s.net := by rfl
@[simp] theorem State.mapMs_pair : (s.mapMs g).pair = s.pair := by rfl
@[simp] theorem State.mapMs_arb : (s.mapMs g).arb = s.arb := by rfl
@[simp] theorem State.mapMs_listen : (s.mapMs g).listen = s.listen := by rfl
@[simp] theorem State.mapMs_ring : (s.mapMs g).ring = s.ring := by rfl
@[simp] theorem State.mapMs_readers : (s.mapMs g).readers = s.readers := by rfl
@[simp] theorem State.mapMs_hk : (s.mapMs g).hk = s.hk := by rfl
@[simp] theorem State.mapMs_host : (s.mapMs g).host = s.host := by rfl
@[simp] theorem State.mapMs_boot : (s.mapMs g).boot = s.boot := by rfl
@[simp] theorem State.mapMs_mem : (s.mapMs g).mem = s.mem := by rfl
@[simp] theorem State.mapMs_pending : (s.mapMs g).pending = s.pending := by rfl
end

/-! `State.mapNet` -/
section
variable (g : Net → Net)
@[simp] theorem State.mapNet_now : (s.mapNet g).now = s.now := by rfl
@[simp] theorem State.mapNet_ptpOffset : (s.mapNet g).ptpOffset = s.ptpOffset := by rfl
@[simp] theorem State.mapNet_freeCtr : (s.mapNet g).freeCtr = s.freeCtr := by rfl
@[simp] theorem State.mapNet_objs : (s.mapNet g).objs = s.objs := by rfl
@[simp] theorem State.mapNet_blocks : (s.mapNet g).blocks = s.blocks := by rfl
@[simp] theorem State.mapNet_rights : (s.mapNet g).rights = s.rights := by rfl
@[simp] theorem State.mapNet_funcs : (s.mapNet g).funcs = s.funcs := by rfl
@[simp] theorem State.mapNet_internal : (s.mapNet g).internal = s.internal := by rfl
@[simp] theorem State.mapNet_hspi : (s.mapNet g).hspi = s.hspi := by rfl
@[simp] theorem State.mapNet_twb0 : (s.mapNet g).twb0 = s.twb0 := by rfl
@[simp] theorem State.mapNet_chain : (s.mapNet g).chain = s.chain := by rfl
@[simp] theorem State.mapNet_turn : (s.mapNet g).turn = s.turn := by rfl
@[simp] theorem State.mapNet_parts : (s.mapNet g).parts = s.parts := by rfl
@[simp] theorem State.mapNet_journal : (s.mapNet g).journal = s.journal := by rfl
@[simp] theorem State.mapNet_ms : (s.mapNet g).ms = s.ms := by rfl
@[simp] theorem State.mapNet_gov : (s.mapNet g).gov = s.gov := by rfl
@[simp] theorem State.mapNet_avs : (s.mapNet g).avs = s.avs := by rfl
@[simp] theorem State.mapNet_clk : (s.mapNet g).clk = s.clk := by rfl
@[simp] theorem State.mapNet_snap : (s.mapNet g).snap = s.snap := by rfl
@[simp] theorem State.mapNet_counters : (s.mapNet g).counters = s.counters := by rfl
@[simp] theorem State.mapNet_test : (s.mapNet g).test = s.test := by rfl
@[simp] theorem State.mapNet_inputs : (s.mapNet g).inputs = s.inputs := by rfl
@[simp] theorem State.mapNet_refs : (s.mapNet g).refs = s.refs := by rfl
@[simp] theorem State.mapNet_phantom : (s.mapNet g).phantom = s.phantom := by rfl
@[simp] theorem State.mapNet_router : (s.mapNet g).router = s.router := by rfl
@[simp] theorem State.mapNet_lanes : (s.mapNet g).lanes = s.lanes := by rfl
@[simp] theorem State.mapNet_slack : (s.mapNet g).slack = s.slack := by rfl
@[simp] theorem State.mapNet_buses : (s.mapNet g).buses = s.buses := by rfl
@[simp] theorem State.mapNet_meters : (s.mapNet g).meters = s.meters := by rfl
@[simp] theorem State.mapNet_links : (s.mapNet g).links = s.links := by rfl
@[simp] theorem State.mapNet_lines : (s.mapNet g).lines = s.lines := by rfl
@[simp] theorem State.mapNet_outs : (s.mapNet g).outs = s.outs := by rfl
@[simp] theorem State.mapNet_sap : (s.mapNet g).sap = s.sap := by rfl
@[simp] theorem State.mapNet_pair : (s.mapNet g).pair = s.pair := by rfl
@[simp] theorem State.mapNet_arb : (s.mapNet g).arb = s.arb := by rfl
@[simp] theorem State.mapNet_listen : (s.mapNet g).listen = s.listen := by rfl
@[simp] theorem State.mapNet_ring : (s.mapNet g).ring = s.ring := by rfl
@[simp] theorem State.mapNet_readers : (s.mapNet g).readers = s.readers := by rfl
@[simp] theorem State.mapNet_hk : (s.mapNet g).hk = s.hk := by rfl
@[simp] theorem State.mapNet_host : (s.mapNet g).host = s.host := by rfl
@[simp] theorem State.mapNet_boot : (s.mapNet g).boot = s.boot := by rfl
@[simp] theorem State.mapNet_mem : (s.mapNet g).mem = s.mem := by rfl
@[simp] theorem State.mapNet_pending : (s.mapNet g).pending = s.pending := by rfl
end

/-! `State.latch` -/
section
variable (bit : Nat)
@[simp] theorem State.latch_now : (s.latch bit).now = s.now := by rfl
@[simp] theorem State.latch_ptpOffset : (s.latch bit).ptpOffset = s.ptpOffset := by rfl
@[simp] theorem State.latch_freeCtr : (s.latch bit).freeCtr = s.freeCtr := by rfl
@[simp] theorem State.latch_objs : (s.latch bit).objs = s.objs := by rfl
@[simp] theorem State.latch_blocks : (s.latch bit).blocks = s.blocks := by rfl
@[simp] theorem State.latch_rights : (s.latch bit).rights = s.rights := by rfl
@[simp] theorem State.latch_funcs : (s.latch bit).funcs = s.funcs := by rfl
@[simp] theorem State.latch_internal : (s.latch bit).internal = s.internal := by rfl
@[simp] theorem State.latch_hspi : (s.latch bit).hspi = s.hspi := by rfl
@[simp] theorem State.latch_twb0 : (s.latch bit).twb0 = s.twb0 := by rfl
@[simp] theorem State.latch_chain : (s.latch bit).chain = s.chain := by rfl
@[simp] theorem State.latch_turn : (s.latch bit).turn = s.turn := by rfl
@[simp] theorem State.latch_parts : (s.latch bit).parts = s.parts := by rfl
@[simp] theorem State.latch_journal : (s.latch bit).journal = s.journal := by rfl
@[simp] theorem State.latch_ms : (s.latch bit).ms = s.ms := by rfl
@[simp] theorem State.latch_gov : (s.latch bit).gov = s.gov := by rfl
@[simp] theorem State.latch_avs : (s.latch bit).avs = s.avs := by rfl
@[simp] theorem State.latch_clk : (s.latch bit).clk = s.clk := by rfl
@[simp] theorem State.latch_snap : (s.latch bit).snap = s.snap := by rfl
@[simp] theorem State.latch_counters : (s.latch bit).counters = s.counters := by rfl
@[simp] theorem State.latch_test : (s.latch bit).test = s.test := by rfl
@[simp] theorem State.latch_inputs : (s.latch bit).inputs = s.inputs := by rfl
@[simp] theorem State.latch_refs : (s.latch bit).refs = s.refs := by rfl
@[simp] theorem State.latch_phantom : (s.latch bit).phantom = s.phantom := by rfl
@[simp] theorem State.latch_router : (s.latch bit).router = s.router := by rfl
@[simp] theorem State.latch_lanes : (s.latch bit).lanes = s.lanes := by rfl
@[simp] theorem State.latch_slack : (s.latch bit).slack = s.slack := by rfl
@[simp] theorem State.latch_buses : (s.latch bit).buses = s.buses := by rfl
@[simp] theorem State.latch_meters : (s.latch bit).meters = s.meters := by rfl
@[simp] theorem State.latch_links : (s.latch bit).links = s.links := by rfl
@[simp] theorem State.latch_lines : (s.latch bit).lines = s.lines := by rfl
@[simp] theorem State.latch_outs : (s.latch bit).outs = s.outs := by rfl
@[simp] theorem State.latch_sap : (s.latch bit).sap = s.sap := by rfl
@[simp] theorem State.latch_net : (s.latch bit).net = s.net := by rfl
@[simp] theorem State.latch_pair : (s.latch bit).pair = s.pair := by rfl
@[simp] theorem State.latch_arb : (s.latch bit).arb = s.arb := by rfl
@[simp] theorem State.latch_listen : (s.latch bit).listen = s.listen := by rfl
@[simp] theorem State.latch_ring : (s.latch bit).ring = s.ring := by rfl
@[simp] theorem State.latch_readers : (s.latch bit).readers = s.readers := by rfl
@[simp] theorem State.latch_hk : (s.latch bit).hk = s.hk := by rfl
@[simp] theorem State.latch_boot : (s.latch bit).boot = s.boot := by rfl
@[simp] theorem State.latch_mem : (s.latch bit).mem = s.mem := by rfl
@[simp] theorem State.latch_pending : (s.latch bit).pending = s.pending := by rfl
end

/-! `State.setBlock` -/
section
variable (i : Nat) (l : List Byte)
@[simp] theorem State.setBlock_now : (s.setBlock i l).now = s.now := by rfl
@[simp] theorem State.setBlock_ptpOffset : (s.setBlock i l).ptpOffset = s.ptpOffset := by rfl
@[simp] theorem State.setBlock_freeCtr : (s.setBlock i l).freeCtr = s.freeCtr := by rfl
@[simp] theorem State.setBlock_objs : (s.setBlock i l).objs = s.objs := by rfl
@[simp] theorem State.setBlock_rights : (s.setBlock i l).rights = s.rights := by rfl
@[simp] theorem State.setBlock_funcs : (s.setBlock i l).funcs = s.funcs := by rfl
@[simp] theorem State.setBlock_internal : (s.setBlock i l).internal = s.internal := by rfl
@[simp] theorem State.setBlock_hspi : (s.setBlock i l).hspi = s.hspi := by rfl
@[simp] theorem State.setBlock_twb0 : (s.setBlock i l).twb0 = s.twb0 := by rfl
@[simp] theorem State.setBlock_chain : (s.setBlock i l).chain = s.chain := by rfl
@[simp] theorem State.setBlock_turn : (s.setBlock i l).turn = s.turn := by rfl
@[simp] theorem State.setBlock_parts : (s.setBlock i l).parts = s.parts := by rfl
@[simp] theorem State.setBlock_journal : (s.setBlock i l).journal = s.journal := by rfl
@[simp] theorem State.setBlock_ms : (s.setBlock i l).ms = s.ms := by rfl
@[simp] theorem State.setBlock_gov : (s.setBlock i l).gov = s.gov := by rfl
@[simp] theorem State.setBlock_avs : (s.setBlock i l).avs = s.avs := by rfl
@[simp] theorem State.setBlock_clk : (s.setBlock i l).clk = s.clk := by rfl
@[simp] theorem State.setBlock_snap : (s.setBlock i l).snap = s.snap := by rfl
@[simp] theorem State.setBlock_counters : (s.setBlock i l).counters = s.counters := by rfl
@[simp] theorem State.setBlock_test : (s.setBlock i l).test = s.test := by rfl
@[simp] theorem State.setBlock_inputs : (s.setBlock i l).inputs = s.inputs := by rfl
@[simp] theorem State.setBlock_refs : (s.setBlock i l).refs = s.refs := by rfl
@[simp] theorem State.setBlock_phantom : (s.setBlock i l).phantom = s.phantom := by rfl
@[simp] theorem State.setBlock_router : (s.setBlock i l).router = s.router := by rfl
@[simp] theorem State.setBlock_lanes : (s.setBlock i l).lanes = s.lanes := by rfl
@[simp] theorem State.setBlock_slack : (s.setBlock i l).slack = s.slack := by rfl
@[simp] theorem State.setBlock_buses : (s.setBlock i l).buses = s.buses := by rfl
@[simp] theorem State.setBlock_meters : (s.setBlock i l).meters = s.meters := by rfl
@[simp] theorem State.setBlock_links : (s.setBlock i l).links = s.links := by rfl
@[simp] theorem State.setBlock_lines : (s.setBlock i l).lines = s.lines := by rfl
@[simp] theorem State.setBlock_outs : (s.setBlock i l).outs = s.outs := by rfl
@[simp] theorem State.setBlock_sap : (s.setBlock i l).sap = s.sap := by rfl
@[simp] theorem State.setBlock_net : (s.setBlock i l).net = s.net := by rfl
@[simp] theorem State.setBlock_pair : (s.setBlock i l).pair = s.pair := by rfl
@[simp] theorem State.setBlock_arb : (s.setBlock i l).arb = s.arb := by rfl
@[simp] theorem State.setBlock_listen : (s.setBlock i l).listen = s.listen := by rfl
@[simp] theorem State.setBlock_ring : (s.setBlock i l).ring = s.ring := by rfl
@[simp] theorem State.setBlock_readers : (s.setBlock i l).readers = s.readers := by rfl
@[simp] theorem State.setBlock_hk : (s.setBlock i l).hk = s.hk := by rfl
@[simp] theorem State.setBlock_host : (s.setBlock i l).host = s.host := by rfl
@[simp] theorem State.setBlock_boot : (s.setBlock i l).boot = s.boot := by rfl
@[simp] theorem State.setBlock_mem : (s.setBlock i l).mem = s.mem := by rfl
@[simp] theorem State.setBlock_pending : (s.setBlock i l).pending = s.pending := by rfl
end

/-! `State.mapAvs` -/
section
variable (g : Avs → Avs)
@[simp] theorem State.mapAvs_now : (s.mapAvs g).now = s.now := by rfl
@[simp] theorem State.mapAvs_ptpOffset : (s.mapAvs g).ptpOffset = s.ptpOffset := by rfl
@[simp] theorem State.mapAvs_freeCtr : (s.mapAvs g).freeCtr = s.freeCtr := by rfl
@[simp] theorem State.mapAvs_objs : (s.mapAvs g).objs = s.objs := by rfl
@[simp] theorem State.mapAvs_blocks : (s.mapAvs g).blocks = s.blocks := by rfl
@[simp] theorem State.mapAvs_rights : (s.mapAvs g).rights = s.rights := by rfl
@[simp] theorem State.mapAvs_funcs : (s.mapAvs g).funcs = s.funcs := by rfl
@[simp] theorem State.mapAvs_internal : (s.mapAvs g).internal = s.internal := by rfl
@[simp] theorem State.mapAvs_hspi : (s.mapAvs g).hspi = s.hspi := by rfl
@[simp] theorem State.mapAvs_twb0 : (s.mapAvs g).twb0 = s.twb0 := by rfl
@[simp] theorem State.mapAvs_chain : (s.mapAvs g).chain = s.chain := by rfl
@[simp] theorem State.mapAvs_turn : (s.mapAvs g).turn = s.turn := by rfl
@[simp] theorem State.mapAvs_parts : (s.mapAvs g).parts = s.parts := by rfl
@[simp] theorem State.mapAvs_journal : (s.mapAvs g).journal = s.journal := by rfl
@[simp] theorem State.mapAvs_ms : (s.mapAvs g).ms = s.ms := by rfl
@[simp] theorem State.mapAvs_gov : (s.mapAvs g).gov = s.gov := by rfl
@[simp] theorem State.mapAvs_clk : (s.mapAvs g).clk = s.clk := by rfl
@[simp] theorem State.mapAvs_snap : (s.mapAvs g).snap = s.snap := by rfl
@[simp] theorem State.mapAvs_counters : (s.mapAvs g).counters = s.counters := by rfl
@[simp] theorem State.mapAvs_test : (s.mapAvs g).test = s.test := by rfl
@[simp] theorem State.mapAvs_inputs : (s.mapAvs g).inputs = s.inputs := by rfl
@[simp] theorem State.mapAvs_refs : (s.mapAvs g).refs = s.refs := by rfl
@[simp] theorem State.mapAvs_phantom : (s.mapAvs g).phantom = s.phantom := by rfl
@[simp] theorem State.mapAvs_router : (s.mapAvs g).router = s.router := by rfl
@[simp] theorem State.mapAvs_lanes : (s.mapAvs g).lanes = s.lanes := by rfl
@[simp] theorem State.mapAvs_slack : (s.mapAvs g).slack = s.slack := by rfl
@[simp] theorem State.mapAvs_buses : (s.mapAvs g).buses = s.buses := by rfl
@[simp] theorem State.mapAvs_meters : (s.mapAvs g).meters = s.meters := by rfl
@[simp] theorem State.mapAvs_links : (s.mapAvs g).links = s.links := by rfl
@[simp] theorem State.mapAvs_lines : (s.mapAvs g).lines = s.lines := by rfl
@[simp] theorem State.mapAvs_outs : (s.mapAvs g).outs = s.outs := by rfl
@[simp] theorem State.mapAvs_sap : (s.mapAvs g).sap = s.sap := by rfl
@[simp] theorem State.mapAvs_net : (s.mapAvs g).net = s.net := by rfl
@[simp] theorem State.mapAvs_pair : (s.mapAvs g).pair = s.pair := by rfl
@[simp] theorem State.mapAvs_arb : (s.mapAvs g).arb = s.arb := by rfl
@[simp] theorem State.mapAvs_listen : (s.mapAvs g).listen = s.listen := by rfl
@[simp] theorem State.mapAvs_ring : (s.mapAvs g).ring = s.ring := by rfl
@[simp] theorem State.mapAvs_readers : (s.mapAvs g).readers = s.readers := by rfl
@[simp] theorem State.mapAvs_hk : (s.mapAvs g).hk = s.hk := by rfl
@[simp] theorem State.mapAvs_host : (s.mapAvs g).host = s.host := by rfl
@[simp] theorem State.mapAvs_boot : (s.mapAvs g).boot = s.boot := by rfl
@[simp] theorem State.mapAvs_mem : (s.mapAvs g).mem = s.mem := by rfl
@[simp] theorem State.mapAvs_pending : (s.mapAvs g).pending = s.pending := by rfl
end

/-! `State.mapBoot` -/
section
variable (f : Boot → Boot)
@[simp] theorem State.mapBoot_now : (s.mapBoot f).now = s.now := by rfl
@[simp] theorem State.mapBoot_ptpOffset : (s.mapBoot f).ptpOffset = s.ptpOffset := by rfl
@[simp] theorem State.mapBoot_freeCtr : (s.mapBoot f).freeCtr = s.freeCtr := by rfl
@[simp] theorem State.mapBoot_objs : (s.mapBoot f).objs = s.objs := by rfl
@[simp] theorem State.mapBoot_blocks : (s.mapBoot f).blocks = s.blocks := by rfl
@[simp] theorem State.mapBoot_rights : (s.mapBoot f).rights = s.rights := by rfl
@[simp] theorem State.mapBoot_funcs : (s.mapBoot f).funcs = s.funcs := by rfl
@[simp] theorem State.mapBoot_internal : (s.mapBoot f).internal = s.internal := by rfl
@[simp] theorem State.mapBoot_hspi : (s.mapBoot f).hspi = s.hspi := by rfl
@[simp] theorem State.mapBoot_twb0 : (s.mapBoot f).twb0 = s.twb0 := by rfl
@[simp] theorem State.mapBoot_chain : (s.mapBoot f).chain = s.chain := by rfl
@[simp] theorem State.mapBoot_turn : (s.mapBoot f).turn = s.turn := by rfl
@[simp] theorem State.mapBoot_parts : (s.mapBoot f).parts = s.parts := by rfl
@[simp] theorem State.mapBoot_journal : (s.mapBoot f).journal = s.journal := by rfl
@[simp] theorem State.mapBoot_ms : (s.mapBoot f).ms = s.ms := by rfl
@[simp] theorem State.mapBoot_gov : (s.mapBoot f).gov = s.gov := by rfl
@[simp] theorem State.mapBoot_avs : (s.mapBoot f).avs = s.avs := by rfl
@[simp] theorem State.mapBoot_clk : (s.mapBoot f).clk = s.clk := by rfl
@[simp] theorem State.mapBoot_snap : (s.mapBoot f).snap = s.snap := by rfl
@[simp] theorem State.mapBoot_counters : (s.mapBoot f).counters = s.counters := by rfl
@[simp] theorem State.mapBoot_test : (s.mapBoot f).test = s.test := by rfl
@[simp] theorem State.mapBoot_inputs : (s.mapBoot f).inputs = s.inputs := by rfl
@[simp] theorem State.mapBoot_refs : (s.mapBoot f).refs = s.refs := by rfl
@[simp] theorem State.mapBoot_phantom : (s.mapBoot f).phantom = s.phantom := by rfl
@[simp] theorem State.mapBoot_router : (s.mapBoot f).router = s.router := by rfl
@[simp] theorem State.mapBoot_lanes : (s.mapBoot f).lanes = s.lanes := by rfl
@[simp] theorem State.mapBoot_slack : (s.mapBoot f).slack = s.slack := by rfl
@[simp] theorem State.mapBoot_buses : (s.mapBoot f).buses = s.buses := by rfl
@[simp] theorem State.mapBoot_meters : (s.mapBoot f).meters = s.meters := by rfl
@[simp] theorem State.mapBoot_links : (s.mapBoot f).links = s.links := by rfl
@[simp] theorem State.mapBoot_lines : (s.mapBoot f).lines = s.lines := by rfl
@[simp] theorem State.mapBoot_outs : (s.mapBoot f).outs = s.outs := by rfl
@[simp] theorem State.mapBoot_sap : (s.mapBoot f).sap = s.sap := by rfl
@[simp] theorem State.mapBoot_net : (s.mapBoot f).net = s.net := by rfl
@[simp] theorem State.mapBoot_pair : (s.mapBoot f).pair = s.pair := by rfl
@[simp] theorem State.mapBoot_arb : (s.mapBoot f).arb = s.arb := by rfl
@[simp] theorem State.mapBoot_listen : (s.mapBoot f).listen = s.listen := by rfl
@[simp] theorem State.mapBoot_ring : (s.mapBoot f).ring = s.ring := by rfl
@[simp] theorem State.mapBoot_readers : (s.mapBoot f).readers = s.readers := by rfl
@[simp] theorem State.mapBoot_hk : (s.mapBoot f).hk = s.hk := by rfl
@[simp] theorem State.mapBoot_host : (s.mapBoot f).host = s.host := by rfl
@[simp] theorem State.mapBoot_mem : (s.mapBoot f).mem = s.mem := by rfl
@[simp] theorem State.mapBoot_pending : (s.mapBoot f).pending = s.pending := by rfl
end

/-! `State.mapGov` -/
section
variable (g : Governor → Governor)
@[simp] theorem State.mapGov_now : (s.mapGov g).now = s.now := by rfl
@[simp] theorem State.mapGov_ptpOffset : (s.mapGov g).ptpOffset = s.ptpOffset := by rfl
@[simp] theorem State.mapGov_freeCtr : (s.mapGov g).freeCtr = s.freeCtr := by rfl
@[simp] theorem State.mapGov_objs : (s.mapGov g).objs = s.objs := by rfl
@[simp] theorem State.mapGov_blocks : (s.mapGov g).blocks = s.blocks := by rfl
@[simp] theorem State.mapGov_rights : (s.mapGov g).rights = s.rights := by rfl
@[simp] theorem State.mapGov_funcs : (s.mapGov g).funcs = s.funcs := by rfl
@[simp] theorem State.mapGov_internal : (s.mapGov g).internal = s.internal := by rfl
@[simp] theorem State.mapGov_hspi : (s.mapGov g).hspi = s.hspi := by rfl
@[simp] theorem State.mapGov_twb0 : (s.mapGov g).twb0 = s.twb0 := by rfl
@[simp] theorem State.mapGov_chain : (s.mapGov g).chain = s.chain := by rfl
@[simp] theorem State.mapGov_turn : (s.mapGov g).turn = s.turn := by rfl
@[simp] theorem State.mapGov_parts : (s.mapGov g).parts = s.parts := by rfl
@[simp] theorem State.mapGov_journal : (s.mapGov g).journal = s.journal := by rfl
@[simp] theorem State.mapGov_ms : (s.mapGov g).ms = s.ms := by rfl
@[simp] theorem State.mapGov_avs : (s.mapGov g).avs = s.avs := by rfl
@[simp] theorem State.mapGov_clk : (s.mapGov g).clk = s.clk := by rfl
@[simp] theorem State.mapGov_snap : (s.mapGov g).snap = s.snap := by rfl
@[simp] theorem State.mapGov_counters : (s.mapGov g).counters = s.counters := by rfl
@[simp] theorem State.mapGov_test : (s.mapGov g).test = s.test := by rfl
@[simp] theorem State.mapGov_inputs : (s.mapGov g).inputs = s.inputs := by rfl
@[simp] theorem State.mapGov_refs : (s.mapGov g).refs = s.refs := by rfl
@[simp] theorem State.mapGov_phantom : (s.mapGov g).phantom = s.phantom := by rfl
@[simp] theorem State.mapGov_router : (s.mapGov g).router = s.router := by rfl
@[simp] theorem State.mapGov_lanes : (s.mapGov g).lanes = s.lanes := by rfl
@[simp] theorem State.mapGov_slack : (s.mapGov g).slack = s.slack := by rfl
@[simp] theorem State.mapGov_buses : (s.mapGov g).buses = s.buses := by rfl
@[simp] theorem State.mapGov_meters : (s.mapGov g).meters = s.meters := by rfl
@[simp] theorem State.mapGov_links : (s.mapGov g).links = s.links := by rfl
@[simp] theorem State.mapGov_lines : (s.mapGov g).lines = s.lines := by rfl
@[simp] theorem State.mapGov_outs : (s.mapGov g).outs = s.outs := by rfl
@[simp] theorem State.mapGov_sap : (s.mapGov g).sap = s.sap := by rfl
@[simp] theorem State.mapGov_net : (s.mapGov g).net = s.net := by rfl
@[simp] theorem State.mapGov_pair : (s.mapGov g).pair = s.pair := by rfl
@[simp] theorem State.mapGov_arb : (s.mapGov g).arb = s.arb := by rfl
@[simp] theorem State.mapGov_listen : (s.mapGov g).listen = s.listen := by rfl
@[simp] theorem State.mapGov_ring : (s.mapGov g).ring = s.ring := by rfl
@[simp] theorem State.mapGov_readers : (s.mapGov g).readers = s.readers := by rfl
@[simp] theorem State.mapGov_hk : (s.mapGov g).hk = s.hk := by rfl
@[simp] theorem State.mapGov_host : (s.mapGov g).host = s.host := by rfl
@[simp] theorem State.mapGov_boot : (s.mapGov g).boot = s.boot := by rfl
@[simp] theorem State.mapGov_mem : (s.mapGov g).mem = s.mem := by rfl
@[simp] theorem State.mapGov_pending : (s.mapGov g).pending = s.pending := by rfl
end

/-! `State.mapHost` -/
section
variable (f : HostPorts → HostPorts)
@[simp] theorem State.mapHost_now : (s.mapHost f).now = s.now := by rfl
@[simp] theorem State.mapHost_ptpOffset : (s.mapHost f).ptpOffset = s.ptpOffset := by rfl
@[simp] theorem State.mapHost_freeCtr : (s.mapHost f).freeCtr = s.freeCtr := by rfl
@[simp] theorem State.mapHost_objs : (s.mapHost f).objs = s.objs := by rfl
@[simp] theorem State.mapHost_blocks : (s.mapHost f).blocks = s.blocks := by rfl
@[simp] theorem State.mapHost_rights : (s.mapHost f).rights = s.rights := by rfl
@[simp] theorem State.mapHost_funcs : (s.mapHost f).funcs = s.funcs := by rfl
@[simp] theorem State.mapHost_internal : (s.mapHost f).internal = s.internal := by rfl
@[simp] theorem State.mapHost_hspi : (s.mapHost f).hspi = s.hspi := by rfl
@[simp] theorem State.mapHost_twb0 : (s.mapHost f).twb0 = s.twb0 := by rfl
@[simp] theorem State.mapHost_chain : (s.mapHost f).chain = s.chain := by rfl
@[simp] theorem State.mapHost_turn : (s.mapHost f).turn = s.turn := by rfl
@[simp] theorem State.mapHost_parts : (s.mapHost f).parts = s.parts := by rfl
@[simp] theorem State.mapHost_journal : (s.mapHost f).journal = s.journal := by rfl
@[simp] theorem State.mapHost_ms : (s.mapHost f).ms = s.ms := by rfl
@[simp] theorem State.mapHost_gov : (s.mapHost f).gov = s.gov := by rfl
@[simp] theorem State.mapHost_avs : (s.mapHost f).avs = s.avs := by rfl
@[simp] theorem State.mapHost_clk : (s.mapHost f).clk = s.clk := by rfl
@[simp] theorem State.mapHost_snap : (s.mapHost f).snap = s.snap := by rfl
@[simp] theorem State.mapHost_counters : (s.mapHost f).counters = s.counters := by rfl
@[simp] theorem State.mapHost_test : (s.mapHost f).test = s.test := by rfl
@[simp] theorem State.mapHost_inputs : (s.mapHost f).inputs = s.inputs := by rfl
@[simp] theorem State.mapHost_refs : (s.mapHost f).refs = s.refs := by rfl
@[simp] theorem State.mapHost_phantom : (s.mapHost f).phantom = s.phantom := by rfl
@[simp] theorem State.mapHost_router : (s.mapHost f).router = s.router := by rfl
@[simp] theorem State.mapHost_lanes : (s.mapHost f).lanes = s.lanes := by rfl
@[simp] theorem State.mapHost_slack : (s.mapHost f).slack = s.slack := by rfl
@[simp] theorem State.mapHost_buses : (s.mapHost f).buses = s.buses := by rfl
@[simp] theorem State.mapHost_meters : (s.mapHost f).meters = s.meters := by rfl
@[simp] theorem State.mapHost_links : (s.mapHost f).links = s.links := by rfl
@[simp] theorem State.mapHost_lines : (s.mapHost f).lines = s.lines := by rfl
@[simp] theorem State.mapHost_outs : (s.mapHost f).outs = s.outs := by rfl
@[simp] theorem State.mapHost_sap : (s.mapHost f).sap = s.sap := by rfl
@[simp] theorem State.mapHost_net : (s.mapHost f).net = s.net := by rfl
@[simp] theorem State.mapHost_pair : (s.mapHost f).pair = s.pair := by rfl
@[simp] theorem State.mapHost_arb : (s.mapHost f).arb = s.arb := by rfl
@[simp] theorem State.mapHost_listen : (s.mapHost f).listen = s.listen := by rfl
@[simp] theorem State.mapHost_ring : (s.mapHost f).ring = s.ring := by rfl
@[simp] theorem State.mapHost_readers : (s.mapHost f).readers = s.readers := by rfl
@[simp] theorem State.mapHost_hk : (s.mapHost f).hk = s.hk := by rfl
@[simp] theorem State.mapHost_boot : (s.mapHost f).boot = s.boot := by rfl
@[simp] theorem State.mapHost_mem : (s.mapHost f).mem = s.mem := by rfl
@[simp] theorem State.mapHost_pending : (s.mapHost f).pending = s.pending := by rfl
end

/-! `State.mapHk` -/
section
variable (g : Hk → Hk)
@[simp] theorem State.mapHk_now : (s.mapHk g).now = s.now := by rfl
@[simp] theorem State.mapHk_ptpOffset : (s.mapHk g).ptpOffset = s.ptpOffset := by rfl
@[simp] theorem State.mapHk_freeCtr : (s.mapHk g).freeCtr = s.freeCtr := by rfl
@[simp] theorem State.mapHk_objs : (s.mapHk g).objs = s.objs := by rfl
@[simp] theorem State.mapHk_blocks : (s.mapHk g).blocks = s.blocks := by rfl
@[simp] theorem State.mapHk_rights : (s.mapHk g).rights = s.rights := by rfl
@[simp] theorem State.mapHk_funcs : (s.mapHk g).funcs = s.funcs := by rfl
@[simp] theorem State.mapHk_internal : (s.mapHk g).internal = s.internal := by rfl
@[simp] theorem State.mapHk_hspi : (s.mapHk g).hspi = s.hspi := by rfl
@[simp] theorem State.mapHk_twb0 : (s.mapHk g).twb0 = s.twb0 := by rfl
@[simp] theorem State.mapHk_chain : (s.mapHk g).chain = s.chain := by rfl
@[simp] theorem State.mapHk_turn : (s.mapHk g).turn = s.turn := by rfl
@[simp] theorem State.mapHk_parts : (s.mapHk g).parts = s.parts := by rfl
@[simp] theorem State.mapHk_journal : (s.mapHk g).journal = s.journal := by rfl
@[simp] theorem State.mapHk_ms : (s.mapHk g).ms = s.ms := by rfl
@[simp] theorem State.mapHk_gov : (s.mapHk g).gov = s.gov := by rfl
@[simp] theorem State.mapHk_avs : (s.mapHk g).avs = s.avs := by rfl
@[simp] theorem State.mapHk_clk : (s.mapHk g).clk = s.clk := by rfl
@[simp] theorem State.mapHk_snap : (s.mapHk g).snap = s.snap := by rfl
@[simp] theorem State.mapHk_counters : (s.mapHk g).counters = s.counters := by rfl
@[simp] theorem State.mapHk_test : (s.mapHk g).test = s.test := by rfl
@[simp] theorem State.mapHk_inputs : (s.mapHk g).inputs = s.inputs := by rfl
@[simp] theorem State.mapHk_refs : (s.mapHk g).refs = s.refs := by rfl
@[simp] theorem State.mapHk_phantom : (s.mapHk g).phantom = s.phantom := by rfl
@[simp] theorem State.mapHk_router : (s.mapHk g).router = s.router := by rfl
@[simp] theorem State.mapHk_lanes : (s.mapHk g).lanes = s.lanes := by rfl
@[simp] theorem State.mapHk_slack : (s.mapHk g).slack = s.slack := by rfl
@[simp] theorem State.mapHk_buses : (s.mapHk g).buses = s.buses := by rfl
@[simp] theorem State.mapHk_meters : (s.mapHk g).meters = s.meters := by rfl
@[simp] theorem State.mapHk_links : (s.mapHk g).links = s.links := by rfl
@[simp] theorem State.mapHk_lines : (s.mapHk g).lines = s.lines := by rfl
@[simp] theorem State.mapHk_outs : (s.mapHk g).outs = s.outs := by rfl
@[simp] theorem State.mapHk_sap : (s.mapHk g).sap = s.sap := by rfl
@[simp] theorem State.mapHk_net : (s.mapHk g).net = s.net := by rfl
@[simp] theorem State.mapHk_pair : (s.mapHk g).pair = s.pair := by rfl
@[simp] theorem State.mapHk_arb : (s.mapHk g).arb = s.arb := by rfl
@[simp] theorem State.mapHk_listen : (s.mapHk g).listen = s.listen := by rfl
@[simp] theorem State.mapHk_ring : (s.mapHk g).ring = s.ring := by rfl
@[simp] theorem State.mapHk_readers : (s.mapHk g).readers = s.readers := by rfl
@[simp] theorem State.mapHk_host : (s.mapHk g).host = s.host := by rfl
@[simp] theorem State.mapHk_boot : (s.mapHk g).boot = s.boot := by rfl
@[simp] theorem State.mapHk_mem : (s.mapHk g).mem = s.mem := by rfl
@[simp] theorem State.mapHk_pending : (s.mapHk g).pending = s.pending := by rfl
end

/-! `State.mapJournal` -/
section
variable (f : Journal → Journal)
@[simp] theorem State.mapJournal_now : (s.mapJournal f).now = s.now := by rfl
@[simp] theorem State.mapJournal_ptpOffset : (s.mapJournal f).ptpOffset = s.ptpOffset := by rfl
@[simp] theorem State.mapJournal_freeCtr : (s.mapJournal f).freeCtr = s.freeCtr := by rfl
@[simp] theorem State.mapJournal_objs : (s.mapJournal f).objs = s.objs := by rfl
@[simp] theorem State.mapJournal_blocks : (s.mapJournal f).blocks = s.blocks := by rfl
@[simp] theorem State.mapJournal_rights : (s.mapJournal f).rights = s.rights := by rfl
@[simp] theorem State.mapJournal_funcs : (s.mapJournal f).funcs = s.funcs := by rfl
@[simp] theorem State.mapJournal_internal : (s.mapJournal f).internal = s.internal := by rfl
@[simp] theorem State.mapJournal_hspi : (s.mapJournal f).hspi = s.hspi := by rfl
@[simp] theorem State.mapJournal_twb0 : (s.mapJournal f).twb0 = s.twb0 := by rfl
@[simp] theorem State.mapJournal_chain : (s.mapJournal f).chain = s.chain := by rfl
@[simp] theorem State.mapJournal_turn : (s.mapJournal f).turn = s.turn := by rfl
@[simp] theorem State.mapJournal_parts : (s.mapJournal f).parts = s.parts := by rfl
@[simp] theorem State.mapJournal_ms : (s.mapJournal f).ms = s.ms := by rfl
@[simp] theorem State.mapJournal_gov : (s.mapJournal f).gov = s.gov := by rfl
@[simp] theorem State.mapJournal_avs : (s.mapJournal f).avs = s.avs := by rfl
@[simp] theorem State.mapJournal_clk : (s.mapJournal f).clk = s.clk := by rfl
@[simp] theorem State.mapJournal_snap : (s.mapJournal f).snap = s.snap := by rfl
@[simp] theorem State.mapJournal_counters : (s.mapJournal f).counters = s.counters := by rfl
@[simp] theorem State.mapJournal_test : (s.mapJournal f).test = s.test := by rfl
@[simp] theorem State.mapJournal_inputs : (s.mapJournal f).inputs = s.inputs := by rfl
@[simp] theorem State.mapJournal_refs : (s.mapJournal f).refs = s.refs := by rfl
@[simp] theorem State.mapJournal_phantom : (s.mapJournal f).phantom = s.phantom := by rfl
@[simp] theorem State.mapJournal_router : (s.mapJournal f).router = s.router := by rfl
@[simp] theorem State.mapJournal_lanes : (s.mapJournal f).lanes = s.lanes := by rfl
@[simp] theorem State.mapJournal_slack : (s.mapJournal f).slack = s.slack := by rfl
@[simp] theorem State.mapJournal_buses : (s.mapJournal f).buses = s.buses := by rfl
@[simp] theorem State.mapJournal_meters : (s.mapJournal f).meters = s.meters := by rfl
@[simp] theorem State.mapJournal_links : (s.mapJournal f).links = s.links := by rfl
@[simp] theorem State.mapJournal_lines : (s.mapJournal f).lines = s.lines := by rfl
@[simp] theorem State.mapJournal_outs : (s.mapJournal f).outs = s.outs := by rfl
@[simp] theorem State.mapJournal_sap : (s.mapJournal f).sap = s.sap := by rfl
@[simp] theorem State.mapJournal_net : (s.mapJournal f).net = s.net := by rfl
@[simp] theorem State.mapJournal_pair : (s.mapJournal f).pair = s.pair := by rfl
@[simp] theorem State.mapJournal_arb : (s.mapJournal f).arb = s.arb := by rfl
@[simp] theorem State.mapJournal_listen : (s.mapJournal f).listen = s.listen := by rfl
@[simp] theorem State.mapJournal_ring : (s.mapJournal f).ring = s.ring := by rfl
@[simp] theorem State.mapJournal_readers : (s.mapJournal f).readers = s.readers := by rfl
@[simp] theorem State.mapJournal_hk : (s.mapJournal f).hk = s.hk := by rfl
@[simp] theorem State.mapJournal_host : (s.mapJournal f).host = s.host := by rfl
@[simp] theorem State.mapJournal_boot : (s.mapJournal f).boot = s.boot := by rfl
@[simp] theorem State.mapJournal_mem : (s.mapJournal f).mem = s.mem := by rfl
@[simp] theorem State.mapJournal_pending : (s.mapJournal f).pending = s.pending := by rfl
end

/-! `State.mapListen` -/
section
variable (g : Listen → Listen)
@[simp] theorem State.mapListen_now : (s.mapListen g).now = s.now := by rfl
@[simp] theorem State.mapListen_ptpOffset : (s.mapListen g).ptpOffset = s.ptpOffset := by rfl
@[simp] theorem State.mapListen_freeCtr : (s.mapListen g).freeCtr = s.freeCtr := by rfl
@[simp] theorem State.mapListen_objs : (s.mapListen g).objs = s.objs := by rfl
@[simp] theorem State.mapListen_blocks : (s.mapListen g).blocks = s.blocks := by rfl
@[simp] theorem State.mapListen_rights : (s.mapListen g).rights = s.rights := by rfl
@[simp] theorem State.mapListen_funcs : (s.mapListen g).funcs = s.funcs := by rfl
@[simp] theorem State.mapListen_internal : (s.mapListen g).internal = s.internal := by rfl
@[simp] theorem State.mapListen_hspi : (s.mapListen g).hspi = s.hspi := by rfl
@[simp] theorem State.mapListen_twb0 : (s.mapListen g).twb0 = s.twb0 := by rfl
@[simp] theorem State.mapListen_chain : (s.mapListen g).chain = s.chain := by rfl
@[simp] theorem State.mapListen_turn : (s.mapListen g).turn = s.turn := by rfl
@[simp] theorem State.mapListen_parts : (s.mapListen g).parts = s.parts := by rfl
@[simp] theorem State.mapListen_journal : (s.mapListen g).journal = s.journal := by rfl
@[simp] theorem State.mapListen_ms : (s.mapListen g).ms = s.ms := by rfl
@[simp] theorem State.mapListen_gov : (s.mapListen g).gov = s.gov := by rfl
@[simp] theorem State.mapListen_avs : (s.mapListen g).avs = s.avs := by rfl
@[simp] theorem State.mapListen_clk : (s.mapListen g).clk = s.clk := by rfl
@[simp] theorem State.mapListen_snap : (s.mapListen g).snap = s.snap := by rfl
@[simp] theorem State.mapListen_counters : (s.mapListen g).counters = s.counters := by rfl
@[simp] theorem State.mapListen_test : (s.mapListen g).test = s.test := by rfl
@[simp] theorem State.mapListen_inputs : (s.mapListen g).inputs = s.inputs := by rfl
@[simp] theorem State.mapListen_refs : (s.mapListen g).refs = s.refs := by rfl
@[simp] theorem State.mapListen_phantom : (s.mapListen g).phantom = s.phantom := by rfl
@[simp] theorem State.mapListen_router : (s.mapListen g).router = s.router := by rfl
@[simp] theorem State.mapListen_lanes : (s.mapListen g).lanes = s.lanes := by rfl
@[simp] theorem State.mapListen_slack : (s.mapListen g).slack = s.slack := by rfl
@[simp] theorem State.mapListen_buses : (s.mapListen g).buses = s.buses := by rfl
@[simp] theorem State.mapListen_meters : (s.mapListen g).meters = s.meters := by rfl
@[simp] theorem State.mapListen_links : (s.mapListen g).links = s.links := by rfl
@[simp] theorem State.mapListen_lines : (s.mapListen g).lines = s.lines := by rfl
@[simp] theorem State.mapListen_outs : (s.mapListen g).outs = s.outs := by rfl
@[simp] theorem State.mapListen_sap : (s.mapListen g).sap = s.sap := by rfl
@[simp] theorem State.mapListen_net : (s.mapListen g).net = s.net := by rfl
@[simp] theorem State.mapListen_pair : (s.mapListen g).pair = s.pair := by rfl
@[simp] theorem State.mapListen_arb : (s.mapListen g).arb = s.arb := by rfl
@[simp] theorem State.mapListen_ring : (s.mapListen g).ring = s.ring := by rfl
@[simp] theorem State.mapListen_readers : (s.mapListen g).readers = s.readers := by rfl
@[simp] theorem State.mapListen_hk : (s.mapListen g).hk = s.hk := by rfl
@[simp] theorem State.mapListen_host : (s.mapListen g).host = s.host := by rfl
@[simp] theorem State.mapListen_boot : (s.mapListen g).boot = s.boot := by rfl
@[simp] theorem State.mapListen_mem : (s.mapListen g).mem = s.mem := by rfl
@[simp] theorem State.mapListen_pending : (s.mapListen g).pending = s.pending := by rfl
end

/-! `State.mapRing` -/
section
variable (g : Ring → Ring)
@[simp] theorem State.mapRing_now : (s.mapRing g).now = s.now := by rfl
@[simp] theorem State.mapRing_ptpOffset : (s.mapRing g).ptpOffset = s.ptpOffset := by rfl
@[simp] theorem State.mapRing_freeCtr : (s.mapRing g).freeCtr = s.freeCtr := by rfl
@[simp] theorem State.mapRing_objs : (s.mapRing g).objs = s.objs := by rfl
@[simp] theorem State.mapRing_blocks : (s.mapRing g).blocks = s.blocks := by rfl
@[simp] theorem State.mapRing_rights : (s.mapRing g).rights = s.rights := by rfl
@[simp] theorem State.mapRing_funcs : (s.mapRing g).funcs = s.funcs := by rfl
@[simp] theorem State.mapRing_internal : (s.mapRing g).internal = s.internal := by rfl
@[simp] theorem State.mapRing_hspi : (s.mapRing g).hspi = s.hspi := by rfl
@[simp] theorem State.mapRing_twb0 : (s.mapRing g).twb0 = s.twb0 := by rfl
@[simp] theorem State.mapRing_chain : (s.mapRing g).chain = s.chain := by rfl
@[simp] theorem State.mapRing_turn : (s.mapRing g).turn = s.turn := by rfl
@[simp] theorem State.mapRing_parts : (s.mapRing g).parts = s.parts := by rfl
@[simp] theorem State.mapRing_journal : (s.mapRing g).journal = s.journal := by rfl
@[simp] theorem State.mapRing_ms : (s.mapRing g).ms = s.ms := by rfl
@[simp] theorem State.mapRing_gov : (s.mapRing g).gov = s.gov := by rfl
@[simp] theorem State.mapRing_avs : (s.mapRing g).avs = s.avs := by rfl
@[simp] theorem State.mapRing_clk : (s.mapRing g).clk = s.clk := by rfl
@[simp] theorem State.mapRing_snap : (s.mapRing g).snap = s.snap := by rfl
@[simp] theorem State.mapRing_counters : (s.mapRing g).counters = s.counters := by rfl
@[simp] theorem State.mapRing_test : (s.mapRing g).test = s.test := by rfl
@[simp] theorem State.mapRing_inputs : (s.mapRing g).inputs = s.inputs := by rfl
@[simp] theorem State.mapRing_refs : (s.mapRing g).refs = s.refs := by rfl
@[simp] theorem State.mapRing_phantom : (s.mapRing g).phantom = s.phantom := by rfl
@[simp] theorem State.mapRing_router : (s.mapRing g).router = s.router := by rfl
@[simp] theorem State.mapRing_lanes : (s.mapRing g).lanes = s.lanes := by rfl
@[simp] theorem State.mapRing_slack : (s.mapRing g).slack = s.slack := by rfl
@[simp] theorem State.mapRing_buses : (s.mapRing g).buses = s.buses := by rfl
@[simp] theorem State.mapRing_meters : (s.mapRing g).meters = s.meters := by rfl
@[simp] theorem State.mapRing_links : (s.mapRing g).links = s.links := by rfl
@[simp] theorem State.mapRing_lines : (s.mapRing g).lines = s.lines := by rfl
@[simp] theorem State.mapRing_outs : (s.mapRing g).outs = s.outs := by rfl
@[simp] theorem State.mapRing_sap : (s.mapRing g).sap = s.sap := by rfl
@[simp] theorem State.mapRing_net : (s.mapRing g).net = s.net := by rfl
@[simp] theorem State.mapRing_pair : (s.mapRing g).pair = s.pair := by rfl
@[simp] theorem State.mapRing_arb : (s.mapRing g).arb = s.arb := by rfl
@[simp] theorem State.mapRing_listen : (s.mapRing g).listen = s.listen := by rfl
@[simp] theorem State.mapRing_readers : (s.mapRing g).readers = s.readers := by rfl
@[simp] theorem State.mapRing_hk : (s.mapRing g).hk = s.hk := by rfl
@[simp] theorem State.mapRing_host : (s.mapRing g).host = s.host := by rfl
@[simp] theorem State.mapRing_boot : (s.mapRing g).boot = s.boot := by rfl
@[simp] theorem State.mapRing_mem : (s.mapRing g).mem = s.mem := by rfl
@[simp] theorem State.mapRing_pending : (s.mapRing g).pending = s.pending := by rfl
end

/-! `State.mapMem` -/
section
variable (g : Mem → Mem)
@[simp] theorem State.mapMem_now : (s.mapMem g).now = s.now := by rfl
@[simp] theorem State.mapMem_ptpOffset : (s.mapMem g).ptpOffset = s.ptpOffset := by rfl
@[simp] theorem State.mapMem_freeCtr : (s.mapMem g).freeCtr = s.freeCtr := by rfl
@[simp] theorem State.mapMem_objs : (s.mapMem g).objs = s.objs := by rfl
@[simp] theorem State.mapMem_blocks : (s.mapMem g).blocks = s.blocks := by rfl
@[simp] theorem State.mapMem_rights : (s.mapMem g).rights = s.rights := by rfl
@[simp] theorem State.mapMem_funcs : (s.mapMem g).funcs = s.funcs := by rfl
@[simp] theorem State.mapMem_internal : (s.mapMem g).internal = s.internal := by rfl
@[simp] theorem State.mapMem_hspi : (s.mapMem g).hspi = s.hspi := by rfl
@[simp] theorem State.mapMem_twb0 : (s.mapMem g).twb0 = s.twb0 := by rfl
@[simp] theorem State.mapMem_chain : (s.mapMem g).chain = s.chain := by rfl
@[simp] theorem State.mapMem_turn : (s.mapMem g).turn = s.turn := by rfl
@[simp] theorem State.mapMem_parts : (s.mapMem g).parts = s.parts := by rfl
@[simp] theorem State.mapMem_journal : (s.mapMem g).journal = s.journal := by rfl
@[simp] theorem State.mapMem_ms : (s.mapMem g).ms = s.ms := by rfl
@[simp] theorem State.mapMem_gov : (s.mapMem g).gov = s.gov := by rfl
@[simp] theorem State.mapMem_avs : (s.mapMem g).avs = s.avs := by rfl
@[simp] theorem State.mapMem_clk : (s.mapMem g).clk = s.clk := by rfl
@[simp] theorem State.mapMem_snap : (s.mapMem g).snap = s.snap := by rfl
@[simp] theorem State.mapMem_counters : (s.mapMem g).counters = s.counters := by rfl
@[simp] theorem State.mapMem_test : (s.mapMem g).test = s.test := by rfl
@[simp] theorem State.mapMem_inputs : (s.mapMem g).inputs = s.inputs := by rfl
@[simp] theorem State.mapMem_refs : (s.mapMem g).refs = s.refs := by rfl
@[simp] theorem State.mapMem_phantom : (s.mapMem g).phantom = s.phantom := by rfl
@[simp] theorem State.mapMem_router : (s.mapMem g).router = s.router := by rfl
@[simp] theorem State.mapMem_lanes : (s.mapMem g).lanes = s.lanes := by rfl
@[simp] theorem State.mapMem_slack : (s.mapMem g).slack = s.slack := by rfl
@[simp] theorem State.mapMem_buses : (s.mapMem g).buses = s.buses := by rfl
@[simp] theorem State.mapMem_meters : (s.mapMem g).meters = s.meters := by rfl
@[simp] theorem State.mapMem_links : (s.mapMem g).links = s.links := by rfl
@[simp] theorem State.mapMem_lines : (s.mapMem g).lines = s.lines := by rfl
@[simp] theorem State.mapMem_outs : (s.mapMem g).outs = s.outs := by rfl
@[simp] theorem State.mapMem_sap : (s.mapMem g).sap = s.sap := by rfl
@[simp] theorem State.mapMem_net : (s.mapMem g).net = s.net := by rfl
@[simp] theorem State.mapMem_pair : (s.mapMem g).pair = s.pair := by rfl
@[simp] theorem State.mapMem_arb : (s.mapMem g).arb = s.arb := by rfl
@[simp] theorem State.mapMem_listen : (s.mapMem g).listen = s.listen := by rfl
@[simp] theorem State.mapMem_ring : (s.mapMem g).ring = s.ring := by rfl
@[simp] theorem State.mapMem_readers : (s.mapMem g).readers = s.readers := by rfl
@[simp] theorem State.mapMem_hk : (s.mapMem g).hk = s.hk := by rfl
@[simp] theorem State.mapMem_host : (s.mapMem g).host = s.host := by rfl
@[simp] theorem State.mapMem_boot : (s.mapMem g).boot = s.boot := by rfl
@[simp] theorem State.mapMem_pending : (s.mapMem g).pending = s.pending := by rfl
end

/-! `State.mapPair` -/
section
variable (g : PairMember → PairMember)
@[simp] theorem State.mapPair_now : (s.mapPair g).now = s.now := by rfl
@[simp] theorem State.mapPair_ptpOffset : (s.mapPair g).ptpOffset = s.ptpOffset := by rfl
@[simp] theorem State.mapPair_freeCtr : (s.mapPair g).freeCtr = s.freeCtr := by rfl
@[simp] theorem State.mapPair_objs : (s.mapPair g).objs = s.objs := by rfl
@[simp] theorem State.mapPair_blocks : (s.mapPair g).blocks = s.blocks := by rfl
@[simp] theorem State.mapPair_rights : (s.mapPair g).rights = s.rights := by rfl
@[simp] theorem State.mapPair_funcs : (s.mapPair g).funcs = s.funcs := by rfl
@[simp] theorem State.mapPair_internal : (s.mapPair g).internal = s.internal := by rfl
@[simp] theorem State.mapPair_hspi : (s.mapPair g).hspi = s.hspi := by rfl
@[simp] theorem State.mapPair_twb0 : (s.mapPair g).twb0 = s.twb0 := by rfl
@[simp] theorem State.mapPair_chain : (s.mapPair g).chain = s.chain := by rfl
@[simp] theorem State.mapPair_turn : (s.mapPair g).turn = s.turn := by rfl
@[simp] theorem State.mapPair_parts : (s.mapPair g).parts = s.parts := by rfl
@[simp] theorem State.mapPair_journal : (s.mapPair g).journal = s.journal := by rfl
@[simp] theorem State.mapPair_ms : (s.mapPair g).ms = s.ms := by rfl
@[simp] theorem State.mapPair_gov : (s.mapPair g).gov = s.gov := by rfl
@[simp] theorem State.mapPair_avs : (s.mapPair g).avs = s.avs := by rfl
@[simp] theorem State.mapPair_clk : (s.mapPair g).clk = s.clk := by rfl
@[simp] theorem State.mapPair_snap : (s.mapPair g).snap = s.snap := by rfl
@[simp] theorem State.mapPair_counters : (s.mapPair g).counters = s.counters := by rfl
@[simp] theorem State.mapPair_test : (s.mapPair g).test = s.test := by rfl
@[simp] theorem State.mapPair_inputs : (s.mapPair g).inputs = s.inputs := by rfl
@[simp] theorem State.mapPair_refs : (s.mapPair g).refs = s.refs := by rfl
@[simp] theorem State.mapPair_phantom : (s.mapPair g).phantom = s.phantom := by rfl
@[simp] theorem State.mapPair_router : (s.mapPair g).router = s.router := by rfl
@[simp] theorem State.mapPair_lanes : (s.mapPair g).lanes = s.lanes := by rfl
@[simp] theorem State.mapPair_slack : (s.mapPair g).slack = s.slack := by rfl
@[simp] theorem State.mapPair_buses : (s.mapPair g).buses = s.buses := by rfl
@[simp] theorem State.mapPair_meters : (s.mapPair g).meters = s.meters := by rfl
@[simp] theorem State.mapPair_links : (s.mapPair g).links = s.links := by rfl
@[simp] theorem State.mapPair_lines : (s.mapPair g).lines = s.lines := by rfl
@[simp] theorem State.mapPair_outs : (s.mapPair g).outs = s.outs := by rfl
@[simp] theorem State.mapPair_sap : (s.mapPair g).sap = s.sap := by rfl
@[simp] theorem State.mapPair_net : (s.mapPair g).net = s.net := by rfl
@[simp] theorem State.mapPair_arb : (s.mapPair g).arb = s.arb := by rfl
@[simp] theorem State.mapPair_listen : (s.mapPair g).listen = s.listen := by rfl
@[simp] theorem State.mapPair_ring : (s.mapPair g).ring = s.ring := by rfl
@[simp] theorem State.mapPair_readers : (s.mapPair g).readers = s.readers := by rfl
@[simp] theorem State.mapPair_hk : (s.mapPair g).hk = s.hk := by rfl
@[simp] theorem State.mapPair_host : (s.mapPair g).host = s.host := by rfl
@[simp] theorem State.mapPair_boot : (s.mapPair g).boot = s.boot := by rfl
@[simp] theorem State.mapPair_mem : (s.mapPair g).mem = s.mem := by rfl
@[simp] theorem State.mapPair_pending : (s.mapPair g).pending = s.pending := by rfl
end

end Sys2Proof.Machine
end

