-- ==== Sys2Proof/Laws/Transact.lean ====
section
/-!
SUPPORT. What a transaction that meets a free control processor does: the requesters' records, the turn, and one execution.
-/

set_option autoImplicit false

namespace Sys2Proof.Machine

variable (s : State) (w : Requester)

/-! ## The record of a requester -/

theorem State.req_setReq (x : ReqState) : (s.setReq w x).req w = x := by
  cases w with
  | internal => rfl
  | hspi => rfl
  | twb0 => rfl
  | chain u =>
    unfold State.setReq
    simp only
    split
    · rename_i h
      simp only [State.req]
      have : ∀ l : List (Nat × ReqState), (l.any fun y => y.1 == u) = true →
          (l.map fun y => if y.1 = u then (u, x) else y).find? (fun y => y.1 == u) = some (u, x) := by
        intro l hl
        induction l with
        | nil => simp at hl
        | cons y r ih =>
          by_cases e : y.1 = u
          · simp [e]
          · simp only [List.any_cons, Bool.or_eq_true] at hl
            have hr := hl.resolve_left (by simp [e])
            have e' : (y.1 == u) = false := by simpa using e
            rw [List.map_cons, if_neg e, List.find?_cons, e']
            exact ih hr
      rw [this _ h]
    · rename_i h
      simp only [State.req]
      have : (s.chain ++ [(u, x)]).find? (fun y => y.1 == u) = some (u, x) := by
        rw [List.find?_append]
        have : s.chain.find? (fun y => y.1 == u) = none := by
          rw [List.find?_eq_none]
          intro y hy hn
          exact h (List.any_eq_true.2 ⟨y, hy, hn⟩)
        simp [this]
      rw [this]

theorem State.setReq_setReq (x y : ReqState) : (s.setReq w x).setReq w y = s.setReq w y := by
  cases w with
  | internal => rfl
  | hspi => rfl
  | twb0 => rfl
  | chain u =>
    by_cases h : (s.chain.any fun z => z.1 == u) = true
    · have h' : ((s.chain.map fun z => if z.1 = u then (u, x) else z).any fun z => z.1 == u) = true := by
        rw [List.any_eq_true] at h ⊢
        obtain ⟨z, hz, hu⟩ := h
        exact ⟨(u, x), List.mem_map.2 ⟨z, hz, if_pos (by simpa using hu)⟩, by simp⟩
      simp only [State.setReq, h, h', if_true]
      congr 1
      rw [List.map_map]
      apply List.map_congr_left
      intro z _
      by_cases e : z.1 = u <;> simp [e]
    · have h2 : ((s.chain ++ [(u, x)]).any fun z => z.1 == u) = true := by simp
      simp only [State.setReq, h, h2, if_true, Bool.false_eq_true, if_false]
      congr 1
      rw [List.map_append]
      have : s.chain.map (fun z => if z.1 = u then (u, y) else z) = s.chain := by
        have : ∀ l : List (Nat × ReqState), ¬(l.any fun z => z.1 == u) = true →
            l.map (fun z => if z.1 = u then (u, y) else z) = l := by
          intro l hl
          induction l with
          | nil => rfl
          | cons z r ih =>
            simp only [List.any_cons, Bool.or_eq_true, not_or] at hl
            have e : z.1 ≠ u := by simpa using hl.1
            simp [e, ih hl.2]
        exact this _ h
      simp [this]

theorem State.req_setReq_other (x : ReqState) {v : Requester} (h : v ≠ w) : (s.setReq w x).req v = s.req v := by
  cases w with
  | internal => cases v <;> first | rfl | exact absurd rfl h
  | hspi => cases v <;> first | rfl | exact absurd rfl h
  | twb0 => cases v <;> first | rfl | exact absurd rfl h
  | chain u =>
    unfold State.setReq
    simp only
    cases v with
    | internal => split <;> rfl
    | hspi => split <;> rfl
    | twb0 => split <;> rfl
    | chain n =>
      have hn : n ≠ u := fun e => h (by rw [e])
      have key : ∀ l : List (Nat × ReqState),
          (l.map fun y => if y.1 = u then (u, x) else y).find? (fun y => y.1 == n) = l.find? (fun y => y.1 == n) := by
        intro l
        induction l with
        | nil => rfl
        | cons y r ih =>
          by_cases e : y.1 = u
          · have e2 : (u == n) = false := by simpa using Ne.symm hn
            have e3 : (y.1 == n) = false := by rw [e]; exact e2
            rw [List.map_cons, if_pos e, List.find?_cons, List.find?_cons, e2, e3]
            exact ih
          · rw [List.map_cons, if_neg e, List.find?_cons, List.find?_cons, ih]
      split
      · simp only [State.req, key]
      · simp only [State.req]
        rw [List.find?_append]
        have : [(u, x)].find? (fun y => y.1 == n) = none := by simp [Ne.symm hn]
        simp [this]

/-! ## What an update of one record leaves -/

theorem State.canRun_setReq (x : ReqState) (v : Requester) : (s.setReq w x).canRun v = s.canRun v := by
  cases w <;> simp only [State.setReq] <;> (try split) <;> rfl

theorem State.servable_setReq_other (x : ReqState) {v : Requester} (h : v ≠ w) :
    (s.setReq w x).servable v = s.servable v := by
  simp only [State.servable, State.canRun_setReq, State.req_setReq_other s w x h]

theorem State.now_setReq (x : ReqState) : (s.setReq w x).now = s.now := by
  cases w <;> simp only [State.setReq] <;> (try split) <;> rfl

theorem State.mem_order_setReq (x : ReqState) : w ∈ (s.setReq w x).order := by
  cases w with
  | internal => simp [State.order]
  | hspi => simp [State.order]
  | twb0 => simp [State.order]
  | chain u =>
    unfold State.setReq
    simp only
    split
    · rename_i h
      rw [List.any_eq_true] at h
      obtain ⟨y, hy, hu⟩ := h
      simp only [State.order, List.mem_append]
      right
      simp only [List.map_map, List.mem_map]
      refine ⟨y, hy, ?_⟩
      have : y.1 = u := by simpa using hu
      simp [this]
    · simp [State.order]

/-! ## Whose turn it is -/

theorem State.nextServe_some {k : Nat} {v : Requester} (h : s.nextServe = some (k, v)) : s.servable v = true := by
  have := List.find?_some h
  simpa using this

theorem State.nextServe_none_of (h : s.nextServe = none) {v : Requester} (hv : v ∈ s.order) : s.servable v = false := by
  rw [State.nextServe, List.find?_eq_none] at h
  obtain ⟨i, hi, rfl⟩ := List.getElem_of_mem hv
  have hn : 0 < s.order.length := by omega
  have := h (i, s.order[i]) (by
    rw [List.mem_filterMap]
    refine ⟨i, ?_, by simp [hi]⟩
    rw [List.mem_map]
    refine ⟨(i + (s.order.length - s.turn % s.order.length)) % s.order.length, List.mem_range.2 (Nat.mod_lt _ hn), ?_⟩
    have h1 : s.turn % s.order.length < s.order.length := Nat.mod_lt _ hn
    rw [Nat.add_mod_mod, ← Nat.mod_add_mod]
    have e : s.turn % s.order.length + (i + (s.order.length - s.turn % s.order.length)) = i + s.order.length := by omega
    rw [e, Nat.add_mod_right, Nat.mod_eq_of_lt hi])
  simpa using this

theorem State.nextServe_isSome {v : Requester} (hv : v ∈ s.order) (h : s.servable v = true) : ∃ p, s.nextServe = some p := by
  cases e : s.nextServe with
  | some p => exact ⟨p, rfl⟩
  | none => rw [s.nextServe_none_of e hv] at h; cases h

end Sys2Proof.Machine
end

