-- ==== Sys2Proof/Tests/Slice0.lean ====
section
/-!
SUPPORT. Tests. First the smoke tests of well-formedness; then small tests of one operation or one step whose expected results
are the worked examples and tables of the spec; then, for each obligation with hypotheses, a state and operands that meet all
of them together (`meets_<obligation>_<clause>_<command>`).
-/

set_option autoImplicit false
set_option Elab.async false
set_option linter.unusedVariables false

namespace Sys2Proof.Tests

open Sys2Proof Sys2Proof.Machine

/-! ## Helper terms -/

/-- A transaction of TWB0. -/
def aReq : Req := { who := .twb0, node := 0xFFFF, tid := 1 }
/-- A transaction whose TID does not fit. -/
def badReq : Req := { who := .twb0, node := 0xFFFF, tid := 256 }
/-- A Gendenlink header. -/
def aHdr : FrameHdr := { version := 1, kind := 1, cycle := 5, src := 7, srcNode := 0, dst := 0xFFFF, hops := 1, flags := 0, field := 0 }
/-- A header whose version does not fit. -/
def badHdr : FrameHdr := { aHdr with version := 256 }
/-- A CYCLE_START. -/
def aStart : CycleStartFrame :=
  { hdr := aHdr, time := 5, correction := 0, presentation := 10, nodes := 2, topology := 1, rate := 1, headId := 9 }
/-- An AUDIO frame without samples. -/
def anAudio : AudioFrame := { hdr := aHdr, words := [] }
/-- A frame on its way. -/
def aFrame : ChainFrame := { hdr := aHdr, length := 64, fcs := .good }
/-- A TRANSACTION frame. -/
def aTrans : TransFrame := { hdr := aHdr, requester := 7, target := 9, body := [] }
/-- An RTP packet. -/
def aPacket : RtpPacket := { ip := 1, udp := 5004, pt := 97, l16 := false, timestamp := 0, words := [] }
/-- A pair message. -/
def aMsg : PairMsg := { pair := 1, msg := 1, member := 7, epoch := 1, role := 1, mode := 4, health := 0 }
/-- A silent listening frame. -/
def aListen : ListenEnv := { ch1 := List.replicate 16 0, ch2 := List.replicate 16 0, score := 0, tone := 0, level := 0, above := 0 }
/-- A block write. -/
def aWrite : TwbWrite := { count := 1, bytes := [1], pec := none }
/-- A tick with nothing to say. -/
def anEnv : TickEnv := { inputs := [], lateBuses := [], lateLines := [], lateCaps := [], latePlays := [] }
/-- A firmware image of slot 0. -/
def anImage : BootImage :=
  { source := 1, headerOk := true, signatureOk := true, keyHash := List.replicate 32 0, fwVersion := 1, secVersion := 1,
    records := [], noFlash := false, slot0Bad := false, slot1Bad := false }

/-! ## Well-formedness -/

theorem test_decode_has_no_words : decodeTableWord 8 0 = none := by decide

theorem test_wf_accepts_1 : [
    .transactionArrive 0 aReq [1],
    .read 0 aReq 1 1 1,
    .write 0 aReq 1 1 [1],
    .stage 0 aReq 1 1 [1],
    .blockRead 0 aReq 1 1 1 1,
    .blockWrite 0 aReq 1 1 1 [1],
    .unknownOp 0 aReq 1,
    .commit 0 aReq,
    .discard 0 aReq,
    .stageTimeout 0 .twb0,
    .blockOpen 0 aReq 1 [1],
    .blockClose 0 aReq 1 true [1],
    .lock 0 aReq,
    .readFrom 0 aReq [1],
    .entriesRead 0 aReq 1,
    .mirrorCopy 0,
    .mirrorResume 0,
    .journalPush 0,
    .journalPushResend 0,
    .journalAck 0 1 1,
    .tick 0 1 anEnv,
    .fabricPartApply 0 1,
    .laneFrameFinish 0 1,
    .drainComplete 0 .scan,
    .functionRampEnd 0 .scan,
    .quiesceForced 0 .scan,
    .startPendingStart 0 .scan,
    .gainRampEnd 0 .pair,
    .crossfadeEnd 0 1,
    .targetMode 0 aReq [1],
    .descentBegin 0,
    .domainSwitchOff 0,
    .modeAdvance 0,
    .wakeSourceFire 0 .pin,
    .staggerEnd 0,
    .resetNLow 0,
    .resetClampEnd 0,
    .resetNHigh 0 1 1,
    .avdd33Low 0,
    .powerOn 0 1].all (fun i : Instr => i.wf == true) = true := by decide

theorem test_wf_accepts_2 : [
    .governorWindow 0,
    .domainPowerGood 0 1,
    .domainFault 0 1,
    .keepOff 0 aReq 1 [1],
    .xoNoStart 0,
    .supplyTrip 0 .vcore,
    .supplyClear 0 .vcore,
    .crimsonResume 0,
    .crimsonAck 0 aReq,
    .crimsonCauseRead 0 aReq 1,
    .avsHoldEnd 0,
    .avsEvaluate 0,
    .pmbusAck 0 .nack,
    .pmbusRetry 0,
    .avsLostRetry 0,
    .ceiling 0 aReq [1],
    .xoAmplitude 0 true,
    .xoStabilityCountDone 0 1,
    .xoMissingEdge 0,
    .forceSwitch 0 aReq 1 1,
    .muxSwitchComplete 0 .ptp,
    .muxSourceEdges 0 .ptp,
    .muxHang 0 .ptp,
    .gateClose 0 1,
    .pwmSpreadUpdate 0,
    .synAcquisitionStart 0 .a,
    .synLock 0 .a true true,
    .synUnlock 0 .a true,
    .synReacquire 0 .a,
    .synAcquisitionFail 0 .a,
    .synFaultRetry 0 .a,
    .refScale 0 aReq .a [1],
    .leader 0 aReq 1 [1],
    .loopUpdate 0 1,
    .loopAcquireEnd 0 1,
    .loopHoldover 0 1,
    .ckoChange 0 1,
    .combinerCrossfade 0 1,
    .combinerReturn 0 1,
    .inputOverload 0 1].all (fun i : Instr => i.wf == true) = true := by decide

theorem test_wf_accepts_3 : [
    .inputOverloadRecovery 0 1,
    .inputClampEngage 0 1,
    .inputClampRelease 0 1,
    .referenceSettled 0 1,
    .refFault 0 1,
    .refRecover 0 1,
    .overLatch 0 aReq 1 [1],
    .phantomFrame 0 1,
    .phAlert 0 [0, 0, 0],
    .phSettleEnd 0 1,
    .asrcAcquired 0 1,
    .asrcUnlock 0 1,
    .layoutRestart 0,
    .blockLiveValue 0 aReq 1 1 [1],
    .meterPeriod 0 1,
    .meterRead 0 aReq 1 1 1,
    .cmReady 0 1,
    .cmFallEnd 0 1,
    .hpBiasReady 0,
    .hpBiasFallEnd 0,
    .outModeSwitch 0 1,
    .currentLimitWindow 0 (.hpL 1) true,
    .scRetry 0 .scan,
    .faultClear 0 aReq 1,
    .jackEdge 0 1,
    .jackDebounceEnd 0 1,
    .jackMeasureEnd 0 1 1 1,
    .jackRemove 0 1,
    .jackAction 0 aReq 1 true [1],
    .pwmEnLeadEnd 0 1,
    .pwmEnSettleEnd 0 1,
    .pwmStopLeadEnd 0 1,
    .pwmEdgeEvent 0 1,
    .portFrame 0 1 .tx (.start 0),
    .sapClockLost 0 1 .tx,
    .linkUp 0 .cha,
    .linkDown 0 .cha,
    .helloSend 0 .cha,
    .hello 0 .cha 1 1 1 1 1,
    .edgeTimeout 0 .cha].all (fun i : Instr => i.wf == true) = true := by decide

theorem test_wf_accepts_4 : [
    .headClaim 0,
    .headElection 0,
    .topology 0 .cha (.enumerate 1),
    .cycleStartSend 0,
    .cycleStart 0 .cha aStart,
    .audio 0 .cha anAudio,
    .frameForward 0 .cha aFrame,
    .transaction 0 .cha aTrans,
    .peerDelay 0 .cha 1,
    .chainJoin 0,
    .joinRetry 0,
    .nodeRelease 0 1,
    .chainHoldover 0,
    .chainSyncLoss 0,
    .shareRequest 0 aReq [1],
    .share 0 (.request 1 1),
    .presentationChange 0,
    .flowLost 0 1,
    .altSourceSwitch 0 1,
    .aes67Packet 0 .cha aPacket,
    .sendBeacon 0 aReq [1],
    .beaconRequest 0 .cha 1,
    .beaconReceive 0 .cha 1 1 true,
    .heartbeatSend 0,
    .heartbeat 0 aMsg,
    .arbBeat 0 aMsg,
    .revoke 0 aMsg,
    .released 0 aMsg,
    .heartbeatWindow 0 1 1,
    .peerActIn 0 true,
    .interlockWaitEnd 0,
    .revokeTimeout 0 1,
    .selfRelease 0,
    .arbiterLost 0,
    .takeoverRampStart 0,
    .selfCheckPass 0,
    .revertHoldoffEnd 0,
    .switchRequest 0 aReq [1],
    .grantTo 0 aReq 1 [1],
    .arbiterStart 0 1].all (fun i : Instr => i.wf == true) = true := by decide

theorem test_wf_accepts_5 : [
    .listenFrame 0 aListen,
    .hangEnd 0,
    .matcherFrame 0 (List.replicate 16 0) [0, 0, 0] 1,
    .ringOverlapEnd 0,
    .ringRelease 0 aReq,
    .readerAtEnd 0 1,
    .feedSwitch 0,
    .frontEndSettled 0,
    .hkConversionComplete 0 1 0,
    .calibrationComplete 0,
    .hkTimer 0,
    .swTrigger 0 aReq,
    .pwmDelayEnd 0,
    .urgentBank 0 aReq [1],
    .urgentSlice 0 aReq [1],
    .supervisionScan 0,
    .refSource 0 aReq [1],
    .refSettled 0,
    .windowMode 0 aReq [1],
    .mainsEdge 0,
    .mainsLoss 0,
    .hkResultRead 0 aReq 1,
    .deviceId 0,
    .status 0,
    .request 0 aWrite,
    .response 0 true,
    .responseLen 0,
    .resend 0,
    .attention 0 .twb0,
    .unknownCommand 0 1,
    .startInAck 0,
    .stretchTimeout 0,
    .sclTimeout 0,
    .hostNotify 0 true,
    .notifyRetry 0 true,
    .arbitrationLost 0 1 .data,
    .busRecovery 0 1 1,
    .busStuckRetry 0 1 1,
    .hspiRequest 0 [1] 1,
    .fetch 0 true].all (fun i : Instr => i.wf == true) = true := by decide

theorem test_wf_accepts_6 : [
    .hspiStatus 0 true,
    .refetch 0 true,
    .push 0 1 [1] 1,
    .pushEnd 0 1 1 anImage,
    .hspiFrameAbort 0,
    .bootImageAccepted 0 anImage [1],
    .bootRetry 0,
    .recipeRecords 0,
    .verifySlot 0 aReq [1] true,
    .commitSv 0 aReq,
    .memTrainingStart 0,
    .memReady 0 1 1,
    .memTrainFail 0,
    .zqCalibration 0,
    .dqsCheck 0 true,
    .mr4Poll 0 1 true,
    .memFault 0 .clock,
    .autoRetrain 0,
    .retrain 0 aReq,
    .transportCommand 0 aReq 1 [1],
    .transportStart 0 1,
    .counterSource 0 aReq 1 [1],
    .counterClear 0 aReq 1,
    .snapNow 0 aReq,
    .snapChain 0 aReq,
    .snapshot 0 1 1,
    .snapAtReached 0,
    .testRun 0 aReq,
    .testItemComplete 0 1,
    .avdd33RetentionLoss 0,
    .bootFail 0,
    .scanConversionDue 0,
    .jackAbsent 0 1,
    .edgePtpMessage 0 .cha true 0].all (fun i : Instr => i.wf == true) = true := by decide

theorem test_wf_refuses_1 : [
    .transactionArrive 0 badReq [1],
    .read 0 badReq 1 1 1,
    .read 0 aReq 65536 1 1,
    .read 0 aReq 1 256 1,
    .read 0 aReq 1 1 65536,
    .write 0 badReq 1 1 [1],
    .write 0 aReq 65536 1 [1],
    .write 0 aReq 1 256 [1],
    .stage 0 badReq 1 1 [1],
    .stage 0 aReq 65536 1 [1],
    .stage 0 aReq 1 256 [1],
    .blockRead 0 badReq 1 1 1 1,
    .blockRead 0 aReq 65536 1 1 1,
    .blockRead 0 aReq 1 256 1 1,
    .blockRead 0 aReq 1 1 4294967296 1,
    .blockRead 0 aReq 1 1 1 65536,
    .blockWrite 0 badReq 1 1 1 [1],
    .blockWrite 0 aReq 65536 1 1 [1],
    .blockWrite 0 aReq 1 256 1 [1],
    .blockWrite 0 aReq 1 1 4294967296 [1],
    .unknownOp 0 badReq 1,
    .unknownOp 0 aReq 256,
    .commit 0 badReq,
    .discard 0 badReq,
    .stageTimeout 0 (.chain (2 ^ 64)),
    .blockOpen 0 badReq 1 [1],
    .blockOpen 0 aReq 65536 [1],
    .blockClose 0 badReq 1 true [1]].all (fun i : Instr => i.wf == false) = true := by decide

theorem test_wf_refuses_2 : [
    .blockClose 0 aReq 65536 true [1],
    .lock 0 badReq,
    .readFrom 0 badReq [1],
    .entriesRead 0 badReq 1,
    .entriesRead 0 aReq 65536,
    .journalAck 0 256 1,
    .journalAck 0 1 4294967296,
    .tick 0 3 anEnv,
    .tick 0 1 { anEnv with lateLines := [256] },
    .fabricPartApply 0 3,
    .laneFrameFinish 0 128,
    .drainComplete 0 (.input 0),
    .functionRampEnd 0 (.input 0),
    .quiesceForced 0 (.input 0),
    .startPendingStart 0 (.input 0),
    .gainRampEnd 0 (.gen 16),
    .crossfadeEnd 0 2048,
    .targetMode 0 badReq [1],
    .wakeSourceFire 0 (.beacon 256 0),
    .resetNHigh 0 16 1,
    .resetNHigh 0 1 4,
    .powerOn 0 256,
    .domainPowerGood 0 12,
    .domainFault 0 12,
    .keepOff 0 badReq 1 [1],
    .keepOff 0 aReq 12 [1],
    .crimsonAck 0 badReq,
    .crimsonCauseRead 0 badReq 1].all (fun i : Instr => i.wf == false) = true := by decide

theorem test_wf_refuses_3 : [
    .crimsonCauseRead 0 aReq 65536,
    .pmbusAck 0 (.ack 256),
    .ceiling 0 badReq [1],
    .xoStabilityCountDone 0 65536,
    .forceSwitch 0 badReq 1 1,
    .forceSwitch 0 aReq 65536 1,
    .forceSwitch 0 aReq 1 256,
    .muxSwitchComplete 0 (.sap 16 .tx),
    .muxSourceEdges 0 (.sap 16 .tx),
    .muxHang 0 (.sap 16 .tx),
    .gateClose 0 16,
    .refScale 0 badReq .a [1],
    .leader 0 badReq 1 [1],
    .leader 0 aReq 2 [1],
    .loopUpdate 0 2,
    .loopAcquireEnd 0 2,
    .loopHoldover 0 2,
    .ckoChange 0 4,
    .combinerCrossfade 0 49,
    .combinerReturn 0 49,
    .inputOverload 0 49,
    .inputOverloadRecovery 0 49,
    .inputClampEngage 0 49,
    .inputClampRelease 0 49,
    .referenceSettled 0 6,
    .refFault 0 6,
    .refRecover 0 6,
    .overLatch 0 badReq 1 [1]].all (fun i : Instr => i.wf == false) = true := by decide

theorem test_wf_refuses_4 : [
    .overLatch 0 aReq 49 [1],
    .phantomFrame 0 (2 ^ 48),
    .phAlert 0 [0, 0],
    .phAlert 0 [0, 0, 2 ^ 48],
    .phSettleEnd 0 49,
    .asrcAcquired 0 256,
    .asrcUnlock 0 256,
    .blockLiveValue 0 badReq 1 1 [1],
    .blockLiveValue 0 aReq 128 1 [1],
    .blockLiveValue 0 aReq 1 64 [1],
    .meterPeriod 0 3,
    .meterRead 0 badReq 1 1 1,
    .meterRead 0 aReq 65536 1 1,
    .meterRead 0 aReq 1 256 1,
    .meterRead 0 aReq 1 1 65536,
    .cmReady 0 2,
    .cmFallEnd 0 2,
    .outModeSwitch 0 24,
    .currentLimitWindow 0 (.hpR 3) true,
    .scRetry 0 (.input 0),
    .faultClear 0 badReq 1,
    .faultClear 0 aReq 65536,
    .jackEdge 0 3,
    .jackDebounceEnd 0 3,
    .jackMeasureEnd 0 3 1 1,
    .jackMeasureEnd 0 1 65536 1,
    .jackMeasureEnd 0 1 1 65536,
    .jackRemove 0 3].all (fun i : Instr => i.wf == false) = true := by decide

theorem test_wf_refuses_5 : [
    .jackAction 0 badReq 1 true [1],
    .jackAction 0 aReq 3 true [1],
    .pwmEnLeadEnd 0 17,
    .pwmEnSettleEnd 0 17,
    .pwmStopLeadEnd 0 17,
    .pwmEdgeEvent 0 17,
    .portFrame 0 16 .tx (.start 0),
    .portFrame 0 1 .tx (.start 65536),
    .sapClockLost 0 16 .tx,
    .hello 0 .cha (2 ^ 64) 1 1 1 1,
    .hello 0 .cha 1 65536 1 1 1,
    .hello 0 .cha 1 1 (2 ^ 64) 1 1,
    .hello 0 .cha 1 1 1 256 1,
    .hello 0 .cha 1 1 1 1 4,
    .topology 0 .cha (.enumerate 65536),
    .cycleStart 0 .cha { aStart with nodes := 65536 },
    .audio 0 .cha { anAudio with hdr := badHdr },
    .frameForward 0 .cha { aFrame with hdr := badHdr },
    .transaction 0 .cha { aTrans with target := 2 ^ 64 },
    .nodeRelease 0 65536,
    .shareRequest 0 badReq [1],
    .share 0 (.request 1 17),
    .flowLost 0 32,
    .altSourceSwitch 0 32,
    .aes67Packet 0 .cha { aPacket with pt := 128 },
    .sendBeacon 0 badReq [1],
    .beaconRequest 0 .cha 256,
    .beaconReceive 0 .cha 256 1 true].all (fun i : Instr => i.wf == false) = true := by decide

theorem test_wf_refuses_6 : [
    .beaconReceive 0 .cha 1 256 true,
    .heartbeat 0 { aMsg with role := 256 },
    .arbBeat 0 { aMsg with role := 256 },
    .revoke 0 { aMsg with role := 256 },
    .released 0 { aMsg with role := 256 },
    .heartbeatWindow 0 16 1,
    .heartbeatWindow 0 1 2,
    .revokeTimeout 0 16,
    .switchRequest 0 badReq [1],
    .grantTo 0 badReq 1 [1],
    .grantTo 0 aReq 16 [1],
    .arbiterStart 0 16,
    .listenFrame 0 { aListen with score := 1001 },
    .matcherFrame 0 [] [0, 0, 0] 1,
    .matcherFrame 0 (List.replicate 16 0) (List.replicate 9 0) 1,
    .ringRelease 0 badReq,
    .readerAtEnd 0 8,
    .hkConversionComplete 0 5 0,
    .swTrigger 0 badReq,
    .urgentBank 0 badReq [1],
    .urgentSlice 0 badReq [1],
    .refSource 0 badReq [1],
    .windowMode 0 badReq [1],
    .hkResultRead 0 badReq 1,
    .hkResultRead 0 aReq 65536,
    .request 0 { aWrite with count := 256 },
    .attention 0 (.object aReq 65536),
    .unknownCommand 0 256].all (fun i : Instr => i.wf == false) = true := by decide

theorem test_wf_refuses_7 : [
    .arbitrationLost 0 2 .data,
    .busRecovery 0 2 1,
    .busStuckRetry 0 2 1,
    .hspiRequest 0 [1] (2 ^ 32),
    .push 0 (2 ^ 32) [1] 1,
    .push 0 1 [1] (2 ^ 32),
    .pushEnd 0 (2 ^ 32) 1 anImage,
    .pushEnd 0 1 (2 ^ 32) anImage,
    .pushEnd 0 1 1 { anImage with source := 0 },
    .bootImageAccepted 0 { anImage with source := 0 } [1],
    .verifySlot 0 badReq [1] true,
    .commitSv 0 badReq,
    .mr4Poll 0 8 true,
    .retrain 0 badReq,
    .transportCommand 0 badReq 1 [1],
    .transportCommand 0 aReq 8 [1],
    .transportStart 0 8,
    .counterSource 0 badReq 1 [1],
    .counterSource 0 aReq 64 [1],
    .counterClear 0 badReq 1,
    .counterClear 0 aReq 64,
    .snapNow 0 badReq,
    .snapChain 0 badReq,
    .snapshot 0 (2 ^ 64) 1,
    .snapshot 0 1 (2 ^ 32),
    .testRun 0 badReq,
    .testItemComplete 0 (2 ^ 16),
    .jackAbsent 0 3].all (fun i : Instr => i.wf == false) = true := by decide

theorem test_wf_requests : (aReq.wf, badReq.wf, ({ aReq with node := 65536 } : Req).wf, ({ aReq with who := .chain (2 ^ 64) } : Req).wf) =
    (true, false, false, false) := by decide

theorem test_wf_functions :
    [Func.lane 128, .bus 256, .route 2048, .input 0, .output 49, .hp 0, .pwm 17, .sapTx 16, .sapRx 16, .flowTx 16, .flowRx 32,
     .aes 16, .cap 256, .play 256, .delayLine 256, .link 16, .cko 4, .pd 12, .reader 8].all (fun f => f.wf == false) = true ∧
    [Func.lane 127, .bus 255, .route 2047, .input 48, .output 1, .hp 2, .pwm 16, .sapTx 15, .sapRx 15, .flowTx 15, .flowRx 31,
     .aes 15, .cap 255, .play 255, .delayLine 255, .link 15, .cko 3, .pd 11, .reader 7, .syn .s, .scan, .listen, .mem,
     .selftest].all Func.wf = true := by decide

theorem test_wf_sites :
    [RampSite.input 49, .output 0, .hp 3, .pwm 0, .bus 256, .contrib 256 0, .contrib 0 128, .link 16, .gen 16, .block 128 0,
     .block 0 64].all (fun x => x.wf == false) = true ∧
    [RampSite.input 48, .output 1, .hp 1, .pwm 1, .bus 255, .contrib 255 127, .link 15, .gen 15, .block 127 63,
     .pair].all RampSite.wf = true ∧
    [LimitCh.line 0, .hpL 3, .hpR 0].all (fun x => x.wf == false) = true := by decide

theorem test_wf_inputs :
    [({ anEnv with inputs := [{ n := 0, code := 0, clip := false, comb := [] }] } : TickEnv), { anEnv with lateBuses := [256] },
     { anEnv with lateLines := [256] }, { anEnv with lateCaps := [256] }, { anEnv with latePlays := [256] }].all
      (fun e => e.wf == false) = true ∧ anEnv.wf = true ∧
    [WakeSource.beacon 256 0, .beacon 0 256].all (fun x => x.wf == false) = true ∧
    [PortEvent.start 65536, .complete (List.replicate 33 0), .complete [2 ^ 32]].all (fun x => x.wf == false) = true ∧
    [({ aListen with ch1 := [] } : ListenEnv), { aListen with ch2 := [] }, { aListen with score := 1001 }].all
      (fun x => x.wf == false) = true ∧
    [({ aWrite with count := 256 } : TwbWrite), { aWrite with bytes := List.replicate 256 0 }].all (fun x => x.wf == false) = true ∧
    [AttnVia.object badReq 0, .object aReq 65536].all (fun x => x.wf == false) = true := by decide +kernel

theorem test_wf_headers :
    [({ aHdr with version := 256 } : FrameHdr), { aHdr with kind := 256 }, { aHdr with cycle := 2 ^ 32 }, { aHdr with src := 2 ^ 40 },
     { aHdr with srcNode := 65536 }, { aHdr with dst := 65536 }, { aHdr with hops := 256 }, { aHdr with flags := 256 },
     { aHdr with field := 65536 }].all (fun h => h.wf == false) = true ∧ aHdr.wf = true ∧
    [({ aStart with hdr := badHdr } : CycleStartFrame), { aStart with time := 2 ^ 64 }, { aStart with presentation := 65536 },
     { aStart with nodes := 65536 }, { aStart with topology := 2 ^ 32 }, { aStart with headId := 2 ^ 64 }].all
      (fun f => f.wf == false) = true ∧
    [({ aTrans with hdr := badHdr } : TransFrame), { aTrans with requester := 2 ^ 64 }, { aTrans with target := 2 ^ 64 },
     { aTrans with body := List.replicate 1465 0 }].all (fun f => f.wf == false) = true := by decide +kernel

theorem test_wf_messages :
    [TopoMsg.claim (2 ^ 64) 0 false, .claim 0 256 false, .enumerate 65536, .joinRequest (2 ^ 64) 0, .joinRequest 0 65536,
     .joinGrant (2 ^ 64) 0, .joinGrant 0 65536, .joinRefuse (2 ^ 64) 0, .joinRefuse 0 256].all (fun m => m.wf == false) = true ∧
    [ShareMsg.request (2 ^ 64) 1, .request 0 17, .grant (2 ^ 64) 1 1, .grant 0 17 1, .grant 0 1 161, .refuse (2 ^ 64) 0,
     .refuse 0 161].all (fun m => m.wf == false) = true ∧
    [({ aPacket with ip := 2 ^ 32 } : RtpPacket), { aPacket with udp := 65536 }, { aPacket with pt := 128 },
     { aPacket with timestamp := 2 ^ 32 }].all (fun p => p.wf == false) = true ∧
    [({ aMsg with pair := 65536 } : PairMsg), { aMsg with msg := 256 }, { aMsg with member := 2 ^ 64 }, { aMsg with epoch := 2 ^ 32 },
     { aMsg with role := 256 }, { aMsg with mode := 256 }, { aMsg with health := 256 }].all (fun m => m.wf == false) = true ∧
    [({ anImage with source := 0 } : BootImage), { anImage with source := 4 }, { anImage with keyHash := [] },
     { anImage with fwVersion := 2 ^ 32 }, { anImage with secVersion := 2 ^ 32 }].all (fun i => i.wf == false) = true := by decide

/-! ## Worked examples of the spec -/

/-- Worked example "three packings of two samples", sample a. -/
def sampleA : Sample := { w := 0x04000000, v := true, o := false, s := false, n := false, q := true }
/-- Worked example "three packings of two samples", sample b. -/
def sampleB : Sample := { w := 0xF7000000, v := true, o := false, s := false, n := false, q := false }

/-- 24-in-4 words, 24-in-3 codes and 32-in-4 words of the table. -/
theorem test_packings : (pack 1 sampleA, pack 0 sampleA, pack 2 sampleA) = ((0x40000088, false), (0x400000, false), (0x04000000, false)) ∧
    (pack 1 sampleB, pack 0 sampleB, pack 2 sampleB) = ((0x800001C0, true), (0x800001, true), (0xF7000000, false)) := by decide

/-- "Read back from 24-in-3, sample b unpacks to −(2^27 − 16) with V=1 and no O." -/
theorem test_unpack_b : (unpack 0 0x800001).w.toInt = -(2 ^ 27 - 16) ∧ (unpack 0 0x800001).v = true ∧ (unpack 0 0x800001).o = false := by
  decide

/-- R240's table: 3,000 steps at 96 kHz and 750 mV, 4,000 at 850 mV. -/
theorem test_budgets : (budget 96000 750, budget 96000 850) = (3000, 4000) := by decide

/-- The HF recipe of the worked example "a three-way loudspeaker processor". -/
def hfRecipe : List (Nat × Nat) :=
  [(0x0A, 8), (1, 0), (1, 0), (1, 0), (1, 0), (1, 0), (1, 0), (6, 2), (2, 3072), (3, 43), (5, 48), (4, 0), (7, 0), (8, 0)]

/-- Its steps with the lane overhead, coefficient bytes, state bytes and pages, as the example adds them up. -/
theorem test_hf_recipe : (8 + (hfRecipe.map fun x => blockSteps x.1 x.2).sum, (hfRecipe.map fun x => paramLen x.1 x.2).sum,
    (hfRecipe.map fun x => blockState x.1 x.2).sum, pages 12528, pages 13019) = (3190, 12528, 13019, 49, 51) := by decide

/-- "A change from 40.00 dB to 44.50 dB reaches 42.00 dB at i = 426", in hundredths of a dB and rounded down. -/
theorem test_vocal_ramp : ((({ g0 := some 4000, g1 := some 4450, i := 0, len := 960 } : Ramp).gainAt 426).map Rat.floor) = some 4200 := by
  decide +kernel

/-- The checks of the two CRCs on the digits 1 to 9: 29B1h with this polynomial and start (R480), CBF43926h for IEEE 802.3 (R57). -/
theorem test_crcs : crc16 [0x31, 0x32, 0x33, 0x34, 0x35, 0x36, 0x37, 0x38, 0x39] = 0x29B1 ∧
    crc32 [0x31, 0x32, 0x33, 0x34, 0x35, 0x36, 0x37, 0x38, 0x39] = 0xCBF43926 := by decide +kernel

/-! ## States -/

/-- The device in TEAL after boot, with XO stable and the outputs out of their safe state. -/
def live : State := { State.reset with ms := { ModeState.reset with mode := .teal, entered := .teal, booted := true, resetHigh := true }, clk := { Clocks.reset with amp := true, stable := true, armed := true }, outs := { State.reset.outs with safe := false } }

/-- A running function. -/
def runF : FuncState := { FuncState.off with phase := .running }

/-- The state with the given power domains on. -/
def pds (l : List Nat) (s : State) : State := l.foldl (fun s i => s.setFn (.pd i) runF) s

/-- The state in which a phantom supply may be switched on. -/
def phOn : State := (pds [3] live).wr 0x3001 0x10 1

/-- The device in TEAL with the control processor and the host ports running. -/
def sr : State := pds [2, 3] live

/-- A member of pair 7. -/
def pr : State := (live.wr 0x4100 1 1).wr 0x4100 3 7

/-- An arbiter of one pair. -/
def arbS : State := ((((({ live with net := { Net.reset with st := 4 } }.wr 0x4101 1 1).wr 0x4101 2 0).wr 0x4110 1 7).wr 0x4110 2 11).wr 0x4110 3 12)

/-- The state with memory powered. -/
def mp : State := (pds [2, 3, 10] live).setFn (.syn .s) runF

/-- A pair member that meets the checks of R411. -/
def rdy : State := (((((({ pr with ms := { pr.ms with avsOk := true, recipesLoaded := true } }.wr 0x201A 4 1).wr 0x201B 4 1).setFn (.syn .a) runF).setFn (.syn .b) runF).setFn (.syn .s) runF).wr 0x4100 7 1).wr 0x4100 8 0

/-- A journal entry of a write. -/
def ent0 : Entry := { seq := 5, kind := .write, origin := 1, status := 0, node := 0xFFFF, time := 0, index := 0x1010, sub := 6, synced := false, hashed := false, value := 2 }

/-- A node that pushes its journal. -/
def psh : State := { { pds [11] sr with net := { Net.reset with st := 3 } }.wr 0x1F00 8 5 with journal := { live.journal with head := 5, ring := [ent0], pushNext := 5, pushAcked := 4 } }

/-- The same with nothing left to push. -/
def psh2 : State := { psh with journal := { psh.journal with pushNext := 6 } }

/-! ## Steps of the worked examples -/

/-- Worked example "a read of 3104h.02 over TWB0": OUT_MODE of the pair of OUT4 is 01h and HEAD_SEQ is 48,218. -/
def out4 : State := { sr.wr (pairIndex 4) 2 1 with journal := { sr.journal with head := 48218 } }

/-- What a command leaves, for commands that answer a next state. -/
def after (o : Host.Outcome State Fault Refusal) (f : State → State) (s : State) : State :=
  match o with
  | .next u => f u
  | _ => s

/-- Steps 1 and 2 of the example, the execution, and the block that step 5 sends. -/
theorem test_twb0_read :
    (after (execRequest 0 { count := 8, bytes := [0x01, 0x2A, 0x04, 0x31, 0x02, 0x00, 0x00, 0x00], pec := none } out4)
      (fun s => after (execRead 0 { who := .twb0, node := 0xFFFF, tid := 0x2A } 0x3104 2 0 s)
        (fun u => after (execResponse 0 true u) id u) s) out4).host.sentTwb =
      [0x0B, 0x81, 0x2A, 0x00, 0x00, 0x5A, 0xBC, 0x00, 0x00, 0x01, 0x00, 0x01] := by decide +kernel

/-! ## Hypotheses that can be met -/

theorem meets_InputCombinerAndOverload_0_combinerCrossfade : ∃ (t : Nat) (n : Nat) (s : State),
    isInput n = true ∧
    ((s.clock t).fn (.input n)).active = true ∧
    ((s.clock t).inp n).lg = false :=
  ⟨0, 1, (live.setFn (.input 1) runF), by decide⟩

theorem meets_InputCombinerAndOverload_1_combinerReturn : ∃ (t : Nat) (n : Nat) (s : State),
    isInput n = true ∧
    ((s.clock t).fn (.input n)).active = true ∧
    ((s.clock t).inp n).lg = true ∧
    ((s.clock t).inp n).lgAt + 50000000 ≤ (s.clock t).now :=
  ⟨50000000, 1, ((live.setFn (.input 1) runF).setInp 1 { InputCh.reset with lg := true }), by decide⟩

theorem meets_InputCombinerAndOverload_2_inputOverload : ∃ (t : Nat) (n : Nat) (s : State),
    isInput n = true ∧
    (s.clock t).busyFn (.input n) = true ∧
    ((s.clock t).inp n).ovl = false :=
  ⟨0, 1, (live.setFn (.input 1) runF), by decide⟩

theorem meets_InputCombinerAndOverload_3_inputOverloadRecovery : ∃ (t : Nat) (n : Nat) (s : State),
    isInput n = true ∧
    ((s.clock t).inp n).ovl = true :=
  ⟨0, 1, ((live.setFn (.input 1) runF).setInp 1 { InputCh.reset with ovl := true }), by decide⟩

theorem meets_InputCombinerAndOverload_4_inputClampEngage : ∃ (t : Nat) (n : Nat) (s : State),
    isInput n = true ∧
    ((s.clock t).refGroup ((n - 1) / 8)).on = true ∧
    ((s.clock t).inp n).clamp = false :=
  ⟨0, 1, (live.setRef 0 { RefGroup.off with on := true }), by decide⟩

theorem meets_InputCombinerAndOverload_5_inputClampRelease : ∃ (t : Nat) (n : Nat) (s : State),
    isInput n = true ∧
    ((s.clock t).inp n).clamp = true :=
  ⟨0, 1, ((live.setFn (.input 1) runF).setInp 1 { InputCh.reset with clamp := true }), by decide⟩

theorem meets_InputReferencesAndPhantom_0_referenceSettled : ∃ (t : Nat) (g : Nat) (s : State),
    ((s.clock t).refGroup g).on = true ∧
    ((s.clock t).refGroup g).settled = false ∧
    ((s.clock t).refGroup g).settleAt ≤ (s.clock t).now :=
  ⟨0, 0, (live.setRef 0 { RefGroup.off with on := true }), by decide⟩

theorem meets_InputReferencesAndPhantom_1_refFault : ∃ (t : Nat) (g : Nat) (s : State),
    ((s.clock t).refGroup g).on = true ∧
    ((s.clock t).refGroup g).fault = false :=
  ⟨0, 0, (live.setRef 0 { RefGroup.off with on := true }), by decide⟩

theorem meets_InputReferencesAndPhantom_2_refRecover : ∃ (t : Nat) (g : Nat) (s : State),
    ((s.clock t).refGroup g).fault = true ∧
    ((s.clock t).refGroup g).faultAt + 10000000 ≤ (s.clock t).now :=
  ⟨10000000, 0, (live.setRef 0 { RefGroup.off with on := true, fault := true }), by decide⟩

theorem meets_InputReferencesAndPhantom_3_phantomFrame : ∃ (t : Nat) (faults : Nat) (s : State),
    (s.clock t).phRuns = true ∧
    (s.clock t).phantom.lastAt + 200000 ≤ (s.clock t).now :=
  ⟨300000, 5, phOn, by decide⟩

theorem meets_InputReferencesAndPhantom_4_phAlert : ∃ (t : Nat) (b0 b1 b2 : Nat) (s : State),
    (s.clock t).phRuns = true :=
  ⟨300000, 0, 0, 0, phOn, by decide⟩

theorem meets_InputReferencesAndPhantom_5_phSettleEnd : ∃ (t : Nat) (n : Nat) (s : State),
    isInput n = true ∧
    ((s.clock t).inp n).phCyc = .held ∧
    ((s.clock t).inp n).phUntil ≤ (s.clock t).now :=
  ⟨0, 1, ((live.setFn (.input 1) runF).setInp 1 { InputCh.reset with phCyc := .held }), by decide⟩

theorem meets_RouterEvents_0_crossfadeEnd : ∃ (t : Nat) (p : Nat) (y : XFade) (s : State),
    ((s.clock t).route p).xf = some y ∧
    y.len ≤ y.pos :=
  ⟨0, 3, { old := 0, pos := 4, len := 4 }, (live.setRoute 3 { RouteState.none with xf := some { old := 0, pos := 4, len := 4 } }), by decide⟩

theorem meets_RouterEvents_1_asrcAcquired : ∃ (t : Nat) (ch : Nat) (c : AsrcCh) (s : State),
    (s.clock t).asrc ch = some c ∧
    c.phase = .acquiring ∧
    c.buf ≠ [] ∧
    ((s.clock t).rationalBridge c = false ∨ c.at_ + 1000000 ≤ (s.clock t).now) :=
  ⟨0, 2, { point := 0, sink := false, inDom := 3, outDom := 0, phase := .acquiring, pos := 5, buf := [(0, .off)], at_ := 0, per := 0, outp := .off }, (live.setAsrc 2 (some { point := 0, sink := false, inDom := 3, outDom := 0, phase := .acquiring, pos := 5, buf := [(0, .off)], at_ := 0, per := 0, outp := .off })), by decide⟩

theorem meets_RouterEvents_2_asrcUnlock : ∃ (t : Nat) (ch : Nat) (c : AsrcCh) (s : State),
    (s.clock t).asrc ch = some c ∧
    (c.phase = .pass ∨ c.phase = .rampIn) ∧
    (s.clock t).rationalBridge c = false ∧
    (s.clock t).asrcLost c = true :=
  ⟨0, 2, { point := 0, sink := false, inDom := 3, outDom := 0, phase := .pass, pos := 5, buf := [], at_ := 0, per := 0, outp := .off }, (live.setAsrc 2 (some { point := 0, sink := false, inDom := 3, outDom := 0, phase := .pass, pos := 5, buf := [], at_ := 0, per := 0, outp := .off })), by decide⟩

theorem meets_GainRampsEnd_0_gainRampEnd : ∃ (t : Nat) (n : Nat) (s : State),
    ((s.clock t).inp n).gain.live = false :=
  ⟨0, 1, live, by decide⟩

theorem meets_GainRampsEnd_1_gainRampEnd : ∃ (t : Nat) (n : Nat) (s : State),
    ((s.clock t).out n).gain.live = false :=
  ⟨0, 1, live, by decide⟩

theorem meets_GainRampsEnd_2_gainRampEnd : ∃ (t : Nat) (n : Nat) (s : State),
    ((s.clock t).hp n).gain.live = false :=
  ⟨0, 1, live, by decide⟩

theorem meets_GainRampsEnd_3_gainRampEnd : ∃ (t : Nat) (n : Nat) (s : State),
    ((s.clock t).pwm n).gain.live = false :=
  ⟨0, 1, live, by decide⟩

theorem meets_GainRampsEnd_4_gainRampEnd : ∃ (t : Nat) (b : Nat) (s : State),
    ((s.clock t).bus b).gain.live = false :=
  ⟨0, 1, live, by decide⟩

theorem meets_GainRampsEnd_5_gainRampEnd : ∃ (t : Nat) (b c : Nat) (y : Contrib) (s : State),
    look .unused ((s.clock t).bus b).contribs c = y ∧
    y.ramp.live = false :=
  ⟨0, 1, 2, Contrib.unused, live, by decide⟩

theorem meets_GainRampsEnd_6_gainRampEnd : ∃ (t : Nat) (l : Nat) (s : State),
    ((s.clock t).dlink l).gain.live = false ∧
    ((s.clock t).dlink l).routed.live = false :=
  ⟨0, 1, live, by decide⟩

theorem meets_GainRampsEnd_7_gainRampEnd : ∃ (t : Nat) (g : Nat) (s : State),
    ((s.clock t).gen g).level.live = false :=
  ⟨0, 1, live, by decide⟩

theorem meets_GainRampsEnd_8_gainRampEnd : ∃ (t : Nat) (n b : Nat) (y : BlockSt) (s : State),
    ((s.clock t).lane n).st = [y] ∧
    y.ramp.live = false :=
  ⟨0, 1, 0, (BlockSt.fresh 0), (live.setLane 1 { LaneState.empty with st := [BlockSt.fresh 0] }), by decide⟩

theorem meets_GainRampsEnd_9_gainRampEnd : ∃ (t : Nat) (s : State),
    (s.clock t).pair.leaving = true ∧
    (s.clock t).pair.ramp.live = false :=
  ⟨0, { live with pair := { live.pair with leaving := true } }, by decide⟩

theorem meets_RateDomainTicks_0_tick : ∃ (t : Nat) (d : Nat) (env : TickEnv) (s : State),
    d < 3 ∧
    (s.clock t).tickDue d = true :=
  ⟨0, 0, { inputs := [], lateBuses := [], lateLines := [], lateCaps := [], latePlays := [] }, (live.setDom 0 { DomState.off with running := true }), by decide⟩

theorem meets_RateDomainTicks_1_tick : ∃ (t : Nat) (env : TickEnv) (s : State),
    ((s.clock t).talking = true ∨ (s.clock t).talks 1 = true) ∧
    ((s.clock t).dom 3).tickAt + 62500 ≤ (s.clock t).now :=
  ⟨62500, { inputs := [], lateBuses := [], lateLines := [], lateCaps := [], latePlays := [] }, { live with ms := { live.ms with mode := .amber }, outs := { live.outs with talkback := true } }, by decide⟩

theorem meets_RateDomainTicks_2_laneFrameFinish : ∃ (t : Nat) (n : Nat) (s : State),
    ((s.clock t).fn (.lane n)).active = true ∧
    ((s.clock t).lane n).busy = true ∧
    ((s.clock t).lane n).done = false :=
  ⟨0, 5, ((live.setFn (.lane 5) runF).setLane 5 { LaneState.empty with busy := true }), by decide⟩

theorem meets_RateDomainTicks_3_fabricPartApply : ∃ (t : Nat) (d : Nat) (s : State),
    (s.clock t).tickDue d = true :=
  ⟨0, 0, (live.setDom 0 { DomState.off with running := true }), by decide⟩

theorem meets_RateDomainTicks_4_meterPeriod : ∃ (t : Nat) (d : Nat) (s : State),
    (s.clock t).meterDue d = true ∧
    (∀ x ∈ (s.clock t).meters, (s.clock t).meterDom x.1 = d → x.2.cnt ≠ 0) :=
  ⟨0, 0, ((live.setDom 0 { DomState.off with running := true, fresh := false, rate := 48000, frame := 479 }).setMeter 0x391001 { Meter.fresh with cnt := 1 }), by decide⟩

theorem meets_RateDomainTicks_5_layoutRestart : ∃ (t : Nat) (s : State),
    (s.clock t).router.relayout = true ∧
    (s.clock t).layoutQuiet = true :=
  ⟨0, { live with router := { live.router with relayout := true } }, by decide⟩

theorem meets_OutputBiasAndMode_0_cmReady : ∃ (t : Nat) (bank : Nat) (s : State),
    bank < 2 ∧
    ((s.clock t).cm bank).st = 1 ∧
    ((s.clock t).cm bank).at_ + 100000000 ≤ (s.clock t).now :=
  ⟨100000000, 0, (live.setCm 0 { st := 1, at_ := 0 }), by decide⟩

theorem meets_OutputBiasAndMode_1_cmFallEnd : ∃ (t : Nat) (bank : Nat) (s : State),
    bank < 2 ∧
    ((s.clock t).cm bank).st = 3 ∧
    ((s.clock t).cm bank).at_ + 100000000 ≤ (s.clock t).now :=
  ⟨100000000, 1, (live.setCm 1 { st := 3, at_ := 0 }), by decide⟩

theorem meets_OutputBiasAndMode_2_hpBiasReady : ∃ (t : Nat) (s : State),
    (s.clock t).outs.hpBias.st = 1 ∧
    (s.clock t).outs.hpBias.at_ + 250000000 ≤ (s.clock t).now :=
  ⟨250000000, ({ live with outs := { live.outs with hpBias := { st := 1, at_ := 0 } } }.setHp 1 { HpCh.reset with present := true }), by decide⟩

theorem meets_OutputBiasAndMode_3_hpBiasFallEnd : ∃ (t : Nat) (s : State),
    (s.clock t).outs.hpBias.st = 3 ∧
    (s.clock t).outs.hpBias.at_ + 250000000 ≤ (s.clock t).now :=
  ⟨250000000, { live with outs := { live.outs with hpBias := { st := 3, at_ := 0 } } }, by decide⟩

theorem meets_OutputBiasAndMode_4_outModeSwitch : ∃ (t : Nat) (pair a : Nat) (s : State),
    (((s.clock t).out (2 * pair + 1)).switchAt = some a ∨ ((s.clock t).out (2 * pair + 2)).switchAt = some a) ∧
    a ≤ (s.clock t).now :=
  ⟨5, 0, 5, (live.setOut 1 { OutCh.reset with switchAt := some 5 }), by decide⟩

theorem meets_OutputCurrentLimit_0_currentLimitWindow : ∃ (t : Nat) (ch : LimitCh) (s : State),
    ((s.clock t).limitOf ch).retrying = false ∧
    (s.clock t).driving ch = true :=
  ⟨0, (.line 1), (({ pds [7] live with outs := { live.outs with agndA := false } }).setFn (.output 1) runF), by decide⟩

theorem meets_OutputCurrentLimit_1_currentLimitWindow : ∃ (t : Nat) (ch : LimitCh) (active : Bool) (s : State),
    ((s.clock t).limitOf ch).retrying = false ∧
    (active = false ∨ (s.clock t).driving ch = false) :=
  ⟨0, (.hpR 2), false, live, by decide⟩

theorem meets_OutputCurrentLimit_2_currentLimitWindow : ∃ (t : Nat) (ch : LimitCh) (active : Bool) (s : State),
    ((s.clock t).limitOf ch).retrying = true :=
  ⟨0, (.line 3), true, (live.setOut 3 { OutCh.reset with limit := { LimitSt.idle with retrying := true } }), by decide⟩

theorem meets_OutputCurrentLimit_3_scRetry : ∃ (t : Nat) (f : Func) (s : State),
    ((limitsOf f).any (fun c => ((s.clock t).limitOf c).tripped && !((s.clock t).limitOf c).retrying && (s.clock t).scRetry c && decide (((s.clock t).limitOf c).retryAt ≤ (s.clock t).now)) = true) :=
  ⟨7, (.output 3), ((live.wr 0x3103 9 1).setOut 3 { OutCh.reset with limit := { LimitSt.idle with tripped := true } }), by decide⟩

theorem meets_HeadphoneJack_0_jackEdge : ∃ (t : Nat) (n : Nat) (s : State),
    (n = 1 ∨ n = 2) ∧
    ((s.clock t).hp n).present = false :=
  ⟨0, 1, { live with outs := { live.outs with hpBias := { st := 2, at_ := 0 } } }, by decide⟩

theorem meets_HeadphoneJack_1_jackAbsent : ∃ (t : Nat) (n : Nat) (s : State),
    (n = 1 ∨ n = 2) ∧
    ((s.clock t).hp n).present = true ∧
    (((s.clock t).hp n).jack = 1 ∨ ((s.clock t).hp n).jack = 2) :=
  ⟨0, 1, (live.setHp 1 { HpCh.reset with present := true, jack := 1 }), by decide⟩

theorem meets_HeadphoneJack_2_jackAbsent : ∃ (t : Nat) (n : Nat) (s : State),
    (n = 1 ∨ n = 2) ∧
    ((s.clock t).hp n).present = true ∧
    3 ≤ ((s.clock t).hp n).jack :=
  ⟨0, 2, (live.setHp 2 { HpCh.reset with present := true, jack := 3 }), by decide⟩

theorem meets_HeadphoneJack_3_jackAbsent : ∃ (t : Nat) (n : Nat) (s : State),
    (n = 1 ∨ n = 2) ∧
    ((s.clock t).hp n).present = true ∧
    ((s.clock t).hp n).jack = 0 :=
  ⟨0, 2, (live.setHp 2 { HpCh.reset with present := true }), by decide⟩

theorem meets_HeadphoneJack_4_jackDebounceEnd : ∃ (t : Nat) (n : Nat) (s : State),
    (n = 1 ∨ n = 2) ∧
    ((s.clock t).hp n).jack = 1 ∧
    ((s.clock t).hp n).edgeAt + 50000000 ≤ (s.clock t).now :=
  ⟨50000000, 1, (live.setHp 1 { HpCh.reset with jack := 1 }), by decide⟩

theorem meets_HeadphoneJack_5_jackMeasureEnd : ∃ (t : Nat) (n l r : Nat) (s : State),
    (n = 1 ∨ n = 2) ∧
    ((s.clock t).hp n).jack = 2 ∧
    ((s.clock t).hp n).edgeAt + 80000000 ≤ (s.clock t).now ∧
    jackCode l r = 6 :=
  ⟨80000000, 1, 0, 0, (live.setHp 1 { HpCh.reset with jack := 2 }), by decide⟩

theorem meets_HeadphoneJack_6_jackMeasureEnd : ∃ (t : Nat) (n l r : Nat) (u : State) (s : State),
    (n = 1 ∨ n = 2) ∧
    ((s.clock t).hp n).jack = 2 ∧
    ((s.clock t).hp n).edgeAt + 80000000 ≤ (s.clock t).now ∧
    jackCode l r ≠ 6 ∧
    u = ((s.clock t).setHp n { (s.clock t).hp n with jack := jackCode l r, loadL := l, loadR := r }).event 0x54 (0x3200 + n) ∧
    u.wants (.hp n) = true ∧
    (u.phase (.hp n) = .draining ∨ u.phase (.hp n) = .ramping) :=
  ⟨80000000, 1, 300, 300, (((live.setFn (.hp 1) { runF with phase := .ramping }).setHp 1 { HpCh.reset with jack := 2 }).clock 80000000 |>.setHp 1 { HpCh.reset with jack := 3, loadL := 300, loadR := 300 } |>.event 0x54 0x3201), ((live.setFn (.hp 1) { runF with phase := .ramping }).setHp 1 { HpCh.reset with jack := 2 }), by refine ⟨by decide, by decide, by decide, by decide, rfl, by decide, by decide⟩⟩

theorem meets_HeadphoneJack_7_jackMeasureEnd : ∃ (t : Nat) (n l r : Nat) (u : State) (s : State),
    (n = 1 ∨ n = 2) ∧
    ((s.clock t).hp n).jack = 2 ∧
    ((s.clock t).hp n).edgeAt + 80000000 ≤ (s.clock t).now ∧
    jackCode l r ≠ 6 ∧
    u = ((s.clock t).setHp n { (s.clock t).hp n with jack := jackCode l r, loadL := l, loadR := r }).event 0x54 (0x3200 + n) ∧
    (u.wants (.hp n) = false ∨ (u.phase (.hp n) ≠ .draining ∧ u.phase (.hp n) ≠ .ramping)) :=
  ⟨80000000, 1, 300, 300, (((live.wr 0x3201 2 0).setHp 1 { HpCh.reset with jack := 2 }).clock 80000000 |>.setHp 1 { HpCh.reset with jack := 3, loadL := 300, loadR := 300 } |>.event 0x54 0x3201), ((live.wr 0x3201 2 0).setHp 1 { HpCh.reset with jack := 2 }), by refine ⟨by decide, by decide, by decide, by decide, rfl, by decide⟩⟩

theorem meets_HeadphoneJack_8_jackRemove : ∃ (t : Nat) (n a : Nat) (s : State),
    (n = 1 ∨ n = 2) ∧
    ((s.clock t).hp n).absentAt = some a ∧
    a + 5000000 ≤ (s.clock t).now :=
  ⟨5000000, 1, 0, (live.setHp 1 { HpCh.reset with absentAt := some 0 }), by decide⟩

theorem meets_PwmOutputs_0_pwmEnLeadEnd : ∃ (t : Nat) (n : Nat) (s : State),
    ((s.clock t).pwm n).step = .lead ∧
    (s.clock t).phase (.pwm n) = .starting ∧
    ((s.clock t).pwm n).at_ ≤ (s.clock t).now :=
  ⟨0, 1, ((live.setFn (.pwm 1) { runF with phase := .starting }).setPwm 1 { PwmCh.reset with step := .lead }), by decide⟩

theorem meets_PwmOutputs_1_pwmEnSettleEnd : ∃ (t : Nat) (n : Nat) (s : State),
    ((s.clock t).pwm n).step = .settle ∧
    (s.clock t).phase (.pwm n) = .starting ∧
    ((s.clock t).pwm n).at_ ≤ (s.clock t).now :=
  ⟨0, 1, ((live.setFn (.pwm 1) { runF with phase := .starting }).setPwm 1 { PwmCh.reset with step := .settle }), by decide⟩

theorem meets_PwmOutputs_2_pwmStopLeadEnd : ∃ (t : Nat) (n : Nat) (s : State),
    ((s.clock t).pwm n).step = .stop ∧
    ((s.clock t).pwm n).at_ ≤ (s.clock t).now :=
  ⟨0, 1, (live.setPwm 1 { PwmCh.reset with step := .stop }), by decide⟩

theorem meets_PwmOutputs_3_pwmEdgeEvent : ∃ (t : Nat) (n : Nat) (s : State),
    1 ≤ n ∧
    n ≤ 16 ∧
    (s.clock t).rd (0x320F + n) 0x0B ≠ 0 ∧
    ((s.clock t).pwm n).step ≠ .safe ∧
    (s.clock t).edgeDue n = true :=
  ⟨0, 1, ((live.wr 0x3210 0x0B 1).setPwm 1 { PwmCh.reset with step := .run }), by decide⟩

theorem meets_PwmOutputs_4_pwmSpreadUpdate : ∃ (t : Nat) (k : Nat) (s : State),
    0 < k ∧
    k = ((((s.clock t).now : Rat) - (s.clock t).clk.triAt) / (s.clock t).triPeriod).floor.toNat :=
  ⟨1000000, 2, live, by decide +kernel⟩

theorem meets_SerialPortEvents_0_portFrame : ∃ (t : Nat) (p bits : Nat) (dir : SapDir) (s : State),
    p < 16 ∧
    ((s.clock t).sapUp p dir = true ∨ (s.clock t).phase (sapFunc p dir) = .fault) ∧
    cfgMaster ((s.clock t).sapDir p dir).cfg = false :=
  ⟨0, 1, 64, .rx, ((live.setFn (.sapRx 1) runF).setSap 1 .rx { SapDirSt.off with cfg := 0x880F1000 }), by decide⟩

theorem meets_SerialPortEvents_1_portFrame : ∃ (t : Nat) (p bits : Nat) (dir : SapDir) (s : State),
    p < 16 ∧
    (s.clock t).sapUp p dir = true ∧
    cfgMaster ((s.clock t).sapDir p dir).cfg = true :=
  ⟨0, 1, 64, .tx, ((live.setFn (.sapTx 1) runF).setSap 1 .tx { SapDirSt.off with cfg := 0xA80F1000 }), by decide⟩

theorem meets_SerialPortEvents_2_portFrame : ∃ (t : Nat) (p : Nat) (slots : List Nat) (s : State),
    p < 16 ∧
    (s.clock t).sapUp p .rx = true ∧
    ((s.clock t).sapDir p .rx).acquired = true :=
  ⟨0, 1, [1, 2], ((live.setFn (.sapRx 1) runF).setSap 1 .rx { SapDirSt.off with good := 4 }), by decide⟩

theorem meets_SerialPortEvents_3_sapClockLost : ∃ (t : Nat) (p : Nat) (dir : SapDir) (s : State),
    p < 16 ∧
    (s.clock t).sapUp p dir = true ∧
    cfgMaster ((s.clock t).sapDir p dir).cfg = false ∧
    ((s.clock t).sapDir p dir).startAt + 4000 ≤ (s.clock t).now :=
  ⟨4000, 1, .tx, ((live.setFn (.sapTx 1) runF).setSap 1 .tx { SapDirSt.off with cfg := 0x880F1000 }), by decide⟩

theorem meets_ChainPortLinks_0_linkUp : ∃ (t : Nat) (port : ChPort) (s : State),
    (s.clock t).pdOn 11 = true ∧
    (s.clock t).portMode port ≠ 0 ∧
    ((s.clock t).port port).up = false :=
  ⟨0, .cha, (pds [11] (live.wr 0x4001 2 1)), by decide⟩

theorem meets_ChainPortLinks_2_helloSend : ∃ (t : Nat) (port : ChPort) (s : State),
    ((s.clock t).port port).up = true ∧
    (s.clock t).isEdge port = false ∧
    (((s.clock t).port port).sentAt = 0 ∨ ((s.clock t).port port).sentAt + 1000000 ≤ (s.clock t).now) :=
  ⟨5, .chb, { live with net := { Net.reset with chb := { PortSt.down with up := true, helloAt := some 0, st := 3 } } }, by decide⟩

theorem meets_ChainPortLinks_3_hello : ∃ (t : Nat) (port : ChPort) (u node headUid headPrio rate : Nat) (s : State),
    ((s.clock t).port port).up = true ∧
    (s.clock t).rd (portIndex port) 3 ≠ 2 :=
  ⟨0, .cha, 1, 2, 3, 4, 1, { live with net := { Net.reset with cha := { PortSt.down with up := true, helloAt := some 0, st := 3 } } }, by decide⟩

theorem meets_ChainPortLinks_4_edgeTimeout : ∃ (t : Nat) (port : ChPort) (s : State),
    ((s.clock t).port port).up = true ∧
    ((s.clock t).port port).helloAt = none ∧
    (s.clock t).rd (portIndex port) 3 = 0 ∧
    ((s.clock t).port port).upAt + 1000000000 ≤ (s.clock t).now :=
  ⟨1000000000, .cha, { live with net := { Net.reset with cha := { PortSt.down with up := true } } }, by decide⟩

theorem meets_ChainHeadAndMembers_0_headClaim : ∃ (t : Nat) (a : Nat) (s : State),
    (s.clock t).net.st = 1 ∧
    (∃ p ∈ (s.clock t).chainLinks, ((s.clock t).port p).helloAt = some a ∧ a + 10000000 ≤ (s.clock t).now) ∧
    (s.clock t).net.claimAt = none ∧
    (s.clock t).rd 0x4000 7 = 255 :=
  ⟨10000000, 0, ({ live with net := { Net.reset with cha := { PortSt.down with up := true, helloAt := some 0, st := 3 }, st := 1 } }.wr 0x4000 7 255), ⟨by decide, ⟨.cha, by decide⟩, by decide, by decide⟩⟩

theorem meets_ChainHeadAndMembers_1_headClaim : ∃ (t : Nat) (a : Nat) (s : State),
    (s.clock t).net.st = 1 ∧
    (∃ p ∈ (s.clock t).chainLinks, ((s.clock t).port p).helloAt = some a ∧ a + 10000000 ≤ (s.clock t).now) ∧
    (s.clock t).net.claimAt = none ∧
    (s.clock t).rd 0x4000 7 ≠ 255 ∧
    (s.clock t).chainLinks.length = 1 :=
  ⟨10000000, 0, { live with net := { Net.reset with cha := { PortSt.down with up := true, helloAt := some 0, st := 3 }, st := 1 } }, ⟨by decide, ⟨.cha, by decide⟩, by decide, by decide, by decide⟩⟩

theorem meets_ChainHeadAndMembers_2_headClaim : ∃ (t : Nat) (a : Nat) (s : State),
    (s.clock t).net.st = 1 ∧
    (∃ p ∈ (s.clock t).chainLinks, ((s.clock t).port p).helloAt = some a ∧ a + 10000000 ≤ (s.clock t).now) ∧
    (s.clock t).net.claimAt = none ∧
    (s.clock t).rd 0x4000 7 ≠ 255 ∧
    (s.clock t).chainLinks.length ≠ 1 :=
  ⟨10000000, 0, { live with net := { Net.reset with cha := { PortSt.down with up := true, helloAt := some 0, st := 3 }, chb := { PortSt.down with up := true, helloAt := some 0, st := 3 }, st := 1 } }, ⟨by decide, ⟨.cha, by decide⟩, by decide, by decide, by decide⟩⟩

theorem meets_ChainHeadAndMembers_3_headClaim : ∃ (t : Nat) (u : State) (s : State),
    (s.clock t).net.st = 3 ∧
    (s.clock t).net.csAt + 1000000000 ≤ (s.clock t).now ∧
    (s.clock t).chainLinks ≠ [] ∧
    (s.clock t).net.claimAt = none ∧
    (u = ((s.clock t).leaveChain.mapNet fun n => { n with st := 1 }).mapNet fun n => { n with claimAt := some (s.clock t).leaveChain.now }) :=
  ⟨1000000000, (({ live with net := { Net.reset with cha := { PortSt.down with up := true, helloAt := some 0, st := 3 }, st := 3 } }.clock 1000000000).leaveChain.mapNet (fun n => { n with st := 1 }) |>.mapNet fun n => { n with claimAt := some ({ live with net := { Net.reset with cha := { PortSt.down with up := true, helloAt := some 0, st := 3 }, st := 3 } }.clock 1000000000).leaveChain.now }), { live with net := { Net.reset with cha := { PortSt.down with up := true, helloAt := some 0, st := 3 }, st := 3 } }, ⟨by decide, by decide, by decide, by decide, rfl⟩⟩

theorem meets_ChainHeadAndMembers_4_headElection : ∃ (t : Nat) (a : Nat) (s : State),
    (s.clock t).net.claimAt = some a ∧
    (s.clock t).net.st = 1 ∧
    a + 50000000 ≤ (s.clock t).now ∧
    (s.clock t).net.best = none :=
  ⟨50000000, 0, { live with net := { Net.reset with claimAt := some 0, st := 1 } }, by decide⟩

theorem meets_ChainHeadAndMembers_5_headElection : ∃ (t : Nat) (a : Nat) (b : Nat × Bool × Nat) (s : State),
    (s.clock t).net.claimAt = some a ∧
    (s.clock t).net.st = 1 ∧
    a + 50000000 ≤ (s.clock t).now ∧
    (s.clock t).net.best = some b ∧
    b.1 = uid :=
  ⟨50000000, 0, (uid, false, 9), { live with net := { Net.reset with claimAt := some 0, st := 1, best := some (uid, false, 9) } }, ⟨by decide, by decide, by decide, rfl, rfl⟩⟩

theorem meets_ChainHeadAndMembers_6_headElection : ∃ (t : Nat) (a : Nat) (b : Nat × Bool × Nat) (s : State),
    (s.clock t).net.claimAt = some a ∧
    (s.clock t).net.st = 1 ∧
    a + 50000000 ≤ (s.clock t).now ∧
    (s.clock t).net.best = some b ∧
    b.1 ≠ uid :=
  ⟨50000000, 0, (uid + 1, false, 9), { live with net := { Net.reset with claimAt := some 0, st := 1, best := some (uid + 1, false, 9) } }, ⟨by decide, by decide, by decide, rfl, Nat.succ_ne_self _⟩⟩

theorem meets_ChainHeadAndMembers_7_topology : ∃ (t : Nat) (port : ChPort) (msg : TopoMsg) (s : State),
    (s.clock t).chainLink port = true :=
  ⟨0, .cha, (.enumerate 3), { live with net := { Net.reset with cha := { PortSt.down with up := true, helloAt := some 0, st := 3 } } }, by decide⟩

theorem meets_ChainHeadAndMembers_8_joinRetry : ∃ (t : Nat) (l : List ChPort) (s : State),
    (s.clock t).net.st = 5 ∧
    (s.clock t).net.retryAt ≤ (s.clock t).now ∧
    (l = [ChPort.cha, .chb].filter fun p => ((s.clock t).port p).up && ((s.clock t).port p).st == 5 && (s.clock t).rd (portIndex p) 9 == 2) ∧
    l ≠ [] :=
  ⟨0, [.cha], ({ live with net := { Net.reset with cha := { PortSt.down with up := true, st := 5 }, st := 5 } }.wr 0x4001 9 2), by decide⟩

theorem meets_ChainHeadAndMembers_9_joinRetry : ∃ (t : Nat) (s : State),
    (s.clock t).net.st = 5 ∧
    (s.clock t).net.retryAt ≤ (s.clock t).now ∧
    (([ChPort.cha, .chb].filter fun p => ((s.clock t).port p).up && ((s.clock t).port p).st == 5 && (s.clock t).rd (portIndex p) 9 == 2) = []) :=
  ⟨0, { live with net := { Net.reset with st := 5 } }, by decide⟩

theorem meets_ChainHeadAndMembers_10_chainJoin : ∃ (t : Nat) (s : State),
    ((s.clock t).net.st = 2 ∨ (s.clock t).net.st = 3) ∧
    (s.clock t).net.node ≠ 0xFFFF ∧
    ((s.clock t).net.flags.testBit 0 = false ∨ (s.clock t).net.st = 2 ∨ ((s.clock t).chainLinks.any fun p => ((s.clock t).port p).st == 2) = true) ∧
    (s.clock t).net.csAt ≠ 0 ∧
    (s.clock t).net.flags.testBit 1 = false ∧
    -500 ≤ (s.clock t).net.offset ∧
    (s.clock t).net.offset ≤ 500 ∧
    (s.clock t).net.goodSince + 1000000000 ≤ (s.clock t).now :=
  ⟨1000000000, { live with net := { Net.reset with st := 2, node := 1, csAt := 5 } }, by decide⟩

theorem meets_ChainHeadAndMembers_11_nodeRelease : ∃ (t : Nat) (node : Nat) (s : State),
    (s.clock t).net.st = 4 ∧
    node ≠ 0 ∧
    node < 1024 :=
  ⟨0, 2, { live with net := { Net.reset with st := 4, nodes := 3, members := [{ uid := 7, number := 2, slots := 0 }] } }, by decide⟩

theorem meets_ChainHeadAndMembers_12_peerDelay : ∃ (t : Nat) (port : ChPort) (ns : Nat) (s : State),
    (s.clock t).chainLink port = true ∧
    (((s.clock t).port port).exchanges = 0 ∨ ((s.clock t).port port).delayAt + 15625000 ≤ (s.clock t).now) ∧
    ((s.clock t).port port).exchanges + 1 < 8 :=
  ⟨0, .cha, 90, { live with net := { Net.reset with cha := { PortSt.down with up := true, helloAt := some 0, st := 3 } } }, by decide⟩

theorem meets_ChainHeadAndMembers_13_peerDelay : ∃ (t : Nat) (port : ChPort) (ns : Nat) (u : State) (s : State),
    (s.clock t).chainLink port = true ∧
    (((s.clock t).port port).exchanges = 0 ∨ ((s.clock t).port port).delayAt + 15625000 ≤ (s.clock t).now) ∧
    8 ≤ ((s.clock t).port port).exchanges + 1 ∧
    u = ((s.clock t).setPort port { (s.clock t).port port with exchanges := ((s.clock t).port port).exchanges + 1, delayAt := (s.clock t).now }).wr (portIndex port) 6 (ns % 2 ^ 32) :=
  ⟨15625000, .cha, 90, ((({ live with net := { Net.reset with cha := { PortSt.down with up := true, helloAt := some 0, st := 2, exchanges := 7 }, st := 2 } }.clock 15625000).setPort .cha { PortSt.down with up := true, helloAt := some 0, st := 2, exchanges := 8, delayAt := 15625000 }).wr 0x4001 6 90), { live with net := { Net.reset with cha := { PortSt.down with up := true, helloAt := some 0, st := 2, exchanges := 7 }, st := 2 } }, ⟨by decide, by decide, by decide, rfl⟩⟩

theorem meets_ChainTime_0_cycleStartSend : ∃ (t : Nat) (s : State),
    (s.clock t).net.st = 4 ∧
    (s.clock t).net.cycle ≠ (s.clock t).ptp / 125000 :=
  ⟨125000, ({ live with net := { Net.reset with st := 4 } }.wr 0 0 0), ⟨by decide, by decide⟩⟩

theorem meets_ChainTime_1_cycleStart : ∃ (t : Nat) (port : ChPort) (f : CycleStartFrame) (u : State) (s : State),
    (s.clock t).chainLink port = true ∧
    f.hdr.version = 1 ∧
    (f.hdr.srcNode ≠ (s.clock t).net.node ∨ (s.clock t).net.node = 0xFFFF) ∧
    u = (s.clock t).forwardCs port f ∧
    (u.net.st = 1 ∨ u.net.st = 2 ∨ u.net.st = 3) ∧
    (f.time / 125000 ≠ u.net.cycle ∨ u.net.csAt = 0) :=
  ⟨0, .cha, { hdr := { version := 1, kind := 1, cycle := 2, src := 0, srcNode := 0, dst := 65535, hops := 0, flags := 0, field := 0 }, time := 250000, correction := 0, presentation := 16, nodes := 2, topology := 2, rate := 1, headId := 0 }, (({ live with net := { Net.reset with cha := { PortSt.down with up := true, helloAt := some 0, st := 3 }, st := 3 } }.clock 0).forwardCs .cha { hdr := { version := 1, kind := 1, cycle := 2, src := 0, srcNode := 0, dst := 65535, hops := 0, flags := 0, field := 0 }, time := 250000, correction := 0, presentation := 16, nodes := 2, topology := 2, rate := 1, headId := 0 }), { live with net := { Net.reset with cha := { PortSt.down with up := true, helloAt := some 0, st := 3 }, st := 3 } }, ⟨by decide, by decide, by decide, rfl, by decide, by decide⟩⟩

theorem meets_ChainTime_2_cycleStart : ∃ (t : Nat) (port : ChPort) (f : CycleStartFrame) (u : State) (s : State),
    (s.clock t).chainLink port = true ∧
    f.hdr.version = 1 ∧
    (f.hdr.srcNode ≠ (s.clock t).net.node ∨ (s.clock t).net.node = 0xFFFF) ∧
    u = (s.clock t).forwardCs port f ∧
    (u.net.st = 4 ∨ u.net.st = 5 ∨ u.net.st = 0 ∨ (f.time / 125000 = u.net.cycle ∧ u.net.csAt ≠ 0)) :=
  ⟨0, .cha, { hdr := { version := 1, kind := 1, cycle := 2, src := 0, srcNode := 3, dst := 65535, hops := 0, flags := 0, field := 0 }, time := 250000, correction := 0, presentation := 16, nodes := 2, topology := 2, rate := 1, headId := 0 }, (({ live with net := { Net.reset with cha := { PortSt.down with up := true, helloAt := some 0, st := 3 }, st := 4 } }.clock 0).forwardCs .cha { hdr := { version := 1, kind := 1, cycle := 2, src := 0, srcNode := 3, dst := 65535, hops := 0, flags := 0, field := 0 }, time := 250000, correction := 0, presentation := 16, nodes := 2, topology := 2, rate := 1, headId := 0 }), { live with net := { Net.reset with cha := { PortSt.down with up := true, helloAt := some 0, st := 3 }, st := 4 } }, ⟨by decide, by decide, by decide, rfl, by decide⟩⟩

theorem meets_ChainTime_3_chainHoldover : ∃ (t : Nat) (s : State),
    (s.clock t).net.st = 3 ∧
    (s.clock t).net.flags.testBit 1 = false ∧
    (s.clock t).net.csAt + 1000000 ≤ (s.clock t).now :=
  ⟨1000000, { live with net := { Net.reset with st := 3 } }, by decide⟩

theorem meets_ChainTime_4_chainSyncLoss : ∃ (t : Nat) (s : State),
    (s.clock t).net.st = 3 ∧
    (s.clock t).net.flags.testBit 1 = true ∧
    (s.clock t).net.holdAt + 10000000000 ≤ (s.clock t).now :=
  ⟨10000000000, { live with net := { Net.reset with st := 3, flags := 3 } }, by decide⟩

theorem meets_ChainTime_5_edgePtpMessage : ∃ (t : Nat) (port : ChPort) (offset : Int) (s : State),
    ((s.clock t).port port).up = true ∧
    (s.clock t).isEdge port = true ∧
    (s.clock t).rd 0x4000 0x11 = 1 :=
  ⟨0, .chb, 5, ({ live with net := { Net.reset with chb := { PortSt.down with up := true, st := 4 }, st := 3 } }.wr 0x4000 0x11 1), by decide⟩

theorem meets_ChainTime_6_edgePtpMessage : ∃ (t : Nat) (port : ChPort) (offset : Int) (s : State),
    ((s.clock t).port port).up = true ∧
    (s.clock t).isEdge port = true ∧
    (s.clock t).rd 0x4000 0x11 = 1 ∧
    (s.clock t).net.st = 4 :=
  ⟨0, .chb, 5, ({ live with net := { Net.reset with chb := { PortSt.down with up := true, st := 4 }, st := 4 } }.wr 0x4000 0x11 1), by decide⟩

theorem meets_ChainTime_7_presentationChange : ∃ (t : Nat) (x : Nat × Nat) (s : State),
    (s.clock t).net.presNext = some x ∧
    x.2 ≤ (s.clock t).now :=
  ⟨5, (20, 5), { live with net := { Net.reset with presNext := some (20, 5) } }, by decide⟩

theorem meets_ChainTime_8_share : ∃ (t : Nat) (u k : Nat) (s : State),
    (s.clock t).net.st = 4 :=
  ⟨0, 7, 4, { live with net := { Net.reset with st := 4 } }, by decide⟩

theorem meets_ChainFramesAndFlows_0_frameForward : ∃ (t : Nat) (port : ChPort) (f : ChainFrame) (s : State),
    (s.clock t).chainLink port = true ∧
    f.length ≤ 580 ∧
    f.hdr.version = 1 ∧
    (s.clock t).forwards port = true ∧
    (f.hdr.srcNode ≠ (s.clock t).net.node ∨ (s.clock t).net.node = 0xFFFF) ∧
    (f.hdr.kind ≠ 2 ∨ (s.clock t).rd (portIndex (otherPort port)) 5 ≠ f.hdr.srcNode ∨ f.hdr.srcNode = 0xFFFF) :=
  ⟨0, .cha, { hdr := { version := 1, kind := 5, cycle := 2, src := 0, srcNode := 0, dst := 65535, hops := 0, flags := 0, field := 0 }, length := 84, fcs := .good }, { live with net := { Net.reset with cha := { PortSt.down with up := true, helloAt := some 0, st := 3 }, chb := { PortSt.down with up := true, helloAt := some 0, st := 3 }, st := 3 } }, by decide⟩

theorem meets_ChainFramesAndFlows_1_frameForward : ∃ (t : Nat) (port : ChPort) (f : ChainFrame) (s : State),
    (s.clock t).chainLink port = true ∧
    580 < f.length :=
  ⟨0, .cha, { hdr := { version := 1, kind := 5, cycle := 2, src := 0, srcNode := 0, dst := 65535, hops := 0, flags := 0, field := 0 }, length := 581, fcs := .good }, { live with net := { Net.reset with cha := { PortSt.down with up := true, helloAt := some 0, st := 3 } } }, by decide⟩

theorem meets_ChainFramesAndFlows_2_audio : ∃ (t : Nat) (port : ChPort) (f : AudioFrame) (s : State),
    (s.clock t).chainLink port = true ∧
    f.hdr.version = 1 ∧
    f.hdr.srcNode ≠ (s.clock t).net.node :=
  ⟨0, .cha, { hdr := { version := 1, kind := 2, cycle := 2, src := 0, srcNode := 0, dst := 65535, hops := 0, flags := 0, field := 0 }, words := [] }, { live with net := { Net.reset with cha := { PortSt.down with up := true, helloAt := some 0, st := 3 } } }, by decide⟩

theorem meets_ChainFramesAndFlows_3_transaction : ∃ (t : Nat) (port : ChPort) (f : TransFrame) (s : State),
    (s.clock t).chainLink port = true ∧
    f.hdr.version = 1 ∧
    f.hdr.kind = 3 ∧
    (f.hdr.dst = 0xFFFF ∨ (f.hdr.dst = 0xFFFE ∧ f.target = uid) ∨ (f.hdr.dst = (s.clock t).net.node ∧ f.hdr.dst < 0xFFFE)) ∧
    f.requester ≠ uid ∧
    (s.clock t).canRun (.chain f.requester) = true ∧
    8 ≤ f.body.length :=
  ⟨0, .cha, { hdr := { version := 1, kind := 3, cycle := 2, src := 0, srcNode := 0, dst := 65535, hops := 0, flags := 0, field := 0 }, requester := uid + 1, target := 0, body := List.replicate 8 0 }, ((pds [2, 3, 11] { live with net := { Net.reset with cha := { PortSt.down with up := true, helloAt := some 0, st := 3 }, everSync := true } }).setFn (.syn .s) runF), ⟨by decide, by decide, by decide, by decide, Nat.succ_ne_self _, by decide, by decide⟩⟩

theorem meets_ChainFramesAndFlows_4_flowLost : ∃ (t : Nat) (r : Nat) (s : State),
    r < 32 ∧
    ((s.clock t).fn (.flowRx r)).active = true ∧
    ((s.clock t).rxFlow r).lost = false ∧
    8 ≤ ((s.clock t).rxFlow r).missRun :=
  ⟨0, 1, ((live.setFn (.flowRx 1) runF).setRx 1 { FlowRxSt.off with missRun := 8 }), by decide⟩

theorem meets_ChainFramesAndFlows_5_altSourceSwitch : ∃ (t : Nat) (r : Nat) (s : State),
    r < 32 ∧
    ((s.clock t).fn (.flowRx r)).active = true ∧
    (s.clock t).wantsAlt r ≠ ((s.clock t).rxFlow r).onAlt ∧
    (s.clock t).atCycle r = true :=
  ⟨0, 1, (((live.wr 0x4021 9 1).setFn (.flowRx 1) runF).setRx 1 { FlowRxSt.off with onAlt := true }), by decide⟩

theorem meets_ChainFramesAndFlows_6_beaconRequest : ∃ (t : Nat) (port : ChPort) (target : Nat) (s : State),
    (s.clock t).chainLink port = true ∧
    target ≠ 4 ∧
    target ≠ 5 :=
  ⟨0, .cha, 9, { live with net := { Net.reset with cha := { PortSt.down with up := true, helloAt := some 0, st := 3 }, chb := { PortSt.down with up := true, helloAt := some 0, st := 3 }, st := 3 } }, by decide⟩

theorem meets_ChainFramesAndFlows_7_beaconRequest : ∃ (t : Nat) (port : ChPort) (target : Nat) (u : State) (s : State),
    (s.clock t).chainLink port = true ∧
    (u = if (s.clock t).forwards port = true then (s.clock t).send (.beaconRequest target none) else (s.clock t)) ∧
    (target = 4 ∨ target = 5) ∧
    ((s.clock t).net.requestAt = none ∨ (∃ a, (s.clock t).net.requestAt = some a ∧ a + 1000000000 ≤ (s.clock t).now)) ∧
    Mode.awake (s.clock t).ms.mode = true ∧
    (s.clock t).inChain = true :=
  ⟨0, .cha, 4, ({ live with net := { Net.reset with cha := { PortSt.down with up := true, helloAt := some 0, st := 3 }, st := 3 } }.clock 0), { live with net := { Net.reset with cha := { PortSt.down with up := true, helloAt := some 0, st := 3 }, st := 3 } }, ⟨by decide, rfl, by decide, .inl rfl, by decide, by decide⟩⟩

theorem meets_ChainFramesAndFlows_8_beaconReceive : ∃ (t : Nat) (port : ChPort) (target hops : Nat) (ok : Bool) (u : State) (s : State),
    ((s.clock t).ms.mode = .slate ∨ (s.clock t).ms.mode = .indigo) ∧
    (s.clock t).portMode port ≠ 3 ∧
    (s.clock t).portMode port ≠ 0 ∧
    ((s.clock t).net.beaconAt = none ∨ (∃ a, (s.clock t).net.beaconAt = some a ∧ a + 1000000000 ≤ (s.clock t).now)) ∧
    (u = (s.clock t).mapNet fun n => { n with beaconAt := some (s.clock t).now }) :=
  ⟨0, .cha, 4, 2, true, ({ ({ (live.wr 0x2003 5 0).wr 0x4001 2 1 with ms := { ModeState.reset with mode := .indigo } } : State) with net := { Net.reset with beaconAt := some 0 } }), { (live.wr 0x2003 5 0).wr 0x4001 2 1 with ms := { ModeState.reset with mode := .indigo } }, ⟨by decide, by decide, by decide, .inl rfl, rfl⟩⟩

theorem meets_ChainFramesAndFlows_9_snapshot : ∃ (t : Nat) (snapAt tag : Nat) (s : State),
    (s.clock t).pdOn 11 = true :=
  ⟨0, 5, 6, (pds [11] live), by decide⟩

theorem meets_EdgePortPackets_0_aes67Packet : ∃ (t : Nat) (port : ChPort) (p : RtpPacket) (a r : Nat) (s : State),
    (s.clock t).isEdge port = true ∧
    ((s.clock t).port port).up = true ∧
    p.words.length = 48 ∧
    (((List.range 16).find? fun a => ((s.clock t).fn (.aes a)).active && decide (0x10 ≤ (s.clock t).rd (0x4040 + a) 3) && (s.clock t).rd (0x4040 + a) 3 != 0xFF &&
        ((s.clock t).rd (0x4040 + a) 4 == 2) == (port == .chb) && (s.clock t).rd (0x4040 + a) 5 == p.ip && (s.clock t).rd (0x4040 + a) 6 == p.udp &&
        (s.clock t).rd (0x4040 + a) 8 == p.pt) = some a) ∧
    r = (s.clock t).rd (0x4040 + a) 3 - 0x10 ∧
    [Phase.starting, .running, .draining, .ramping].contains ((s.clock t).fn (.flowRx r)).phase = true ∧
    ((s.clock t).rd (0x4040 + a) 7 == 1) = p.l16 ∧
    (∀ l ∈ p.words, l.length = (s.clock t).rd (0x4020 + r) 6) ∧
    (s.clock t).rd (0x4020 + r) 6 ≤ 8 ∧
    (s.clock t).rxTimed r = false :=
  ⟨0, .cha, { l16 := false, ip := 1, udp := 2, pt := 96, timestamp := 0, words := List.replicate 48 [0] }, 0, _, (((((((((({ live with net := { Net.reset with cha := { PortSt.down with up := true, st := 4 } } }.setFn (.aes 0) runF).setFn (.flowRx 0) runF).wr 0x4040 3 0x10).wr 0x4020 6 1).wr 0x4020 9 1).wr 0x4040 4 1).wr 0x4040 5 1).wr 0x4040 6 2).wr 0x4040 7 0).wr 0x4040 8 96), ⟨by decide, by decide, by decide, by decide, rfl, by decide, by decide, by decide, by decide, by decide⟩⟩

theorem meets_EdgePortPackets_1_aes67Packet : ∃ (t : Nat) (port : ChPort) (p : RtpPacket) (a r : Nat) (s : State),
    (s.clock t).isEdge port = true ∧
    ((s.clock t).port port).up = true ∧
    p.words.length = 48 ∧
    (((List.range 16).find? fun a => ((s.clock t).fn (.aes a)).active && decide (0x10 ≤ (s.clock t).rd (0x4040 + a) 3) && (s.clock t).rd (0x4040 + a) 3 != 0xFF &&
        ((s.clock t).rd (0x4040 + a) 4 == 2) == (port == .chb) && (s.clock t).rd (0x4040 + a) 5 == p.ip && (s.clock t).rd (0x4040 + a) 6 == p.udp &&
        (s.clock t).rd (0x4040 + a) 8 == p.pt) = some a) ∧
    r = (s.clock t).rd (0x4040 + a) 3 - 0x10 ∧
    [Phase.starting, .running, .draining, .ramping].contains ((s.clock t).fn (.flowRx r)).phase = true ∧
    ((s.clock t).rd (0x4040 + a) 7 == 1) = p.l16 ∧
    (∀ l ∈ p.words, l.length = (s.clock t).rd (0x4020 + r) 6) ∧
    (s.clock t).rd (0x4020 + r) 6 ≤ 8 ∧
    (s.clock t).rxTimed r = true :=
  ⟨0, .cha, { l16 := false, ip := 1, udp := 2, pt := 96, timestamp := 0, words := List.replicate 48 [0] }, 0, _, (((((((((({ live with net := { Net.reset with cha := { PortSt.down with up := true, st := 4 } } }.setFn (.aes 0) runF).setFn (.flowRx 0) runF).wr 0x4040 3 0x10).wr 0x4020 6 1).wr 0x4020 9 0).wr 0x4040 4 1).wr 0x4040 5 1).wr 0x4040 6 2).wr 0x4040 7 0).wr 0x4040 8 96), ⟨by decide, by decide, by decide, by decide, rfl, by decide, by decide, by decide, by decide, by decide⟩⟩

theorem meets_EdgePortPackets_2_aes67Packet : ∃ (t : Nat) (port : ChPort) (p : RtpPacket) (a r : Nat) (s : State),
    (s.clock t).isEdge port = true ∧
    ((s.clock t).port port).up = true ∧
    p.words.length = 48 ∧
    (((List.range 16).find? fun a => ((s.clock t).fn (.aes a)).active && decide (0x10 ≤ (s.clock t).rd (0x4040 + a) 3) && (s.clock t).rd (0x4040 + a) 3 != 0xFF &&
        ((s.clock t).rd (0x4040 + a) 4 == 2) == (port == .chb) && (s.clock t).rd (0x4040 + a) 5 == p.ip && (s.clock t).rd (0x4040 + a) 6 == p.udp &&
        (s.clock t).rd (0x4040 + a) 8 == p.pt) = some a) ∧
    r = (s.clock t).rd (0x4040 + a) 3 - 0x10 ∧
    [Phase.starting, .running, .draining, .ramping].contains ((s.clock t).fn (.flowRx r)).phase = true ∧
    (((s.clock t).rd (0x4040 + a) 7 == 1) ≠ p.l16 ∨ (∃ l ∈ p.words, l.length ≠ (s.clock t).rd (0x4020 + r) 6) ∨ 8 < (s.clock t).rd (0x4020 + r) 6) :=
  ⟨0, .cha, { l16 := true, ip := 1, udp := 2, pt := 96, timestamp := 0, words := List.replicate 48 [0] }, 0, _, (((((((((({ live with net := { Net.reset with cha := { PortSt.down with up := true, st := 4 } } }.setFn (.aes 0) runF).setFn (.flowRx 0) runF).wr 0x4040 3 0x10).wr 0x4020 6 1).wr 0x4020 9 1).wr 0x4040 4 1).wr 0x4040 5 1).wr 0x4040 6 2).wr 0x4040 7 0).wr 0x4040 8 96), ⟨by decide, by decide, by decide, by decide, rfl, by decide, .inl (by decide)⟩⟩

theorem meets_CrystalAndMuxes_0_xoAmplitude : ∃ (t : Nat) (on : Bool) (s : State),
    Mode.xoOn (s.clock t).ms.mode = true ∧
    (s.clock t).clk.amp ≠ on :=
  ⟨0, false, live, by decide⟩

theorem meets_CrystalAndMuxes_1_xoNoStart : ∃ (t : Nat) (s : State),
    (s.clock t).ms.mode = .amber ∧
    (s.clock t).clk.amp = false ∧
    (s.clock t).clk.stable = false ∧
    (s.clock t).ms.noStart = false ∧
    (s.clock t).clk.amberAt + 100000000 ≤ (s.clock t).now :=
  ⟨100000000, { State.reset with ms := { ModeState.reset with mode := .amber } }, by decide⟩

theorem meets_CrystalAndMuxes_2_xoStabilityCountDone : ∃ (t : Nat) (rcoCount : Nat) (s : State),
    Mode.xoOn (s.clock t).ms.mode = true ∧
    (s.clock t).clk.amp = true ∧
    (s.clock t).clk.stable = false ∧
    10133 ≤ rcoCount ∧
    rcoCount ≤ 11200 ∧
    (s.clock t).clk.countAt * 32640000 + rcoCount * 1000000000 ≤ (s.clock t).now * 32640000 :=
  ⟨400000, 10667, { live with clk := { live.clk with stable := false } }, by decide⟩

theorem meets_CrystalAndMuxes_3_xoStabilityCountDone : ∃ (t : Nat) (rcoCount : Nat) (s : State),
    Mode.xoOn (s.clock t).ms.mode = true ∧
    (s.clock t).clk.amp = true ∧
    (s.clock t).clk.stable = false ∧
    (rcoCount < 10133 ∨ 11200 < rcoCount) ∧
    (s.clock t).clk.countAt * 32640000 + rcoCount * 1000000000 ≤ (s.clock t).now * 32640000 :=
  ⟨400, 5, { live with clk := { live.clk with stable := false } }, by decide⟩

theorem meets_CrystalAndMuxes_4_xoMissingEdge : ∃ (t : Nat) (s : State),
    (s.clock t).clk.armed = true :=
  ⟨0, live, by decide⟩

theorem meets_CrystalAndMuxes_5_muxSwitchComplete : ∃ (t : Nat) (m : Mux) (s : State),
    (((s.clock t).mux (muxKey m)).st = 1 ∨ ((s.clock t).mux (muxKey m)).st = 2) ∧
    (s.clock t).mayRun m = true :=
  ⟨0, .control, (live.setMux 0 { active := 2, want := 1, st := 1 }), by decide⟩

theorem meets_CrystalAndMuxes_6_muxSourceEdges : ∃ (t : Nat) (m : Mux) (s : State),
    ((s.clock t).mux (muxKey m)).st = 4 ∧
    (s.clock t).hasEdges m ((s.clock t).mux (muxKey m)).want = true :=
  ⟨0, .ptp, (live.setMux 1 { active := 2, want := 1, st := 4 }), by decide⟩

theorem meets_CrystalAndMuxes_7_muxHang : ∃ (t : Nat) (m : Mux) (s : State),
    ((s.clock t).mux (muxKey m)).st = 1 ∧
    (s.clock t).mayStop m = true :=
  ⟨0, (.sap 1 .rx), (live.setMux 0x103 { active := 1, want := 2, st := 1 }), by decide⟩

theorem meets_CrystalAndMuxes_8_gateClose : ∃ (t : Nat) (cd : Nat) (s : State),
    3 ≤ cd ∧
    cd < 16 ∧
    (s.clock t).rd (0x2110 + cd) 5 = 1 ∧
    cd ∉ (s.clock t).clk.closed ∧
    (s.clock t).cdWorks cd = false ∧
    look 0 (s.clock t).clk.workAt cd + gateIdle cd ≤ (s.clock t).now :=
  ⟨1000, 3, (live.wr 0x2113 5 1), by decide⟩

theorem meets_Synthesizers_0_synAcquisitionStart : ∃ (t : Nat) (x : Syn) (s : State),
    (s.clock t).synReady = true ∧
    ((s.clock t).syn x).acqAt = 0 ∧
    ((s.clock t).phase (.syn x) = .off ∨ (s.clock t).phase (.syn x) = .quiesced ∨ ((s.clock t).phase (.syn x) = .starting ∧ ((s.clock t).syn x).refLost = true)) :=
  ⟨0, .a, sr, by decide⟩

theorem meets_Synthesizers_1_synReacquire : ∃ (t : Nat) (x : Syn) (s : State),
    (s.clock t).synReady = true ∧
    ((s.clock t).syn x).acqAt = 0 ∧
    ((s.clock t).syn x).refLost = false ∧
    (s.clock t).phase (.syn x) = .starting ∧
    ((s.clock t).syn x).gatedAt + 10000 ≤ (s.clock t).now :=
  ⟨10000, .b, (sr.setFn (.syn .b) { runF with phase := .starting }), by decide⟩

theorem meets_Synthesizers_2_synFaultRetry : ∃ (t : Nat) (x : Syn) (s : State),
    (s.clock t).phase (.syn x) = .fault ∧
    ((s.clock t).syn x).acqAt = 0 ∧
    ((s.clock t).syn x).tryAt + 100000000 ≤ (s.clock t).now ∧
    (s.clock t).synReady = true :=
  ⟨100000000, .s, (sr.setFn (.syn .s) { runF with phase := .fault }), by decide⟩

theorem meets_Synthesizers_3_synLock : ∃ (t : Nat) (x : Syn) (pin window : Bool) (p w : Bool) (y : SynState) (s : State),
    y = (s.clock t).syn x ∧
    p = (pin && decide (y.tryAt + 300000 ≤ (s.clock t).now)) ∧
    w = (window && decide (y.tryAt + refTime y.scale y.winN ≤ (s.clock t).now)) ∧
    y.acqAt ≠ 0 ∧
    (s.clock t).now ≤ y.acqAt + 2000000 ∧
    lockedBy y.method p w = true :=
  ⟨500000, .a, true, true, true, true, { SynState.off with acqAt := 1 }, (live.setSyn .a { SynState.off with acqAt := 1 }), ⟨rfl, by decide, by decide, by decide, by decide, by decide⟩⟩

theorem meets_Synthesizers_4_synLock : ∃ (t : Nat) (x : Syn) (pin window : Bool) (p w : Bool) (y : SynState) (s : State),
    y = (s.clock t).syn x ∧
    p = (pin && decide (y.tryAt + 300000 ≤ (s.clock t).now)) ∧
    w = (window && decide (y.tryAt + refTime y.scale y.winN ≤ (s.clock t).now)) ∧
    ((y.acqAt ≠ 0 ∧ (s.clock t).now ≤ y.acqAt + 2000000 ∧ lockedBy y.method p w = false) ∨ (y.acqAt = 0 ∧ (s.clock t).phase (.syn x) = .running ∧ lostBy y.method p w = false)) :=
  ⟨5000, .a, true, true, false, false, { SynState.off with acqAt := 1 }, (live.setSyn .a { SynState.off with acqAt := 1 }), ⟨rfl, by decide, by decide, .inl ⟨by decide, by decide, by decide⟩⟩⟩

theorem meets_Synthesizers_5_synLock : ∃ (t : Nat) (x : Syn) (pin window : Bool) (p w : Bool) (y : SynState) (u : State) (s : State),
    y = (s.clock t).syn x ∧
    p = (pin && decide (y.tryAt + 300000 ≤ (s.clock t).now)) ∧
    w = (window && decide (y.tryAt + refTime y.scale y.winN ≤ (s.clock t).now)) ∧
    y.acqAt = 0 ∧
    (s.clock t).phase (.syn x) = .running ∧
    lostBy y.method p w = true ∧
    u = ((s.clock t).setSyn x { y with pin := p, window := w }).gateSyn x false :=
  ⟨500000, .a, false, true, false, true, SynState.off, (((live.setFn (.syn .a) runF).clock 500000).setSyn .a { SynState.off with window := true } |>.gateSyn .a false), (live.setFn (.syn .a) runF), ⟨by decide, by decide, by decide, by decide, by decide, by decide, rfl⟩⟩

theorem meets_Synthesizers_6_synUnlock : ∃ (t : Nat) (x : Syn) (refLost : Bool) (s : State),
    (s.clock t).phase (.syn x) = .running ∧
    (refLost = true → (s.clock t).clk.stable = false) ∧
    (refLost = false → ((s.clock t).syn x).method ≠ 1 ∨ ((s.clock t).syn x).lockAt + refTime ((s.clock t).syn x).scale ((s.clock t).syn x).unlockN ≤ (s.clock t).now) :=
  ⟨0, .a, false, (live.setFn (.syn .a) runF), by decide⟩

theorem meets_Synthesizers_7_synAcquisitionFail : ∃ (t : Nat) (x : Syn) (u : State) (s : State),
    ((s.clock t).syn x).acqAt ≠ 0 ∧
    ((s.clock t).syn x).acqAt + 2000000 ≤ (s.clock t).now ∧
    u = (s.clock t).setSyn x { (s.clock t).syn x with fails := ((s.clock t).syn x).fails + 1, acqAt := 0, stopAt := (s.clock t).now, pin := false, window := false } :=
  ⟨3000000, .a, (((live.setSyn .a { SynState.off with acqAt := 1 }).setFn (.syn .a) { runF with phase := .starting }).clock 3000000 |>.setSyn .a { SynState.off with fails := 1, stopAt := 3000000 }), ((live.setSyn .a { SynState.off with acqAt := 1 }).setFn (.syn .a) { runF with phase := .starting }), ⟨by decide, by decide, rfl⟩⟩

theorem meets_Synthesizers_8_ckoChange : ∃ (t : Nat) (n : Nat) (s : State),
    n < 4 ∧
    ((s.clock t).fn (.cko n)).phase = .draining ∧
    ((s.clock t).fn (.cko n)).startPending = false :=
  ⟨0, 1, (live.setFn (.cko 1) { runF with phase := .draining }), by decide⟩

theorem meets_Synthesizers_9_ckoChange : ∃ (t : Nat) (n : Nat) (u : State) (s : State),
    n < 4 ∧
    ((s.clock t).fn (.cko n)).phase = .draining ∧
    ((s.clock t).fn (.cko n)).startPending = true ∧
    u = (s.clock t).settleCko n :=
  ⟨0, 1, (((live.setFn (.cko 1) { runF with phase := .draining, startPending := true }).clock 0).settleCko 1), (live.setFn (.cko 1) { runF with phase := .draining, startPending := true }), ⟨by decide, by decide, by decide, rfl⟩⟩

theorem meets_TrackingLoops_0_loopUpdate : ∃ (t : Nat) (loop : Nat) (x : LoopState) (u : State) (s : State),
    loop ≤ 1 ∧
    ((s.clock t).loop loop).updAt + 1000000 ≤ (s.clock t).now ∧
    x = { (s.clock t).loop loop with updAt := (s.clock t).now, hist := (((s.clock t).loop loop).steer :: ((s.clock t).loop loop).hist).take 1000 } ∧
    u = (s.clock t).setLoop loop x ∧
    ((s.clock t).loop loop).leaving = true :=
  ⟨1000000, 1, { LoopState.off with st := 3, leaving := true, updAt := 1000000, hist := [0] }, (({ live with clk := { live.clk with loopB := { LoopState.off with st := 3, leaving := true } } }.clock 1000000).setLoop 1 { LoopState.off with st := 3, leaving := true, updAt := 1000000, hist := [0] }), { live with clk := { live.clk with loopB := { LoopState.off with st := 3, leaving := true } } }, ⟨by decide, by decide, by decide, rfl, by decide⟩⟩

theorem meets_TrackingLoops_1_loopUpdate : ∃ (t : Nat) (loop : Nat) (x : LoopState) (u : State) (g : Nat) (s : State),
    loop ≤ 1 ∧
    ((s.clock t).loop loop).updAt + 1000000 ≤ (s.clock t).now ∧
    x = { (s.clock t).loop loop with updAt := (s.clock t).now, hist := (((s.clock t).loop loop).steer :: ((s.clock t).loop loop).hist).take 1000 } ∧
    u = (s.clock t).setLoop loop x ∧
    ((s.clock t).loop loop).leaving = false ∧
    ((s.clock t).loop loop).st = 2 ∧
    (g = if 32 < x.fill.natAbs then 0 else if x.goodSince = 0 then (s.clock t).now else x.goodSince) :=
  ⟨1000000, 0, { LoopState.off with st := 2, updAt := 1000000, hist := [0] }, (({ live with clk := { live.clk with loopA := { LoopState.off with st := 2 } } }.clock 1000000).setLoop 0 { LoopState.off with st := 2, updAt := 1000000, hist := [0] }), 1000000, { live with clk := { live.clk with loopA := { LoopState.off with st := 2 } } }, ⟨by decide, by decide, by decide, rfl, by decide, by decide, rfl⟩⟩

theorem meets_TrackingLoops_2_loopUpdate : ∃ (t : Nat) (loop : Nat) (x : LoopState) (u : State) (s : State),
    loop ≤ 1 ∧
    ((s.clock t).loop loop).updAt + 1000000 ≤ (s.clock t).now ∧
    x = { (s.clock t).loop loop with updAt := (s.clock t).now, hist := (((s.clock t).loop loop).steer :: ((s.clock t).loop loop).hist).take 1000 } ∧
    u = (s.clock t).setLoop loop x ∧
    ((s.clock t).loop loop).leaving = false ∧
    (((s.clock t).loop loop).st = 3 ∨ ((s.clock t).loop loop).st = 5) :=
  ⟨1000000, 0, { LoopState.off with st := 3, updAt := 1000000, hist := [0] }, (({ live with clk := { live.clk with loopA := { LoopState.off with st := 3 } } }.clock 1000000).setLoop 0 { LoopState.off with st := 3, updAt := 1000000, hist := [0] }), { live with clk := { live.clk with loopA := { LoopState.off with st := 3 } } }, ⟨by decide, by decide, by decide, rfl, by decide, by decide⟩⟩

theorem meets_TrackingLoops_3_loopUpdate : ∃ (t : Nat) (loop : Nat) (x : LoopState) (u w : State) (s : State),
    loop ≤ 1 ∧
    ((s.clock t).loop loop).updAt + 1000000 ≤ (s.clock t).now ∧
    x = { (s.clock t).loop loop with updAt := (s.clock t).now, hist := (((s.clock t).loop loop).steer :: ((s.clock t).loop loop).hist).take 1000 } ∧
    u = (s.clock t).setLoop loop x ∧
    ((s.clock t).loop loop).leaving = false ∧
    ((s.clock t).loop loop).st = 4 ∧
    w = u.setLoop loop { x with steer := u.steerTo loop x.mean } :=
  ⟨1000000, 0, { LoopState.off with st := 4, updAt := 1000000, hist := [0] }, (({ live with clk := { live.clk with loopA := { LoopState.off with st := 4 } } }.clock 1000000).setLoop 0 { LoopState.off with st := 4, updAt := 1000000, hist := [0] }), ((({ live with clk := { live.clk with loopA := { LoopState.off with st := 4 } } }.clock 1000000).setLoop 0 { LoopState.off with st := 4, updAt := 1000000, hist := [0] }).setLoop 0 { LoopState.off with st := 4, updAt := 1000000, hist := [0] }), { live with clk := { live.clk with loopA := { LoopState.off with st := 4 } } }, ⟨by decide, by decide, by decide, rfl, by decide, by decide, rfl⟩⟩

theorem meets_TrackingLoops_4_loopUpdate : ∃ (t : Nat) (loop : Nat) (x : LoopState) (u : State) (s : State),
    loop ≤ 1 ∧
    ((s.clock t).loop loop).updAt + 1000000 ≤ (s.clock t).now ∧
    x = { (s.clock t).loop loop with updAt := (s.clock t).now, hist := (((s.clock t).loop loop).steer :: ((s.clock t).loop loop).hist).take 1000 } ∧
    u = (s.clock t).setLoop loop x ∧
    ((s.clock t).loop loop).leaving = false ∧
    (((s.clock t).loop loop).st = 0 ∨ ((s.clock t).loop loop).st = 1) :=
  ⟨1000000, 0, { LoopState.off with st := 1, updAt := 1000000, hist := [0] }, (({ live with clk := { live.clk with loopA := { LoopState.off with st := 1 } } }.clock 1000000).setLoop 0 { LoopState.off with st := 1, updAt := 1000000, hist := [0] }), { live with clk := { live.clk with loopA := { LoopState.off with st := 1 } } }, ⟨by decide, by decide, by decide, rfl, by decide, by decide⟩⟩

theorem meets_TrackingLoops_5_loopAcquireEnd : ∃ (t : Nat) (loop : Nat) (s : State),
    loop ≤ 1 ∧
    ((s.clock t).loop loop).st = 1 ∧
    ((s.clock t).loop loop).leaving = false ∧
    ((s.clock t).loop loop).since + 100000000 ≤ (s.clock t).now :=
  ⟨100000000, 0, { live with clk := { live.clk with loopA := { LoopState.off with st := 1 } } }, by decide⟩

theorem meets_TrackingLoops_6_loopHoldover : ∃ (t : Nat) (loop : Nat) (s : State),
    loop ≤ 1 ∧
    (s.clock t).delivers ((s.clock t).leader loop) = false :=
  ⟨0, 0, { live with clk := { live.clk with loopA := { LoopState.off with st := 3 } } }, by decide⟩

theorem meets_PairMemberGrants_0_arbBeat : ∃ (t : Nat) (m : PairMsg) (s : State),
    (s.clock t).forMember m = true ∧
    newerEpoch m.epoch (s.clock t).pair.epoch = true ∧
    m.member = uid :=
  ⟨0, { pair := 7, msg := 2, member := uid, epoch := 5, role := 2, mode := 4, health := 65 }, pr, ⟨by decide, by decide, rfl⟩⟩

theorem meets_PairMemberGrants_1_arbBeat : ∃ (t : Nat) (m : PairMsg) (s : State),
    (s.clock t).forMember m = true ∧
    newerEpoch m.epoch (s.clock t).pair.epoch = true ∧
    m.member ≠ uid ∧
    (s.clock t).pair.driving = true :=
  ⟨0, { pair := 7, msg := 2, member := (uid + 1), epoch := 5, role := 2, mode := 4, health := 65 }, { pr with pair := { PairMember.reset with driving := true } }, ⟨by decide, by decide, Nat.succ_ne_self _, by decide⟩⟩

theorem meets_PairMemberGrants_2_arbBeat : ∃ (t : Nat) (m : PairMsg) (s : State),
    (s.clock t).forMember m = true ∧
    newerEpoch m.epoch (s.clock t).pair.epoch = true ∧
    m.member ≠ uid ∧
    (s.clock t).pair.driving = false :=
  ⟨0, { pair := 7, msg := 2, member := (uid + 1), epoch := 5, role := 2, mode := 4, health := 65 }, pr, ⟨by decide, by decide, Nat.succ_ne_self _, by decide⟩⟩

theorem meets_PairMemberGrants_3_arbBeat : ∃ (t : Nat) (m : PairMsg) (s : State),
    (s.clock t).forMember m = true ∧
    newerEpoch m.epoch (s.clock t).pair.epoch = false ∧
    m.epoch = (s.clock t).pair.epoch :=
  ⟨0, { pair := 7, msg := 2, member := uid, epoch := 0, role := 2, mode := 4, health := 65 }, pr, ⟨by decide, by decide, by decide⟩⟩

theorem meets_PairMemberGrants_4_revoke : ∃ (t : Nat) (m : PairMsg) (u : State) (s : State),
    (s.clock t).forMember m = true ∧
    m.member = uid ∧
    (newerEpoch m.epoch (s.clock t).pair.epoch = true ∨ m.epoch = (s.clock t).pair.epoch) ∧
    (u = if newerEpoch m.epoch (s.clock t).pair.epoch = true then (s.clock t).takeEpoch m.epoch else (s.clock t)) :=
  ⟨0, { pair := 7, msg := 2, member := uid, epoch := 0, role := 2, mode := 4, health := 65 }, ({ pr with pair := { PairMember.reset with driving := true } }.clock 0), { pr with pair := { PairMember.reset with driving := true } }, ⟨by decide, rfl, by decide, rfl⟩⟩

theorem meets_PairMemberGrants_5_peerActIn : ∃ (t : Nat) (s : State),
    (s.clock t).pair.driving = false ∧
    (s.clock t).pair.peerHigh = true :=
  ⟨0, { pr with pair := { PairMember.reset with peerHigh := true } }, by decide⟩

theorem meets_PairMemberGrants_6_peerActIn : ∃ (t : Nat) (u : State) (s : State),
    (s.clock t).pair.driving = false ∧
    (u = (s.clock t).mapPair fun p => { p with peerHigh := true, conflict := false }) :=
  ⟨0, ({ pr with pair := { PairMember.reset with granted := true } }.clock 0 |>.mapPair fun p => { p with peerHigh := true, conflict := false }), { pr with pair := { PairMember.reset with granted := true } }, ⟨by decide, rfl⟩⟩

theorem meets_PairMemberGrants_7_interlockWaitEnd : ∃ (t : Nat) (a : Nat) (s : State),
    (s.clock t).pair.waitAt = some a ∧
    a + 1000000 ≤ (s.clock t).now ∧
    (s.clock t).pair.peerHigh = false :=
  ⟨1000000, 0, { pr with pair := { PairMember.reset with waitAt := some 0, peerHigh := false } }, by decide⟩

theorem meets_PairMemberRuns_0_takeoverRampStart : ∃ (t : Nat) (s : State),
    (s.clock t).pair.step = 2 ∧
    (s.clock t).pair.driving = true ∧
    (s.clock t).pair.leaving = false ∧
    (s.clock t).pair.stepAt + 1000000 ≤ (s.clock t).now ∧
    (s.clock t).atTick ((s.clock t).outDom 1) = true :=
  ⟨1000000, ({ pr with pair := { PairMember.reset with step := 2, driving := true } }.setDom 0 { DomState.off with running := true }), by decide⟩

theorem meets_PairMemberRuns_1_selfRelease : ∃ (t : Nat) (s : State),
    (s.clock t).paired = true ∧
    (s.clock t).pair.driving = true ∧
    (s.clock t).pair.leaving = false ∧
    (s.clock t).rd 0x4100 0x0A ≠ 0 ∧
    (s.clock t).pair.arbAt + (s.clock t).rd 0x4100 0x0A * 1000000 ≤ (s.clock t).now :=
  ⟨5000000, ({ pr with pair := { PairMember.reset with driving := true } }.wr 0x4100 0x0A 5), by decide⟩

theorem meets_PairMemberRuns_2_arbiterLost : ∃ (t : Nat) (s : State),
    (s.clock t).paired = true ∧
    (s.clock t).pair.arbLost = false ∧
    (s.clock t).pair.arbAt + 3000000 ≤ (s.clock t).now :=
  ⟨3000000, pr, by decide⟩

theorem meets_PairMemberRuns_3_selfCheckPass : ∃ (t : Nat) (a : Nat) (s : State),
    (s.clock t).noteCheck.pair.checkAt = some a ∧
    a + 1000000000 ≤ (s.clock t).noteCheck.now :=
  ⟨1000000000, 0, { rdy with pair := { PairMember.reset with checkAt := some 0 } }, by decide⟩

theorem meets_PairMemberRuns_4_revertHoldoffEnd : ∃ (t : Nat) (a : Nat) (s : State),
    (s.clock t).noteCheck.pair.holdoffAt = some a ∧
    a + (s.clock t).noteCheck.rd 0x4100 8 * 1000000000 ≤ (s.clock t).noteCheck.now :=
  ⟨0, 0, { rdy with pair := { PairMember.reset with checkAt := some 0, checkOk := true, holdoffAt := some 0, role := 1, peerHigh := false } }, by decide⟩

theorem meets_PairMemberRuns_5_heartbeatSend : ∃ (t : Nat) (u w : State) (s : State),
    (s.clock t).ptp / 125000 % 8 = 0 ∧
    (s.clock t).net.beatCycle ≠ some ((s.clock t).ptp / 125000) ∧
    (u = (s.clock t).mapNet fun x => { x with beatCycle := some ((s.clock t).ptp / 125000) }) ∧
    (w = if (s.clock t).paired = true ∧ (s.clock t).inChain = true ∧ (s.clock t).rd 0x4100 6 ≠ 0 then u.checkConflict.noteCheck.tellArbiter 1 else u) :=
  ⟨0, ((({ pr with net := { Net.reset with st := 3 } }.wr 0x4100 6 9).clock 0).mapNet fun x => { x with beatCycle := some 0 }), (((({ pr with net := { Net.reset with st := 3 } }.wr 0x4100 6 9).clock 0).mapNet fun x => { x with beatCycle := some 0 }).checkConflict.noteCheck.tellArbiter 1), ({ pr with net := { Net.reset with st := 3 } }.wr 0x4100 6 9), ⟨by decide, by decide, rfl, by rw [if_pos (by decide)]⟩⟩

theorem meets_PairArbiter_0_arbiterStart : ∃ (t : Nat) (pair : Nat) (s : State),
    pair < 16 ∧
    (s.clock t).arbRuns = true ∧
    (s.clock t).arbUsed pair = true ∧
    ((s.clock t).arbPair pair).on = false ∧
    ((((s.clock t).arbPair pair).m0.beatAt.isSome = true ∧ ((s.clock t).arbPair pair).m1.beatAt.isSome = true) ∨ ((s.clock t).arbPair pair).startAt + 10000000 ≤ (s.clock t).now) ∧
    (s.clock t).rd 0x4101 2 = 1 :=
  ⟨10000000, 0, (arbS.wr 0x4101 2 1), by decide⟩

theorem meets_PairArbiter_1_arbiterStart : ∃ (t : Nat) (pair : Nat) (s : State),
    pair < 16 ∧
    (s.clock t).arbRuns = true ∧
    (s.clock t).arbUsed pair = true ∧
    ((s.clock t).arbPair pair).on = false ∧
    ((((s.clock t).arbPair pair).m0.beatAt.isSome = true ∧ ((s.clock t).arbPair pair).m1.beatAt.isSome = true) ∨ ((s.clock t).arbPair pair).startAt + 10000000 ≤ (s.clock t).now) ∧
    (s.clock t).rd 0x4101 2 = 0 ∧
    ((s.clock t).setArb pair { (s.clock t).arbPair pair with on := true }).firstHolder pair ≠ 0 :=
  ⟨10000000, 0, { arbS with arb := [(0, { ArbPair.off with m0 := { ArbMember.none with beatAt := some 9000000, health := 0x41 } })] }, by decide⟩

theorem meets_PairArbiter_2_arbiterStart : ∃ (t : Nat) (pair : Nat) (s : State),
    pair < 16 ∧
    (s.clock t).arbRuns = true ∧
    (s.clock t).arbUsed pair = true ∧
    ((s.clock t).arbPair pair).on = false ∧
    ((((s.clock t).arbPair pair).m0.beatAt.isSome = true ∧ ((s.clock t).arbPair pair).m1.beatAt.isSome = true) ∨ ((s.clock t).arbPair pair).startAt + 10000000 ≤ (s.clock t).now) ∧
    (s.clock t).rd 0x4101 2 = 0 ∧
    ((s.clock t).setArb pair { (s.clock t).arbPair pair with on := true }).firstHolder pair = 0 :=
  ⟨10000000, 0, arbS, by decide⟩

theorem meets_PairArbiter_3_heartbeat : ∃ (t : Nat) (m : PairMsg) (i k : Nat) (x : ArbPair) (u : State) (s : State),
    (s.clock t).arbFind m = some (i, k) ∧
    (s.clock t).arbRuns = true ∧
    (x = ({ (s.clock t).arbPair i with
          epoch := if ((s.clock t).arbPair i).on = true then ((s.clock t).arbPair i).epoch
            else if (((s.clock t).arbPair i).m0.beatAt.isNone && ((s.clock t).arbPair i).m1.beatAt.isNone || newerEpoch m.epoch ((s.clock t).arbPair i).epoch) = true then m.epoch
            else ((s.clock t).arbPair i).epoch } : ArbPair).setMember k
          { ((s.clock t).arbPair i).member k with
            beatAt := some (s.clock t).now, health := m.health, role := m.role, got := true, missed := 0,
            failed := (((s.clock t).arbPair i).member k).failed && m.health.testBit 1,
            primary := (((s.clock t).arbPair i).member k).primary || m.health.testBit 2 }) ∧
    (u = if (x.m0.primary && x.m1.primary && !x.prefSeen) = true then
          (((s.clock t).setArb i x).setArb i { x with prefSeen := true }).event 0x89 (0x4110 + i) else (s.clock t).setArb i x) :=
  ⟨0, { pair := 7, msg := 1, member := 11, epoch := 0, role := 2, mode := 4, health := 65 }, 0, 1, (((arbS.clock 0).arbPair 0).setMember 1 { ArbMember.none with beatAt := some 0, health := 65, role := 2, got := true }), ((arbS.clock 0).setArb 0 (((arbS.clock 0).arbPair 0).setMember 1 { ArbMember.none with beatAt := some 0, health := 65, role := 2, got := true })), arbS, ⟨by decide, by decide, by decide, by rw [if_neg (by decide)]⟩⟩

theorem meets_PairArbiter_4_heartbeatWindow : ∃ (t : Nat) (pair member : Nat) (a : ArbMember) (s : State),
    pair < 16 ∧
    member < 2 ∧
    (s.clock t).arbRuns = true ∧
    (s.clock t).arbUsed pair = true ∧
    ((s.clock t).arbPair pair).on = true ∧
    a = ((s.clock t).arbPair pair).member (member + 1) ∧
    a.win ≠ (s.clock t).ptp / 1000000 ∧
    a.got = false ∧
    ¬(a.missed + 1 = 3 ∧ ((s.clock t).arbPair pair).holder = member + 1) :=
  ⟨1000000, 0, 1, ArbMember.none, { arbS with arb := [(0, { ArbPair.off with on := true })] }, by decide⟩

theorem meets_PairArbiter_5_heartbeatWindow : ∃ (t : Nat) (pair member : Nat) (a : ArbMember) (s : State),
    pair < 16 ∧
    member < 2 ∧
    (s.clock t).arbRuns = true ∧
    (s.clock t).arbUsed pair = true ∧
    ((s.clock t).arbPair pair).on = true ∧
    a = ((s.clock t).arbPair pair).member (member + 1) ∧
    a.win ≠ (s.clock t).ptp / 1000000 ∧
    a.got = false ∧
    a.missed = 2 ∧
    ((s.clock t).arbPair pair).holder = member + 1 :=
  ⟨1000000, 0, 1, { ArbMember.none with missed := 2 }, { arbS with arb := [(0, { ArbPair.off with on := true, holder := 2, m1 := { ArbMember.none with missed := 2 } })] }, by decide⟩

theorem meets_PairArbiter_6_heartbeatWindow : ∃ (t : Nat) (pair member : Nat) (a : ArbMember) (s : State),
    pair < 16 ∧
    member < 2 ∧
    (s.clock t).arbRuns = true ∧
    (s.clock t).arbUsed pair = true ∧
    ((s.clock t).arbPair pair).on = true ∧
    a = ((s.clock t).arbPair pair).member (member + 1) ∧
    a.win ≠ (s.clock t).ptp / 1000000 ∧
    a.got = true :=
  ⟨1000000, 0, 0, { ArbMember.none with got := true }, { arbS with arb := [(0, { ArbPair.off with on := true, m0 := { ArbMember.none with got := true } })] }, by decide⟩

theorem meets_PairArbiter_7_released : ∃ (t : Nat) (m : PairMsg) (i k : Nat) (s : State),
    (s.clock t).arbFind m = some (i, k) ∧
    (s.clock t).arbRuns = true ∧
    ((s.clock t).arbPair i).on = true ∧
    ((s.clock t).arbPair i).holder = k ∧
    ((s.clock t).arbPair i).st = 2 :=
  ⟨0, { pair := 7, msg := 4, member := 11, epoch := 0, role := 1, mode := 4, health := 65 }, 0, 1, { arbS with arb := [(0, { ArbPair.off with on := true, holder := 1, st := 2, next := 2 })] }, by decide⟩

theorem meets_PairArbiter_8_released : ∃ (t : Nat) (m : PairMsg) (i k : Nat) (s : State),
    (s.clock t).arbFind m = some (i, k) ∧
    (s.clock t).arbRuns = true ∧
    ((s.clock t).arbPair i).on = true ∧
    ((s.clock t).arbPair i).holder = k ∧
    ((s.clock t).arbPair i).st = 1 ∧
    (s.clock t).rd 0x4101 2 = 0 :=
  ⟨0, { pair := 7, msg := 4, member := 11, epoch := 0, role := 1, mode := 4, health := 65 }, 0, 1, { arbS with arb := [(0, { ArbPair.off with on := true, holder := 1, st := 1 })] }, by decide⟩

theorem meets_PairArbiter_9_revokeTimeout : ∃ (t : Nat) (pair a : Nat) (s : State),
    ((s.clock t).arbPair pair).revokeAt = some a ∧
    (s.clock t).arbRuns = true ∧
    ((s.clock t).arbPair pair).st = 2 ∧
    ((s.clock t).arbPair pair).failover = true ∧
    a + 15000000 ≤ (s.clock t).now :=
  ⟨15000000, 0, 0, { arbS with arb := [(0, { ArbPair.off with on := true, holder := 1, st := 2, next := 2, failover := true, revokeAt := some 0 })] }, by decide⟩

theorem meets_ListeningPath_0_listenFrame : ∃ (t : Nat) (env : ListenEnv) (u : State) (d : Bool) (s : State),
    (s.clock t).frameDue = true ∧
    ((s.clock t).fn .listen).active = true ∧
    (u, d) = (s.clock t).listenFrame env :=
  ⟨0, { ch1 := [], ch2 := [], score := 0, tone := 0, level := 0, above := 0 }, (((live.setFn .listen runF).clock 0).listenFrame { ch1 := [], ch2 := [], score := 0, tone := 0, level := 0, above := 0 }).1, (((live.setFn .listen runF).clock 0).listenFrame { ch1 := [], ch2 := [], score := 0, tone := 0, level := 0, above := 0 }).2, (live.setFn .listen runF), ⟨by decide, by decide, by exact Prod.mk.eta⟩⟩

theorem meets_ListeningPath_1_matcherFrame : ∃ (t : Nat) (energies scores : List Nat) (energy : Nat) (s : State),
    ((s.clock t).fn .listen).active = true ∧
    (s.clock t).listen.stage2 = true ∧
    10 ≤ (s.clock t).listen.tenth ∧
    (s.clock t).listen.win = none :=
  ⟨0, [], [], 0, ({ live with listen := { Listen.reset with stage2 := true, tenth := 10 } }.setFn .listen runF), by decide⟩

theorem meets_ListeningPath_2_matcherFrame : ∃ (t : Nat) (energies scores : List Nat) (energy : Nat) (w x : MatchWin) (u r : State) (d : Bool) (s : State),
    ((s.clock t).fn .listen).active = true ∧
    10 ≤ (s.clock t).listen.tenth ∧
    (s.clock t).listen.win = some w ∧
    (x = { w with
          level := if w.level = 0 then energy else w.level
          low := if 10 * energy ≤ (if w.level = 0 then energy else w.level) then w.low + 1 else 0
          temps := w.temps.map fun x => (x.1, x.2.1, max x.2.2.1 (scores.getD x.1 0), scores.getD x.1 0) }) ∧
    (u = ((s.clock t).mapListen fun l => { l with hist := ((energy, energies) :: l.hist).take 200, since := l.since + 1, tenth := l.tenth - 10 }).mapListen fun l => { l with win := some x }) ∧
    ((r, d) = if 10 ≤ x.low then
          ((u.decideWindow x (·.2.1)).1.mapListen fun l => { l with voice := false, pauseRun := 0, voiceRun := 0 }, (u.decideWindow x (·.2.1)).2)
        else if x.openedAt + 2500000000 ≤ (s.clock t).now then u.decideWindow x (·.2.2) else (u, false)) :=
  ⟨0, [9], [], 9, { openedAt := 0, seeded := false, acrossWake := false, acrossDescent := false, level := 0, low := 0, temps := [] }, { openedAt := 0, seeded := false, acrossWake := false, acrossDescent := false, level := 9, low := 0, temps := [] }, ((({ live with listen := { Listen.reset with stage2 := true, tenth := 10, win := some { openedAt := 0, seeded := false, acrossWake := false, acrossDescent := false, level := 0, low := 0, temps := [] } } }.setFn .listen runF).clock 0).mapListen fun l => { l with hist := [(9, [9])], since := 1, tenth := 0, win := some { openedAt := 0, seeded := false, acrossWake := false, acrossDescent := false, level := 9, low := 0, temps := [] } }), ((({ live with listen := { Listen.reset with stage2 := true, tenth := 10, win := some { openedAt := 0, seeded := false, acrossWake := false, acrossDescent := false, level := 0, low := 0, temps := [] } } }.setFn .listen runF).clock 0).mapListen fun l => { l with hist := [(9, [9])], since := 1, tenth := 0, win := some { openedAt := 0, seeded := false, acrossWake := false, acrossDescent := false, level := 9, low := 0, temps := [] } }), false, ({ live with listen := { Listen.reset with stage2 := true, tenth := 10, win := some { openedAt := 0, seeded := false, acrossWake := false, acrossDescent := false, level := 0, low := 0, temps := [] } } }.setFn .listen runF), ⟨by decide, by decide, rfl, by decide, rfl, rfl⟩⟩

theorem meets_ListeningPath_3_hangEnd : ∃ (t : Nat) (s : State),
    (s.clock t).listen.gate = true ∧
    (s.clock t).listen.voice = false ∧
    (s.clock t).listen.pilot = false ∧
    (s.clock t).listen.heardAt + (s.clock t).rd 0x3A00 0x0E * 1000000 ≤ (s.clock t).now :=
  ⟨10000000000, { live with listen := { Listen.reset with gate := true } }, by decide⟩

theorem meets_ListeningPath_4_frontEndSettled : ∃ (t : Nat) (s : State),
    (s.clock t).listen.front = true ∧
    (s.clock t).listen.frontOk = false :=
  ⟨0, { live with listen := { Listen.reset with front := true } }, by decide⟩

theorem meets_ListeningPath_5_feedSwitch : ∃ (t : Nat) (s : State),
    ((s.clock t).fn .listen).active = true ∧
    (s.clock t).listen.feed = false ∧
    (s.clock t).awakeFeed = true ∧
    (s.clock t).ms.mode ≠ .indigo ∧
    (s.clock t).listen.prearm = 0 ∧
    (s.clock t).ring.spliceDue = false ∧
    (∀ w, (s.clock t).listen.win = some w → w.acrossWake = false) :=
  ⟨0, (((live.setFn .listen runF).wr 0x3A00 0x0F 1).setDom 0 { DomState.off with running := true }), ⟨by decide, by decide, by decide, by decide, by decide, by decide, fun _ h => by cases (show (none : Option MatchWin) = some _ from h)⟩⟩

theorem meets_ListeningPath_6_ringOverlapEnd : ∃ (t : Nat) (s : State),
    (s.clock t).ring.st = 2 ∧
    (s.clock t).ring.left = 0 :=
  ⟨0, { live with ring := { Ring.reset with st := 2 } }, by decide⟩

theorem meets_ListeningPath_7_readerAtEnd : ∃ (t : Nat) (r : Nat) (s : State),
    r < 8 ∧
    ((s.clock t).fn (.reader r)).active = true ∧
    (s.clock t).readerDone r = true :=
  ⟨0, 1, ((live.setFn (.reader 1) runF).setReader 1 { Reader.off with pos := 5 }), by decide⟩

theorem meets_HousekeepingConverter_0_hkConversionComplete : ∃ (t : Nat) (slice : Nat) (code : Int) (c : HkConv) (s : State),
    (s.clock t).slice slice = some c ∧
    c.at_ + c.len ≤ (s.clock t).now ∧
    c.invalid = false :=
  ⟨50000, 1, 5, { ch := 6, div := 0, trig := 0, at_ := 0, len := 50000, invalid := false, lowRes := false, mainsFree := false }, { live with hk := { Hk.reset with slices := [(1, some { ch := 6, div := 0, trig := 0, at_ := 0, len := 50000, invalid := false, lowRes := false, mainsFree := false })] } }, by decide⟩

theorem meets_HousekeepingConverter_1_hkConversionComplete : ∃ (t : Nat) (slice : Nat) (code : Int) (c : HkConv) (s : State),
    (s.clock t).slice slice = some c ∧
    c.at_ + c.len ≤ (s.clock t).now ∧
    c.invalid = true :=
  ⟨50000, 1, 5, { ch := 6, div := 0, trig := 0, at_ := 0, len := 50000, invalid := true, lowRes := false, mainsFree := false }, { live with hk := { Hk.reset with slices := [(1, some { ch := 6, div := 0, trig := 0, at_ := 0, len := 50000, invalid := true, lowRes := false, mainsFree := false })] } }, by decide⟩

theorem meets_HousekeepingConverter_2_calibrationComplete : ∃ (t : Nat) (a : Nat) (s : State),
    (s.clock t).hk.calAt = some a ∧
    a ≤ (s.clock t).now :=
  ⟨5, 5, { live with hk := { Hk.reset with calAt := some 5 } }, by decide⟩

theorem meets_HousekeepingConverter_3_scanConversionDue : ∃ (t : Nat) (s : State),
    (s.clock t).hk.on = true ∧
    (s.clock t).hk.user ≠ [] ∧
    (s.clock t).hk.queued = false ∧
    (s.clock t).hk.due ≤ (s.clock t).now :=
  ⟨0, { live with hk := { Hk.reset with on := true, user := [(6, 0)] } }, by decide⟩

theorem meets_HousekeepingConverter_4_hkTimer : ∃ (t : Nat) (s : State),
    (s.clock t).hk.on = true ∧
    (s.clock t).phase .scan = .running ∧
    (s.clock t).hk.trigger = 1 ∧
    (s.clock t).hk.timerAt ≤ (s.clock t).now :=
  ⟨0, ({ live with hk := { Hk.reset with on := true, trigger := 1 } }.setFn .scan runF), by decide⟩

theorem meets_HousekeepingConverter_5_supervisionScan : ∃ (t : Nat) (p : Nat) (s : State),
    (s.clock t).hk.on = true ∧
    (p = if (s.clock t).rcoRuns = true then 10000000 else 1000000000) ∧
    ((s.clock t).hk.supAt = none ∨ (∃ a, (s.clock t).hk.supAt = some a ∧ a + p ≤ (s.clock t).now)) :=
  ⟨10000000, 10000000, { live with hk := { Hk.reset with on := true, supAt := some 0 } }, ⟨by decide, by decide, .inr ⟨0, by decide, by decide⟩⟩⟩

theorem meets_HousekeepingConverter_6_pwmDelayEnd : ∃ (t : Nat) (a : Nat) (s : State),
    (s.clock t).hk.delayAt = some a ∧
    a ≤ (s.clock t).now ∧
    (s.clock t).rd 0x2200 8 = 0 :=
  ⟨5, 5, ({ live with hk := { Hk.reset with delayAt := some 5, trigger := 2 } }.wr 0x2200 8 0), by decide⟩

theorem meets_HousekeepingConverter_7_pwmDelayEnd : ∃ (t : Nat) (a : Nat) (s : State),
    (s.clock t).hk.delayAt = some a ∧
    a ≤ (s.clock t).now ∧
    (s.clock t).rd 0x2200 8 = 1 :=
  ⟨5, 5, ({ live with hk := { Hk.reset with delayAt := some 5 } }.wr 0x2200 8 1), by decide⟩

theorem meets_HousekeepingConverter_8_pwmDelayEnd : ∃ (t : Nat) (a : Nat) (s : State),
    (s.clock t).hk.delayAt = some a ∧
    a ≤ (s.clock t).now ∧
    (s.clock t).rd 0x2200 8 = 2 ∧
    (s.clock t).rd 0x2200 0x15 / 0x2000 ≠ 7 :=
  ⟨5, 5, ({ live with hk := { Hk.reset with delayAt := some 5 } }.wr 0x2200 8 2), by decide⟩

theorem meets_HousekeepingConverter_9_pwmDelayEnd : ∃ (t : Nat) (a : Nat) (s : State),
    (s.clock t).hk.delayAt = some a ∧
    a ≤ (s.clock t).now ∧
    (s.clock t).rd 0x2200 8 = 2 ∧
    (s.clock t).rd 0x2200 0x15 / 0x2000 = 7 :=
  ⟨5, 5, (({ live with hk := { Hk.reset with delayAt := some 5 } }.wr 0x2200 8 2).wr 0x2200 0x15 0xE000), by decide⟩

theorem meets_HousekeepingConverter_10_refSettled : ∃ (t : Nat) (s : State),
    (s.clock t).hk.refSettled = false ∧
    (s.clock t).hk.refAt + 5000000 ≤ (s.clock t).now :=
  ⟨5000000, { live with hk := { Hk.reset with refSettled := false } }, by decide⟩

theorem meets_HousekeepingConverter_11_mainsEdge : ∃ (t : Nat) (s : State),
    ((s.clock t).windowMode = 0 ∨ (s.clock t).hk.on = false ∨ (s.clock t).hk.edgeAt = none) :=
  ⟨0, ({ live with hk := { Hk.reset with on := true } }.wr 0x2200 9 0), by decide⟩

theorem meets_HousekeepingConverter_12_mainsEdge : ∃ (t : Nat) (a p : Nat) (l : List Nat) (u : State) (s : State),
    (s.clock t).hk.on = true ∧
    (s.clock t).windowMode ≠ 0 ∧
    (s.clock t).hk.edgeAt = some a ∧
    p = (s.clock t).now - a ∧
    19 * 1000000000 ≤ 20 * mainsHz (s.clock t).windowMode * p ∧
    20 * mainsHz (s.clock t).windowMode * p ≤ 21 * 1000000000 ∧
    l = (p :: (s.clock t).hk.periods).take 8 ∧
    (u = (s.clock t).mapHk fun h => { h with edgeAt := some (s.clock t).now, periods := l }) :=
  ⟨20000000, 0, 20000000, (List.replicate 8 20000000), ((({ live with hk := { Hk.reset with on := true, edgeAt := some 0, periods := List.replicate 7 20000000 } }.wr 0x2200 9 1).clock 20000000).mapHk fun h => { h with edgeAt := some 20000000, periods := List.replicate 8 20000000 }), ({ live with hk := { Hk.reset with on := true, edgeAt := some 0, periods := List.replicate 7 20000000 } }.wr 0x2200 9 1), ⟨by decide, by decide, by decide, by decide, by decide, by decide, by decide, rfl⟩⟩

theorem meets_HousekeepingConverter_13_mainsEdge : ∃ (t : Nat) (a : Nat) (u : State) (s : State),
    (s.clock t).hk.on = true ∧
    (s.clock t).windowMode ≠ 0 ∧
    (s.clock t).hk.edgeAt = some a ∧
    (20 * mainsHz (s.clock t).windowMode * ((s.clock t).now - a) < 19 * 1000000000 ∨ 21 * 1000000000 < 20 * mainsHz (s.clock t).windowMode * ((s.clock t).now - a)) ∧
    (u = (s.clock t).mapHk fun h => { h with edgeAt := some (s.clock t).now }) :=
  ⟨25000000, 0, ((({ live with hk := { Hk.reset with on := true, edgeAt := some 0, periods := List.replicate 7 20000000 } }.wr 0x2200 9 1).clock 25000000).mapHk fun h => { h with edgeAt := some 25000000 }), ({ live with hk := { Hk.reset with on := true, edgeAt := some 0, periods := List.replicate 7 20000000 } }.wr 0x2200 9 1), ⟨by decide, by decide, by decide, by decide, rfl⟩⟩

theorem meets_HousekeepingConverter_14_mainsLoss : ∃ (t : Nat) (a : Nat) (s : State),
    (s.clock t).hk.edgeAt = some a ∧
    (s.clock t).windowMode ≠ 0 ∧
    2 * 1000000000 ≤ ((s.clock t).now - a) * mainsHz (s.clock t).windowMode :=
  ⟨40000000, 0, ({ live with hk := { Hk.reset with edgeAt := some 0 } }.wr 0x2200 9 1), by decide⟩

theorem meets_MemoryInterface_0_memTrainingStart : ∃ (t : Nat) (s : State),
    (s.clock t).memPowered = true ∧
    (s.clock t).phase .mem = .off ∧
    (s.clock t).mem.training = false :=
  ⟨0, mp, by decide⟩

theorem meets_MemoryInterface_1_memReady : ∃ (t : Nat) (sizeMiB ranks : Nat) (s : State),
    (s.clock t).mem.training = true ∧
    memSizes.contains sizeMiB = true ∧
    (ranks = 1 ∨ ranks = 2) ∧
    (s.clock t).memPowered = true ∧
    (s.clock t).mem.attemptAt + (11000000 + 700000 * (sizeMiB / 1024)) ≤ (s.clock t).now :=
  ⟨11700000, 1024, 1, { mp with mem := { Mem.reset with training := true } }, by decide⟩

theorem meets_MemoryInterface_2_memTrainFail : ∃ (t : Nat) (s : State),
    (s.clock t).mem.training = true ∧
    (s.clock t).mem.tries < 2 :=
  ⟨0, { live with mem := { Mem.reset with training := true } }, by decide⟩

theorem meets_MemoryInterface_3_memTrainFail : ∃ (t : Nat) (s : State),
    (s.clock t).mem.training = true ∧
    2 ≤ (s.clock t).mem.tries :=
  ⟨0, { live with mem := { Mem.reset with training := true, tries := 2 } }, by decide⟩

theorem meets_MemoryInterface_4_zqCalibration : ∃ (t : Nat) (s : State),
    (s.clock t).mem.ready = true ∧
    (s.clock t).mem.zqAt + 256000000 ≤ (s.clock t).now :=
  ⟨256000000, { live with mem := { Mem.reset with ready := true } }, by decide⟩

theorem meets_MemoryInterface_5_dqsCheck : ∃ (t : Nat) (drift : Bool) (s : State),
    (s.clock t).mem.ready = true ∧
    (s.clock t).mem.dqsAt + 100000000 ≤ (s.clock t).now :=
  ⟨100000000, true, { live with mem := { Mem.reset with ready := true } }, by decide⟩

theorem meets_MemoryInterface_6_mr4Poll : ∃ (t : Nat) (code : Nat) (s : State),
    ((s.clock t).mem.ready = true ∨ (s.clock t).mem.held.contains .thermal = true) ∧
    (s.clock t).mem.mr4At + 16000000 ≤ (s.clock t).now :=
  ⟨16000000, 6, { live with mem := { Mem.reset with ready := true } }, by decide⟩

theorem meets_MemoryInterface_7_mr4Poll : ∃ (t : Nat) (code : Nat) (s : State),
    ((s.clock t).mem.ready = true ∨ (s.clock t).mem.held.contains .thermal = true) ∧
    (s.clock t).mem.mr4At + 16000000 ≤ (s.clock t).now :=
  ⟨16000000, 3, { live with mem := { Mem.reset with ready := true } }, by decide⟩

theorem meets_MemoryInterface_8_memFault : ∃ (t : Nat) (s : State),
    (s.clock t).ms.low.contains .vdd2 = true :=
  ⟨0, { live with ms := { live.ms with low := [.vdd2] } }, by decide⟩

theorem meets_MemoryInterface_9_memFault : ∃ (t : Nat) (s : State),
    (s.clock t).synRuns .s = false :=
  ⟨0, live, by decide⟩

theorem meets_MemoryInterface_10_memFault : ∃ (t : Nat) (s : State),
    (s.clock t).pdOn 10 = false :=
  ⟨0, live, by decide⟩

theorem meets_MemoryInterface_12_autoRetrain : ∃ (t : Nat) (s : State),
    (s.clock t).rd 0x3B00 0x0C = 1 ∧
    (s.clock t).phase .mem = .fault ∧
    (s.clock t).memClear = true ∧
    (s.clock t).memPowered = true ∧
    (s.clock t).mem.since + 100000000 ≤ (s.clock t).now ∧
    ((s.clock t).mem.trainAt = none ∨ (∃ a, (s.clock t).mem.trainAt = some a ∧ a + 10000000000 ≤ (s.clock t).now)) :=
  ⟨100000000, ((mp.wr 0x3B00 0x0C 1).setFn .mem { runF with phase := .fault }), ⟨by decide, by decide, by decide, by decide, by decide, .inl rfl⟩⟩

theorem meets_MemoryInterface_13_transportStart : ∃ (t : Nat) (tr : Nat) (s : State),
    tr < 8 ∧
    (s.clock t).transDue tr = true ∧
    ((s.clock t).dom ((s.clock t).transDom tr)).running = true ∧
    (((s.clock t).dom ((s.clock t).transDom tr)).fresh = true ∨ ((s.clock t).dom ((s.clock t).transDom tr)).tickAt < (s.clock t).now) :=
  ⟨5, 1, ((live.setTransport 1 { Transport.off with armed := true }).setDom 0 { DomState.off with running := true }), by decide⟩

theorem meets_FunctionLifecycle_0_drainComplete : ∃ (t : Nat) (f : Func) (s : State),
    ((s.clock t).fn f).phase = .draining ∧
    ((s.clock t).fn f).wait = 0 ∧
    f ≠ .scan :=
  ⟨0, (.input 1), (live.setFn (.input 1) { FuncState.off with phase := .draining, wait := 0 }), by decide⟩

theorem meets_FunctionLifecycle_1_functionRampEnd : ∃ (t : Nat) (f : Func) (s : State),
    ((s.clock t).fn f).phase = .ramping ∧
    (s.clock t).rampOver f = true :=
  ⟨0, (.lane 3), (live.setFn (.lane 3) { FuncState.off with phase := .ramping }), by decide⟩

theorem meets_FunctionLifecycle_2_quiesceForced : ∃ (t : Nat) (f : Func) (s : State),
    (((s.clock t).fn f).phase = .draining ∨ ((s.clock t).fn f).phase = .ramping) ∧
    ((s.clock t).fn f).bound ≤ (s.clock t).now :=
  ⟨9, (.lane 3), (live.setFn (.lane 3) { FuncState.off with phase := .ramping, bound := 9 }), by decide⟩

theorem meets_FunctionLifecycle_3_startPendingStart : ∃ (t : Nat) (f : Func) (s : State),
    (s.clock t).waitsToStart f = true :=
  ⟨0, (.lane 3), (live.setFn (.lane 3) { FuncState.off with phase := .quiesced, startPending := true }), by decide⟩

theorem meets_AdaptiveVoltage_0_pmbusAck : ∃ (t : Nat) (op : PmbusOp) (s : State),
    (s.clock t).avs.op = some op ∧
    (s.clock t).avs.waiting = false :=
  ⟨0, .voutMode, { live with avs := { Avs.reset with op := some .voutMode } }, by decide⟩

theorem meets_AdaptiveVoltage_1_pmbusAck : ∃ (t : Nat) (data : Nat) (s : State),
    (s.clock t).avs.op = some .voutMode ∧
    (s.clock t).avs.waiting = false :=
  ⟨0, 0x17, { live with avs := { Avs.reset with op := some .voutMode } }, by decide⟩

theorem meets_AdaptiveVoltage_2_pmbusAck : ∃ (t : Nat) (data mV word : Nat) (up : Bool) (s : State),
    (s.clock t).avs.op = some (.request mV word up) ∧
    (s.clock t).avs.waiting = false :=
  ⟨0, 0, 850, 1741, true, { live with avs := { Avs.reset with op := some (.request 850 1741 true) } }, by decide⟩

theorem meets_AdaptiveVoltage_3_pmbusRetry : ∃ (t : Nat) (op : PmbusOp) (s : State),
    (s.clock t).avs.op = some op ∧
    (s.clock t).avs.waiting = true ∧
    (s.clock t).avs.lost = false ∧
    (s.clock t).avs.triedAt + 1000000 ≤ (s.clock t).now :=
  ⟨1000000, .voutMode, { live with avs := { Avs.reset with op := some .voutMode, waiting := true } }, by decide⟩

theorem meets_AdaptiveVoltage_4_avsLostRetry : ∃ (t : Nat) (op : PmbusOp) (s : State),
    (s.clock t).avs.op = some op ∧
    (s.clock t).avs.waiting = true ∧
    (s.clock t).avs.lost = true ∧
    (s.clock t).avs.triedAt + 1000000000 ≤ (s.clock t).now :=
  ⟨1000000000, .voutMode, { live with avs := { Avs.reset with op := some .voutMode, waiting := true, lost := true } }, by decide⟩

theorem meets_AdaptiveVoltage_5_avsHoldEnd : ∃ (t : Nat) (s : State),
    (s.clock t).ms.mode = .ivory ∧
    (s.clock t).ms.changedAt + 1000000000 ≤ (s.clock t).now ∧
    (s.clock t).avs.evaluating = false ∧
    (s.clock t).avs.first = false :=
  ⟨1000000000, { live with ms := { live.ms with mode := .ivory } }, by decide⟩

theorem meets_AdaptiveVoltage_6_avsEvaluate : ∃ (t : Nat) (s : State),
    (s.clock t).avs.evaluating = true ∧
    (s.clock t).avsCan = true ∧
    (s.clock t).avs.evalAt + 1000000 ≤ (s.clock t).now :=
  ⟨1000000, ({ live with avs := { Avs.reset with evaluating := true, lost := false } }.wr 0x2004 1 1), by decide⟩

theorem meets_ModeSteps_0_descentBegin : ∃ (t : Nat) (target : Mode) (a : Nat) (s : State),
    (s.clock t).ms.trans = .descent target a false ∧
    a + 1000000 ≤ (s.clock t).now ∧
    target ≠ .indigo :=
  ⟨1000000, .slate, 0, { live with ms := { live.ms with trans := .descent .slate 0 false } }, by decide⟩

theorem meets_ModeSteps_1_domainSwitchOff : ∃ (t : Nat) (target : Mode) (a : Nat) (s : State),
    (s.clock t).ms.trans = .descent target a true ∧
    (s.clock t).descentQuiet target = true :=
  ⟨0, .slate, 0, { live with ms := { live.ms with trans := .descent .slate 0 true } }, by decide⟩

theorem meets_ModeSteps_2_modeAdvance : ∃ (t : Nat) (m : Mode) (s : State),
    (s.clock t).nextMode = some m :=
  ⟨0, .pearl, (live.wr 0x2000 2 8), by decide⟩

theorem meets_ModeSteps_3_wakeSourceFire : ∃ (t : Nat) (src : WakeSource) (s : State),
    src ≠ .acoustic ∧
    (∀ n g, src ≠ .beacon n g) :=
  ⟨0, .pin, live, ⟨by decide, by intro n g h; cases h⟩⟩

theorem meets_ModeSteps_4_wakeSourceFire : ∃ (t : Nat) (n target : Nat) (s : State),
    (target = 4 ∨ target = 5) :=
  ⟨0, 3, 5, live, by decide⟩

theorem meets_ModeSteps_5_staggerEnd : ∃ (t : Nat) (u : Nat) (s : State),
    (s.clock t).ms.trans = .stagger u ∧
    u ≤ (s.clock t).now :=
  ⟨5, 5, { live with ms := { live.ms with trans := .stagger 5 } }, by decide⟩

theorem meets_ResetAndPower_0_resetNLow : ∃ (t : Nat) (s : State),
    (s.clock t).resetIgnored = false ∧
    (s.clock t).ms.resetHigh = true ∧
    (s.clock t).ms.low.contains .avdd33 = false :=
  ⟨0, live, by decide⟩

theorem meets_ResetAndPower_1_resetClampEnd : ∃ (t : Nat) (s : State),
    (s.clock t).ms.clamping = true ∧
    (s.clock t).ms.resetAt + 12000000 ≤ (s.clock t).now :=
  ⟨12000000, { live with ms := { live.ms with clamping := true, resetHigh := false } }, by decide⟩

theorem meets_ResetAndPower_2_resetNHigh : ∃ (t : Nat) (banks addr : Nat) (u w : State) (s : State),
    (s.clock t).resetIgnored = false ∧
    (s.clock t).ms.resetHigh = false ∧
    (s.clock t).ms.mode = .ash ∧
    (u = ((s.clock t).wr 0x2006 1 (banks % 16)).mapMs fun m => { m with resetHigh := true }) ∧
    w = { u with host := { u.host with addr := 0x48 + addr % 4 } } :=
  ⟨0, 5, 1, (((({ State.reset with ms := { ModeState.reset with resetHigh := false } }).clock 0).wr 0x2006 1 5).mapMs fun m => { m with resetHigh := true }), ({ (((({ State.reset with ms := { ModeState.reset with resetHigh := false } }).clock 0).wr 0x2006 1 5).mapMs fun m => { m with resetHigh := true }) with host := { HostPorts.reset with addr := 0x49 } }), ({ State.reset with ms := { ModeState.reset with resetHigh := false } }), ⟨by decide, by decide, by decide, rfl, rfl⟩⟩

theorem meets_ResetAndPower_4_avdd33RetentionLoss : ∃ (t : Nat) (s : State),
    (s.clock t).ms.low.contains .avdd33 = true :=
  ⟨0, { live with ms := { live.ms with low := [.avdd33] } }, by decide⟩

theorem meets_ResetAndPower_5_powerOn : ∃ (t : Nat) (epoch : Nat) (u w : State) (s : State),
    (s.clock t).ms.mode = .ash ∧
    (u = (s.clock t).mapMs fun m => { m with low := m.low.filter fun r => r != .avdd33 }) ∧
    (w = if (s.clock t).journal.drawn = true then u else { u with journal := { u.journal with epoch := epoch % 2 ^ 32, drawn := true } }) :=
  ⟨0, 7, (({ State.reset with ms := { ModeState.reset with low := [.avdd33] } } : State).clock 0 |>.mapMs fun m => { m with low := [] }), { (({ State.reset with ms := { ModeState.reset with low := [.avdd33] } } : State).clock 0 |>.mapMs fun m => { m with low := [] }) with journal := { Journal.reset with epoch := 7, drawn := true } }, { State.reset with ms := { ModeState.reset with low := [.avdd33] } }, ⟨by decide, rfl, by rfl⟩⟩

theorem meets_GovernorAndSupplies_0_governorWindow : ∃ (t : Nat) (bal : Int) (r : List (Nat × Nat) × Int) (s : State),
    (s.clock t).gov.window + 100000 ≤ (s.clock t).now ∧
    bal = (s.clock t).balanceAt (max 1 (((s.clock t).now - (s.clock t).gov.window) / 100000)) ∧
    (r = admitStarts ((s.clock t).rd 0x2002 1) bal true (orderStarts (fun i => (s.clock t).rd (0x2010 + i) 3) (s.clock t).gov.queue)) :=
  ⟨100000, _, _, live, ⟨by decide, rfl, rfl⟩⟩

theorem meets_GovernorAndSupplies_1_domainPowerGood : ∃ (t : Nat) (pd a : Nat) (s : State),
    pd < 12 ∧
    [1, 3, 7, 8, 9, 10].contains pd = false ∧
    (s.clock t).phase (.pd pd) = .starting ∧
    look 0 (s.clock t).gov.admitted pd = a + 1 :=
  ⟨0, 5, 0, ({ live with gov := { Governor.reset with admitted := [(5, 1)] } }.setFn (.pd 5) { FuncState.off with phase := .starting }), by decide⟩

theorem meets_GovernorAndSupplies_2_domainPowerGood : ∃ (t : Nat) (a : Nat) (s : State),
    (s.clock t).phase (.pd 3) = .starting ∧
    look 0 (s.clock t).gov.admitted 3 = a + 1 :=
  ⟨0, 0, ({ live with gov := { Governor.reset with admitted := [(3, 1)] } }.setFn (.pd 3) { FuncState.off with phase := .starting }), by decide⟩

theorem meets_GovernorAndSupplies_3_domainFault : ∃ (t : Nat) (pd a : Nat) (s : State),
    (s.clock t).phase (.pd pd) = .starting ∧
    look 0 (s.clock t).gov.admitted pd = a + 1 ∧
    a + 1 + 1000000 ≤ (s.clock t).now :=
  ⟨2000000, 5, 0, ({ live with gov := { Governor.reset with admitted := [(5, 1)] } }.setFn (.pd 5) { FuncState.off with phase := .starting }), by decide⟩

theorem meets_GovernorAndSupplies_4_supplyTrip : ∃ (t : Nat) (rail : Rail) (s : State),
    rail ≠ .avdd33 :=
  ⟨0, .avddHv, live, by decide⟩

theorem meets_GovernorAndSupplies_7_crimsonResume : ∃ (t : Nat) (s : State),
    (s.clock t).noteCauses.ms.mode = .crimson ∧
    (s.clock t).noteCauses.causes = 0 ∧
    (s.clock t).noteCauses.ms.clear = true ∧
    (s.clock t).noteCauses.ms.clearAt + 10000000 ≤ (s.clock t).noteCauses.now ∧
    ((s.clock t).noteCauses.rd 0x2000 5 = 1 ∨ (s.clock t).noteCauses.ms.ack = true) ∧
    (s.clock t).noteCauses.ms.ctlHeld = false :=
  ⟨20000000, ({ live with ms := { live.ms with mode := .crimson } }.wr 0x2000 5 1), by decide⟩

theorem meets_DiagnosticsAndJournal_0_snapAtReached : ∃ (t : Nat) (x : Snap) (s : State),
    (s.clock t).snap = some x ∧
    x.at_ ≤ (s.clock t).ptp :=
  ⟨0, { at_ := 0, tag := 3, chain := false, late := false }, { live with snap := some { at_ := 0, tag := 3, chain := false, late := false } }, by decide⟩

theorem meets_DiagnosticsAndJournal_1_testItemComplete : ∃ (t : Nat) (result n : Nat) (rest : List Nat) (u : State) (s : State),
    (s.clock t).test.left = n :: rest ∧
    (s.clock t).testing = true ∧
    (s.clock t).testQuiet = true ∧
    bits result 31 30 = 1 ∧
    u = { (s.clock t).wr 0x2461 (n + 1) 0x4000FFFF with test := { (s.clock t).test with left := rest, waiting := false } } :=
  ⟨0, 0x40000000, 1, [2], (({ { live with ms := { live.ms with mode := .pearl } } with test := { live.test with left := [1, 2] } }).clock 0 |>.wr 0x2461 2 0x4000FFFF |> fun (u : State) => { u with test := { u.test with left := [2], waiting := false } }), ({ { live with ms := { live.ms with mode := .pearl } } with test := { live.test with left := [1, 2] } }), ⟨by decide, by decide, by decide, by decide, rfl⟩⟩

theorem meets_DiagnosticsAndJournal_2_testItemComplete : ∃ (t : Nat) (result n : Nat) (rest : List Nat) (u : State) (s : State),
    (s.clock t).test.left = n :: rest ∧
    (s.clock t).testing = true ∧
    (s.clock t).testQuiet = true ∧
    bits result 31 30 = 2 ∧
    u = ({ (s.clock t).wr 0x2461 (n + 1) (result % 2 ^ 24 + 2 * 2 ^ 30) with test := { (s.clock t).test with left := rest, waiting := false } } : State).event 0x0D 0x2460 :=
  ⟨0, 0x80000000, 1, [], ((({ { live with ms := { live.ms with mode := .pearl } } with test := { live.test with left := [1] } }).clock 0 |>.wr 0x2461 2 0x80000000 |> fun (u : State) => { u with test := { u.test with left := [], waiting := false } }).event 0x0D 0x2460), ({ { live with ms := { live.ms with mode := .pearl } } with test := { live.test with left := [1] } }), ⟨by decide, by decide, by decide, by decide, rfl⟩⟩

theorem meets_DiagnosticsAndJournal_3_mirrorCopy : ∃ (t : Nat) (e : Entry) (s : State),
    (s.clock t).journal.mirrorOn = true ∧
    (s.clock t).mem.ready = true ∧
    (s.clock t).journal.mirrorNext ≠ (s.clock t).journal.nextSeq ∧
    (s.clock t).journal.lostFrom (s.clock t).journal.mirrorNext = 0 ∧
    (((s.clock t).journal.ring.find? fun e => e.seq == (s.clock t).journal.mirrorNext) = some e) :=
  ⟨0, ent0, { psh with mem := { Mem.reset with ready := true }, journal := { psh.journal with mirrorOn := true, mirrorNext := 5 } }, by decide⟩

theorem meets_DiagnosticsAndJournal_4_mirrorResume : ∃ (t : Nat) (s : State),
    (s.clock t).mem.ready = true ∧
    (s.clock t).pdOn 10 = true ∧
    (s.clock t).journal.mirrorOn = false :=
  ⟨0, { mp with mem := { Mem.reset with ready := true } }, by decide⟩

theorem meets_DiagnosticsAndJournal_5_journalPush : ∃ (t : Nat) (s : State),
    (s.clock t).pushing = true ∧
    (s.clock t).journal.lostFrom (s.clock t).journal.pushNext = 0 ∧
    (s.clock t).journal.pushNext ≠ (s.clock t).journal.nextSeq ∧
    (s.clock t).journal.pushNext < 2 ^ 32 ∧
    (s.clock t).journal.nextSeq < 2 ^ 32 :=
  ⟨0, psh, by decide⟩

theorem meets_DiagnosticsAndJournal_6_journalPushResend : ∃ (t : Nat) (n : Nat) (s : State),
    (s.clock t).pushing = true ∧
    (s.clock t).journal.lostFrom (((s.clock t).journal.pushAcked + 1) % 2 ^ 32) = 0 ∧
    n = min (((s.clock t).journal.pushNext + 2 ^ 32 - ((s.clock t).journal.pushAcked + 1) % 2 ^ 32) % 2 ^ 32) (((s.clock t).journal.nextSeq + 2 ^ 32 - ((s.clock t).journal.pushAcked + 1) % 2 ^ 32) % 2 ^ 32) ∧
    0 < n ∧
    (s.clock t).journal.pushSentAt + 10000000 ≤ (s.clock t).now :=
  ⟨10000000, 1, psh2, by refine ⟨by decide, by decide, by decide, by decide, by decide⟩⟩

theorem meets_DiagnosticsAndJournal_7_journalAck : ∃ (t : Nat) (epoch ackSeq : Nat) (s : State),
    epoch = (s.clock t).journal.epoch ∧
    (s.clock t).pushing = true ∧
    0 < (ackSeq + 2 ^ 32 - (s.clock t).journal.pushAcked) % 2 ^ 32 ∧
    (ackSeq + 2 ^ 32 - (s.clock t).journal.pushAcked) % 2 ^ 32 ≤ ((s.clock t).journal.pushNext + 2 ^ 32 - 1 - (s.clock t).journal.pushAcked) % 2 ^ 32 :=
  ⟨0, 0, 5, psh2, by decide⟩

theorem meets_DiagnosticsAndJournal_8_stageTimeout : ∃ (t : Nat) (who : Requester) (u w : State) (s : State),
    (s.clock t).pdOn 3 = true ∧
    ((s.clock t).req who).stageTimeout ≠ 0 ∧
    ((s.clock t).req who).lastSeen + ((s.clock t).req who).stageTimeout * 1000000 ≤ (s.clock t).now ∧
    (u = if ((s.clock t).req who).staged = [] then (s.clock t) else (s.clock t).discardSet who ((s.clock t).req who).node 1) ∧
    (w = if ((s.clock t).req who).buffer.isSome = true then u.releaseBuffer who else u) :=
  ⟨5000000, .twb0, ((sr.mapReq .twb0 fun x => { x with node := 0xFFFF, stageTimeout := 5, staged := [{ key := key 0x3100 1, val := 1, block := [], seq := 0 }] }).clock 5000000 |>.discardSet .twb0 0xFFFF 1), ((sr.mapReq .twb0 fun x => { x with node := 0xFFFF, stageTimeout := 5, staged := [{ key := key 0x3100 1, val := 1, block := [], seq := 0 }] }).clock 5000000 |>.discardSet .twb0 0xFFFF 1), (sr.mapReq .twb0 fun x => { x with node := 0xFFFF, stageTimeout := 5, staged := [{ key := key 0x3100 1, val := 1, block := [], seq := 0 }] }), ⟨by decide, by decide, by decide, by rw [if_neg (by decide)]; rfl, by rw [if_neg (by decide)]⟩⟩

theorem meets_BootAndRecipes_0_bootImageAccepted : ∃ (t : Nat) (img : BootImage) (eeprom : List Byte) (s : State),
    (s.clock t).booting = true ∧
    (s.clock t).rd 0x2303 1 ≠ 1 ∧
    (img.source = 1 ∨ img.source = 2) ∧
    (s.clock t).ms.low.contains .vddioD = false ∧
    (s.clock t).imageOk img = true :=
  ⟨0, { source := 1, headerOk := true, signatureOk := true, keyHash := [], fwVersion := 1, secVersion := 9, records := [], noFlash := false, slot0Bad := false, slot1Bad := false }, [], (({ { sr with ms := { sr.ms with booted := false } } with boot := { Boot.reset with keyHash := none } }.wr 0x2303 1 0).wr 0x2303 5 0), by decide⟩

theorem meets_BootAndRecipes_1_bootFail : ∃ (t : Nat) (u : State) (s : State),
    (s.clock t).booting = true ∧
    (u = if (s.clock t).rd 0x2303 1 = 1 then (s.clock t)
          else ((s.clock t).draw 1).2.mapBoot fun b => if ((s.clock t).draw 1).1 = 1 then { b with noFlash := true } else { b with slot0Bad := true, slot1Bad := true }) :=
  ⟨0, (({ sr with ms := { sr.ms with booted := false } }.wr 0x2303 1 1).clock 0), ({ sr with ms := { sr.ms with booted := false } }.wr 0x2303 1 1), ⟨by decide, by rw [if_pos (by decide)]⟩⟩

theorem meets_BootAndRecipes_2_bootRetry : ∃ (t : Nat) (s : State),
    (s.clock t).pdOn 3 = true ∧
    (s.clock t).ms.booted = false ∧
    (s.clock t).boot.failed = true ∧
    (s.clock t).boot.retryAt + 1000000000 ≤ (s.clock t).now :=
  ⟨1000000000, { { sr with ms := { sr.ms with booted := false } } with boot := { Boot.reset with failed := true } }, by decide⟩

theorem meets_BootAndRecipes_3_recipeRecords : ∃ (t : Nat) (r : State × List BootRecord) (u : State) (s : State),
    (s.clock t).hostUp = true ∧
    (s.clock t).ms.recipesLoaded = false ∧
    Mode.awake (s.clock t).ms.mode = true ∧
    (∃ d, d < 3 ∧ ((s.clock t).dom d).running = true) ∧
    r = (s.clock t).recipeRecords (s.clock t).boot.records ∧
    (u = r.1.mapBoot fun b => { b with records := r.2 }) :=
  ⟨0, ((sr.setDom 0 { DomState.off with running := true }).clock 0, []), (((sr.setDom 0 { DomState.off with running := true }).clock 0).mapBoot fun b => { b with records := [] }), (sr.setDom 0 { DomState.off with running := true }), ⟨by decide, by decide, by decide, ⟨0, by decide, by decide⟩, rfl, rfl⟩⟩

theorem meets_Twb0Answers_0_deviceId : ∃ (t : Nat) (u : State) (s : State),
    (s.clock t).ms.low.contains .vddioC = false ∧
    (s.clock t).hostUp = true ∧
    (u = (s.clock t).mapHost fun h => { h with stretching := false }) :=
  ⟨0, _, sr, ⟨by decide, by decide, rfl⟩⟩

theorem meets_Twb0Answers_1_status : ∃ (t : Nat) (u : State) (s : State),
    (s.clock t).ms.low.contains .vddioC = false ∧
    (s.clock t).hostUp = true ∧
    (u = (s.clock t).mapHost fun h => { h with stretching := false }) :=
  ⟨0, _, sr, ⟨by decide, by decide, rfl⟩⟩

theorem meets_Twb0Answers_2_response : ∃ (t : Nat) (taken : Bool) (r : Response) (l : List Response) (u : State) (s : State),
    (s.clock t).ms.low.contains .vddioC = false ∧
    (s.clock t).hostUp = true ∧
    (u = (s.clock t).mapHost fun h => { h with stretching := false }) ∧
    (s.clock t).twb0.out = r :: l :=
  ⟨0, true, { op := 129, tid := 1, status := 0, seq := 2, data := [7] }, [], _, (sr.mapReq .twb0 fun x => { x with out := [{ op := 129, tid := 1, status := 0, seq := 2, data := [7] }] }), ⟨by decide, by decide, rfl, by decide⟩⟩

theorem meets_Twb0Answers_3_response : ∃ (t : Nat) (taken : Bool) (u : State) (s : State),
    (s.clock t).ms.low.contains .vddioC = false ∧
    (s.clock t).hostUp = true ∧
    (u = (s.clock t).mapHost fun h => { h with stretching := false }) ∧
    (s.clock t).twb0.out = [] ∧
    (s.clock t).twb0.queue = [] :=
  ⟨0, true, _, sr, ⟨by decide, by decide, rfl, by decide, by decide⟩⟩

theorem meets_Twb0Answers_4_response : ∃ (t : Nat) (taken : Bool) (u : State) (s : State),
    (s.clock t).ms.low.contains .vddioC = false ∧
    (s.clock t).hostUp = true ∧
    (u = (s.clock t).mapHost fun h => { h with stretching := false }) ∧
    (s.clock t).twb0.out = [] ∧
    (s.clock t).twb0.queue ≠ [] :=
  ⟨0, true, _, (sr.mapReq .twb0 fun x => { x with queue := [{ node := 0xFFFF, reply := true, body := [] }] }), ⟨by decide, by decide, rfl, by decide, by decide⟩⟩

theorem meets_Twb0Answers_5_responseLen : ∃ (t : Nat) (r : Response) (l : List Response) (u : State) (s : State),
    (s.clock t).ms.low.contains .vddioC = false ∧
    (s.clock t).hostUp = true ∧
    (u = (s.clock t).mapHost fun h => { h with stretching := false }) ∧
    (s.clock t).twb0.out = r :: l :=
  ⟨0, { op := 129, tid := 1, status := 0, seq := 2, data := [7] }, [], _, (sr.mapReq .twb0 fun x => { x with out := [{ op := 129, tid := 1, status := 0, seq := 2, data := [7] }] }), ⟨by decide, by decide, rfl, by decide⟩⟩

theorem meets_Twb0Answers_6_responseLen : ∃ (t : Nat) (u : State) (s : State),
    (s.clock t).ms.low.contains .vddioC = false ∧
    (s.clock t).hostUp = true ∧
    (u = (s.clock t).mapHost fun h => { h with stretching := false }) ∧
    (s.clock t).twb0.out = [] :=
  ⟨0, _, sr, ⟨by decide, by decide, rfl, by decide⟩⟩

theorem meets_Twb0Answers_7_resend : ∃ (t : Nat) (r : Response) (u : State) (s : State),
    (s.clock t).ms.low.contains .vddioC = false ∧
    (s.clock t).hostUp = true ∧
    (u = (s.clock t).mapHost fun h => { h with stretching := false }) ∧
    (s.clock t).host.lastTwb = some r :=
  ⟨0, { op := 129, tid := 1, status := 0, seq := 2, data := [7] }, _, { sr with host := { HostPorts.reset with lastTwb := some { op := 129, tid := 1, status := 0, seq := 2, data := [7] } } }, ⟨by decide, by decide, rfl, by decide⟩⟩

theorem meets_Twb0Answers_8_resend : ∃ (t : Nat) (u : State) (s : State),
    (s.clock t).ms.low.contains .vddioC = false ∧
    (s.clock t).hostUp = true ∧
    (u = (s.clock t).mapHost fun h => { h with stretching := false }) ∧
    (s.clock t).host.lastTwb = none :=
  ⟨0, _, sr, ⟨by decide, by decide, rfl, by decide⟩⟩

theorem meets_Twb0Answers_9_attention : ∃ (t : Nat) (u : State) (s : State),
    (s.clock t).ms.low.contains .vddioC = false ∧
    (s.clock t).hostUp = true ∧
    (u = (s.clock t).mapHost fun h => { h with stretching := false }) :=
  ⟨0, _, sr, ⟨by decide, by decide, rfl⟩⟩

theorem meets_Twb0Answers_11_unknownCommand : ∃ (t : Nat) (code : Nat) (u : State) (s : State),
    (s.clock t).ms.low.contains .vddioC = false ∧
    (s.clock t).hostUp = true ∧
    (u = (s.clock t).mapHost fun h => { h with stretching := false }) ∧
    twbCodes.contains code = false :=
  ⟨0, 0x99, _, sr, ⟨by decide, by decide, rfl, by decide⟩⟩

theorem meets_Twb0RequestsAndErrors_0_request : ∃ (t : Nat) (x : TwbWrite) (u w : State) (s : State),
    (s.clock t).ms.low.contains .vddioC = false ∧
    (s.clock t).hostUp = true ∧
    (u = (s.clock t).mapHost fun h => { h with stretching := false }) ∧
    (w = if (s.clock t).pecFails x.pec = true then (u.bump 0x2300 9).event 0xB2 0x2300 else if x.count < 8 ∨ x.bytes.length < x.count ∨ bodyFits (x.bytes.take x.count) = false then u.bump 0x2300 0x0A else u.arrive .twb0 { node := 0xFFFF, reply := true, body := x.bytes.take x.count }) :=
  ⟨0, { count := 8, bytes := [1, 0, 0, 0x10, 1, 0, 4, 0], pec := none }, _, _, (sr.wr 0x2300 3 1), ⟨by decide, by decide, rfl, rfl⟩⟩

theorem meets_Twb0RequestsAndErrors_1_startInAck : ∃ (t : Nat) (u : State) (s : State),
    (s.clock t).ms.low.contains .vddioC = false ∧
    (s.clock t).hostUp = true ∧
    (u = (s.clock t).mapHost fun h => { h with stretching := false }) :=
  ⟨0, _, sr, ⟨by decide, by decide, rfl⟩⟩

theorem meets_Twb0RequestsAndErrors_2_sclTimeout : ∃ (t : Nat) (u : State) (s : State),
    (s.clock t).ms.low.contains .vddioC = false ∧
    (s.clock t).hostUp = true ∧
    (u = (s.clock t).mapHost fun h => { h with stretching := false }) :=
  ⟨0, _, sr, ⟨by decide, by decide, rfl⟩⟩

theorem meets_Twb0RequestsAndErrors_3_stretchTimeout : ∃ (t : Nat) (u : State) (s : State),
    (s.clock t).ms.low.contains .vddioC = false ∧
    (s.clock t).hostUp = true ∧
    (u = (s.clock t).mapHost fun h => { h with stretching := false }) ∧
    (s.clock t).host.stretching = true ∧
    (s.clock t).twb0.out = [] ∧
    (s.clock t).host.stretchAt + 10000000 ≤ (s.clock t).now :=
  ⟨10000000, _, { sr with host := { HostPorts.reset with stretching := true } }, ⟨by decide, by decide, rfl, by decide, by decide, by decide⟩⟩

theorem meets_Twb0RequestsAndErrors_4_hostNotify : ∃ (t : Nat) (ack : Bool) (s : State),
    (s.clock t).mayNotify = true ∧
    (s.clock t).host.notify = 0 ∧
    (s.clock t).notifyDue = true :=
  ⟨0, true, ({ sr with host := { HostPorts.reset with latched := 1 } }.wr 0x2300 4 0x3FF), by decide⟩

theorem meets_Twb0RequestsAndErrors_5_notifyRetry : ∃ (t : Nat) (ack : Bool) (s : State),
    (s.clock t).mayNotify = true ∧
    (s.clock t).host.notify = 2 ∧
    (s.clock t).host.notifyAt + 1000000 ≤ (s.clock t).now :=
  ⟨1000000, true, { sr with host := { HostPorts.reset with notify := 2 } }, by decide⟩

theorem meets_Twb0RequestsAndErrors_6_arbitrationLost : ∃ (t : Nat) (during : ArbPhase) (s : State),
    (s.clock t).controls 0 = true :=
  ⟨0, .stop, { sr with host := { HostPorts.reset with notify := 2 } }, by decide⟩

theorem meets_Twb0RequestsAndErrors_7_arbitrationLost : ∃ (t : Nat) (during : ArbPhase) (u : State) (s : State),
    (s.clock t).controls 1 = true ∧
    (u = (s.clock t).mapHost fun h => { h with arbAt := some (s.clock t).now }) :=
  ⟨0, .restart, _, { sr with avs := { Avs.reset with op := some .voutMode } }, ⟨by decide, rfl⟩⟩

theorem meets_Twb0RequestsAndErrors_8_busRecovery : ∃ (t : Nat) (bus pulses : Nat) (s : State),
    bus < 2 ∧
    (s.clock t).pdOn 3 = true :=
  ⟨0, 1, 4, sr, by decide⟩

theorem meets_Twb0RequestsAndErrors_9_busStuckRetry : ∃ (t : Nat) (pulses : Nat) (s : State),
    (s.clock t).pdOn 3 = true ∧
    (s.clock t).host.stuck0 = true ∧
    (s.clock t).host.recoverAt0 + 1000000000 ≤ (s.clock t).now :=
  ⟨1000000000, 4, { sr with host := { HostPorts.reset with stuck0 := true } }, by decide⟩

theorem meets_Twb0RequestsAndErrors_10_busStuckRetry : ∃ (t : Nat) (pulses : Nat) (s : State),
    (s.clock t).pdOn 3 = true ∧
    (s.clock t).host.stuck1 = true ∧
    (s.clock t).host.recoverAt1 + 1000000000 ≤ (s.clock t).now :=
  ⟨1000000000, 4, { sr with host := { HostPorts.reset with stuck1 := true } }, by decide⟩

theorem meets_HspiFrames_0_hspiRequest : ∃ (t : Nat) (body : List Byte) (crc : Nat) (u w : State) (s : State),
    (s.clock t).ms.low.contains .vddioD = false ∧
    (s.clock t).hostUp = true ∧
    (s.clock t).boot.pushWait = false ∧
    u = (s.clock t).bump 0x2302 4 ∧
    (w = if bodyFits body = false then u.frameError else if crc16 (0x01 :: body) = crc then u.arrive .hspi { node := 0xFFFF, reply := true, body } else u.crcFails) :=
  ⟨0, [1, 0, 0, 0x10, 1, 0, 4, 0], (crc16 (1 :: [1, 0, 0, 0x10, 1, 0, 4, 0])), _, _, sr, ⟨by decide, by decide, by decide, rfl, rfl⟩⟩

theorem meets_HspiFrames_1_fetch : ∃ (t : Nat) (full : Bool) (r : Response) (l : List Response) (u w : State) (s : State),
    (s.clock t).ms.low.contains .vddioD = false ∧
    (s.clock t).hostUp = true ∧
    (s.clock t).boot.pushWait = false ∧
    u = (s.clock t).bump 0x2302 4 ∧
    (s.clock t).hspi.out = r :: l ∧
    (w = if full = true then u.takeResponse .hspi r else u.frameError) :=
  ⟨0, true, { op := 129, tid := 1, status := 0, seq := 2, data := [7] }, [], _, _, (sr.mapReq .hspi fun x => { x with out := [{ op := 129, tid := 1, status := 0, seq := 2, data := [7] }] }), ⟨by decide, by decide, by decide, rfl, by decide, rfl⟩⟩

theorem meets_HspiFrames_2_fetch : ∃ (t : Nat) (full : Bool) (u w : State) (s : State),
    (s.clock t).ms.low.contains .vddioD = false ∧
    (s.clock t).hostUp = true ∧
    (s.clock t).boot.pushWait = false ∧
    u = (s.clock t).bump 0x2302 4 ∧
    (s.clock t).hspi.out = [] ∧
    (w = if full = true then u else u.frameError) :=
  ⟨0, true, _, _, sr, ⟨by decide, by decide, by decide, rfl, by decide, rfl⟩⟩

theorem meets_HspiFrames_3_refetch : ∃ (t : Nat) (full : Bool) (u w : State) (s : State),
    (s.clock t).ms.low.contains .vddioD = false ∧
    (s.clock t).hostUp = true ∧
    (s.clock t).boot.pushWait = false ∧
    u = (s.clock t).bump 0x2302 4 ∧
    (w = if full = true then u else u.frameError) :=
  ⟨0, true, _, _, sr, ⟨by decide, by decide, by decide, rfl, rfl⟩⟩

theorem meets_HspiFrames_4_hspiStatus : ∃ (t : Nat) (full : Bool) (u : State) (r : State × List Byte) (s : State),
    (s.clock t).ms.low.contains .vddioD = false ∧
    ((s.clock t).hostUp = true ∨ (s.clock t).boot.pushWait = true) ∧
    u = (s.clock t).bump 0x2302 4 ∧
    r = u.hspiStatusFrame full :=
  ⟨0, true, _, _, sr, ⟨by decide, Or.inl (by decide), rfl, rfl⟩⟩

theorem meets_HspiFrames_5_hspiFrameAbort : ∃ (t : Nat) (u w : State) (s : State),
    (s.clock t).ms.low.contains .vddioD = false ∧
    ((s.clock t).hostUp = true ∨ (s.clock t).boot.pushWait = true) ∧
    u = (s.clock t).bump 0x2302 4 ∧
    w = u.frameError :=
  ⟨0, _, _, sr, ⟨by decide, Or.inl (by decide), rfl, rfl⟩⟩

theorem meets_HspiFrames_6_push : ∃ (t : Nat) (offset : Nat) (data : List Byte) (crc : Nat) (u w : State) (s : State),
    (s.clock t).ms.low.contains .vddioD = false ∧
    ((s.clock t).hostUp = true ∨ (s.clock t).boot.pushWait = true) ∧
    u = (s.clock t).bump 0x2302 4 ∧
    (w = if data.length = 0 ∨ 512 < data.length ∨ 0x400000 < offset + data.length then u.frameError else if crc16 (0x10 :: (leBytes 4 offset ++ leBytes 2 data.length ++ data)) ≠ crc then u.crcFails else if u.boot.pushWait = true then { u with boot := { u.boot with pushed := u.boot.pushed ++ [(offset, data.length)] } } else u) :=
  ⟨0, 0, [5], 7, _, _, { sr with boot := { Boot.reset with pushWait := true } }, ⟨by decide, Or.inr (by decide), rfl, rfl⟩⟩

theorem meets_HspiFrames_7_pushEnd : ∃ (t : Nat) (length crc : Nat) (img : BootImage) (u w : State) (s : State),
    (s.clock t).ms.low.contains .vddioD = false ∧
    (s.clock t).boot.pushWait = true ∧
    u = (s.clock t).bump 0x2302 4 ∧
    crc16 (0x11 :: leBytes 4 length) ≠ crc ∧
    w = u.crcFails :=
  ⟨0, 0, 65536, { source := 3, headerOk := true, signatureOk := true, keyHash := [], fwVersion := 1, secVersion := 9, records := [], noFlash := false, slot0Bad := false, slot1Bad := false }, _, _, { sr with boot := { Boot.reset with pushWait := true } }, ⟨by decide, by decide, rfl, by decide +kernel, rfl⟩⟩

theorem meets_HspiFrames_8_pushEnd : ∃ (t : Nat) (length crc : Nat) (img : BootImage) (u w : State) (s : State),
    (s.clock t).ms.low.contains .vddioD = false ∧
    (s.clock t).boot.pushWait = true ∧
    u = (s.clock t).bump 0x2302 4 ∧
    crc16 (0x11 :: leBytes 4 length) = crc ∧
    ((s.clock t).boot.pushed = [] ∨ (∃ x ∈ (s.clock t).boot.pushed, length < x.1 + x.2) ∨ (s.clock t).imageOk img = false) ∧
    w = { u with boot := { u.boot with pushed := [], pushErr := true } } :=
  ⟨0, 0, _, { source := 3, headerOk := true, signatureOk := true, keyHash := [], fwVersion := 1, secVersion := 9, records := [], noFlash := false, slot0Bad := false, slot1Bad := false }, _, _, { sr with boot := { Boot.reset with pushWait := true } }, ⟨by decide, by decide, rfl, rfl, Or.inl (by decide), rfl⟩⟩

theorem meets_HspiFrames_9_pushEnd : ∃ (t : Nat) (length crc : Nat) (img : BootImage) (u w : State) (r : Nat × State) (s : State),
    (s.clock t).ms.low.contains .vddioD = false ∧
    (s.clock t).boot.pushWait = true ∧
    u = (s.clock t).bump 0x2302 4 ∧
    crc16 (0x11 :: leBytes 4 length) = crc ∧
    (s.clock t).boot.pushed ≠ [] ∧
    (∀ x ∈ (s.clock t).boot.pushed, x.1 + x.2 ≤ length) ∧
    (s.clock t).imageOk img = true ∧
    r = u.draw 129 ∧
    (w = r.2.bootWith { img with source := 3 } (if r.1.testBit 128 = true then leBytes 16 r.1 else [])) :=
  ⟨0, 1, _, { source := 3, headerOk := true, signatureOk := true, keyHash := [], fwVersion := 1, secVersion := 9, records := [], noFlash := false, slot0Bad := false, slot1Bad := false }, _, _, _, ({ sr with boot := { Boot.reset with pushWait := true, keyHash := none, pushed := [(0, 1)] } }.wr 0x2303 5 0), ⟨by decide, by decide, rfl, rfl, by decide, by decide, by decide, rfl, rfl⟩⟩

theorem meets_HspiFrames_10_hspiRequest : ∃ (t : Nat) (body : List Byte) (crc : Nat) (u : State) (s : State),
    (s.clock t).ms.low.contains .vddioD = false ∧
    (s.clock t).boot.pushWait = true ∧
    u = (s.clock t).bump 0x2302 4 :=
  ⟨0, [], 0, _, { sr with boot := { Boot.reset with pushWait := true } }, ⟨by decide, by decide, rfl⟩⟩

theorem meets_HspiFrames_11_fetch : ∃ (t : Nat) (full : Bool) (u : State) (s : State),
    (s.clock t).ms.low.contains .vddioD = false ∧
    (s.clock t).boot.pushWait = true ∧
    u = (s.clock t).bump 0x2302 4 :=
  ⟨0, true, _, { sr with boot := { Boot.reset with pushWait := true } }, ⟨by decide, by decide, rfl⟩⟩

theorem meets_HspiFrames_12_refetch : ∃ (t : Nat) (full : Bool) (u : State) (s : State),
    (s.clock t).ms.low.contains .vddioD = false ∧
    (s.clock t).boot.pushWait = true ∧
    u = (s.clock t).bump 0x2302 4 :=
  ⟨0, true, _, { sr with boot := { Boot.reset with pushWait := true } }, ⟨by decide, by decide, rfl⟩⟩

theorem meets_HspiFrames_13_pushEnd : ∃ (t : Nat) (length crc : Nat) (img : BootImage) (u : State) (s : State),
    (s.clock t).ms.low.contains .vddioD = false ∧
    (s.clock t).hostUp = true ∧
    (s.clock t).boot.pushWait = false ∧
    u = (s.clock t).bump 0x2302 4 :=
  ⟨0, 0, 0, { source := 3, headerOk := true, signatureOk := true, keyHash := [], fwVersion := 1, secVersion := 9, records := [], noFlash := false, slot0Bad := false, slot1Bad := false }, _, sr, ⟨by decide, by decide, by decide, rfl⟩⟩

theorem meets_CommitAndDiscard_0_commit : ∃ (t : Nat) (q : Req) (b : Body) (u : State) (x : ReqState) (e : State) (s : State),
    b = writeBody 2 q 0x1010 1 [1] ∧
    b.fits = true ∧
    (s.clock t).free q b = true ∧
    u = (s.clock t).working q b ∧
    u.accessStatus q.who true 0x1010 1 = 0 ∧
    x = u.req q.who ∧
    (u.commitStatus x.staged (x.staged.any fun y => u.conflict q.who y.key) x.commitAt = 0) ∧
    e = u.setEntry .commit q.who (entryNode q.who q.node) 0 x.staged.length 0 (firstSeq x.staged) :=
  ⟨0, { who := .twb0, node := 0xFFFF, tid := 1 }, _, _, _, _, sr, ⟨rfl, by decide, by decide, rfl, by decide, rfl, by decide, rfl⟩⟩

theorem meets_CommitAndDiscard_1_discard : ∃ (t : Nat) (q : Req) (b : Body) (u : State) (s : State),
    b = writeBody 2 q 0x1010 1 [2] ∧
    b.fits = true ∧
    (s.clock t).free q b = true ∧
    u = (s.clock t).working q b ∧
    u.accessStatus q.who true 0x1010 1 = 0 :=
  ⟨0, { who := .twb0, node := 0xFFFF, tid := 1 }, _, _, sr, ⟨rfl, by decide, by decide, rfl, by decide⟩⟩

theorem meets_BlockTransfers_0_blockOpen : ∃ (t : Nat) (q : Req) (index : Nat) (data : List Byte) (b : Body) (u : State) (r : Row) (s : State),
    b = writeBody 2 q index 2 data ∧
    b.fits = true ∧
    (s.clock t).free q b = true ∧
    u = (s.clock t).working q b ∧
    u.accessStatus q.who true index 2 = 0 ∧
    isDomain index = true ∧
    rowOf index 2 = some r ∧
    r.ty ≠ .domain ∧
    r.ty.size = data.length ∧
    leNat data ≠ 0 ∧
    leNat data ≤ blockMax index ∧
    (isWindow index && u.capBusy (index - 0x5200)) = false ∧
    u.chipTaken q.who = false :=
  ⟨0, { who := .twb0, node := 0xFFFF, tid := 1 }, 0x5000, [4, 0, 0, 0], _, _, _, sr, ⟨rfl, by decide, by decide, rfl, by decide, by decide, rfl, by decide, by decide, by decide, by decide, by decide, by decide⟩⟩

theorem meets_BlockTransfers_1_blockWrite : ∃ (t : Nat) (q : Req) (index sub offset : Nat) (seg : List Byte) (b : Body) (u : State) (x : BlockBuf) (s : State),
    b = writeBody 5 q index sub (leBytes 4 offset ++ seg) ∧
    b.fits = true ∧
    (s.clock t).free q b = true ∧
    u = (s.clock t).working q b ∧
    u.accessStatus q.who true index sub = 0 ∧
    (rowOf index sub).map Row.ty = some .domain ∧
    offset < 2 ^ 32 ∧
    seg.length + 4 ≤ 512 ∧
    (u.req q.who).buffer = some x ∧
    x.index = index ∧
    offset + seg.length ≤ x.data.length ∧
    (isWindow index = false ∨ (u.mem.ready = true ∧ u.capBusy (index - 0x5200) = false)) :=
  ⟨0, { who := .twb0, node := 0xFFFF, tid := 1 }, 0x5000, 1, 0, [9], _, _, { index := 0x5000, data := [0, 0] }, (sr.mapReq .twb0 fun x => { x with buffer := some { index := 0x5000, data := [0, 0] } }), ⟨rfl, by decide, by decide, rfl, by decide, by decide, by decide, by decide, by decide, by decide, by decide, by decide⟩⟩

theorem meets_BlockTransfers_2_blockRead : ∃ (t : Nat) (q : Req) (index sub offset len : Nat) (b : Body) (u : State) (s : State),
    b = { op := 4, tid := q.tid, index, sub, len, data := leBytes 4 offset } ∧
    b.fits = true ∧
    (s.clock t).free q b = true ∧
    u = (s.clock t).working q b ∧
    u.accessStatus q.who false index sub = 0 ∧
    (rowOf index sub).map Row.ty = some .domain ∧
    offset < 2 ^ 32 ∧
    len ≤ maxLen q.who :=
  ⟨0, { who := .twb0, node := 0xFFFF, tid := 1 }, 0x5000, 1, 0, 4, _, _, sr, ⟨rfl, by decide, by decide, rfl, by decide, by decide, by decide, by decide⟩⟩

theorem meets_BlockTransfers_3_blockClose : ∃ (t : Nat) (q : Req) (index : Nat) (stage : Bool) (data : List Byte) (b : Body) (u : State) (r : Row) (x : BlockBuf) (y : WItem) (s : State),
    (b = writeBody (if stage then 3 else 2) q index 3 data) ∧
    b.fits = true ∧
    (s.clock t).free q b = true ∧
    u = (s.clock t).working q b ∧
    u.accessStatus q.who true index 3 = 0 ∧
    isDomain index = true ∧
    rowOf index 3 = some r ∧
    r.ty ≠ .domain ∧
    r.ty.size = data.length ∧
    (u.req q.who).buffer = some x ∧
    x.index = index ∧
    y = u.closeItem q.who index (leNat data) x.data ∧
    u.closeStatus q.who stage (some x) (leNat data) y = 0 :=
  ⟨0, { who := .twb0, node := 0xFFFF, tid := 1 }, 0x5F01, false, [0xAD, 0x55, 0x0A, 0x19], _, _, _, { index := 0x5F01, data := List.replicate 32 0 }, _, ({ sr with ms := { sr.ms with mode := .pearl }, boot := { sr.boot with keyHash := none } }.mapReq .twb0 fun x => { x with buffer := some { index := 0x5F01, data := List.replicate 32 0 } }), ⟨rfl, by decide, by decide, rfl, by decide, by decide, rfl, by decide, by decide, by decide, by decide, rfl, by decide +kernel⟩⟩

theorem meets_JournalReads_0_readFrom : ∃ (t : Nat) (q : Req) (data : List Byte) (b : Body) (u : State) (r : Row) (s : State),
    b = writeBody 2 q 0x1F00 7 data ∧
    b.fits = true ∧
    (s.clock t).free q b = true ∧
    u = (s.clock t).working q b ∧
    u.accessStatus q.who true 0x1F00 7 = 0 ∧
    rowOf 0x1F00 7 = some r ∧
    r.ty ≠ .domain ∧
    r.ty.size = data.length ∧
    u.journal.retains (leNat data) = true ∧
    u.tableRoom q.who = true :=
  ⟨0, { who := .twb0, node := 0xFFFF, tid := 1 }, [1, 0, 0, 0], _, _, _, sr, ⟨rfl, by decide, by decide, rfl, by decide, rfl, by decide, by decide, by decide, by decide⟩⟩

theorem meets_JournalReads_1_entriesRead : ∃ (t : Nat) (q : Req) (len : Nat) (b : Body) (u : State) (n back : Nat) (s : State),
    b = { op := 1, tid := q.tid, index := 0x1F01, sub := 1, len, data := [] } ∧
    b.fits = true ∧
    (s.clock t).free q b = true ∧
    u = (s.clock t).working q b ∧
    u.accessStatus q.who false 0x1F01 1 = 0 ∧
    len ≤ maxLen q.who ∧
    n = min 16 (readLimit q.who len / 32) ∧
    back = (u.journal.nextSeq + 2 ^ 32 - u.readFrom q.who) % 2 ^ 32 ∧
    (u.journal.mirrorState ≠ 1 ∨ min n back = 0 ∨ back ≤ u.journal.ring.length) ∧
    min n back ≤ (u.journal.take (u.readFrom q.who) n).length :=
  ⟨0, { who := .twb0, node := 0xFFFF, tid := 1 }, 64, _, _, _, _, sr, ⟨rfl, by decide, by decide, rfl, by decide, by decide, rfl, rfl, by decide, by decide⟩⟩

theorem meets_ArrivalsAndUnknownOps_0_transactionArrive : ∃ (t : Nat) (q : Req) (body : List Byte) (u : State) (s : State),
    8 ≤ body.length ∧
    (s.clock t).canRun q.who = true ∧
    ((s.clock t).req q.who).queue.length < 8 ∧
    (q.who ≠ .twb0 ∧ q.who ≠ .hspi ∨ ((s.clock t).req q.who).out.length < 16) ∧
    (u = ((s.clock t).busGate q.who).mapReq q.who fun x => { x with lastSeen := (s.clock t).now }) :=
  ⟨0, { who := .twb0, node := 0xFFFF, tid := 1 }, [1, 0, 0, 0x10, 1, 0, 4, 0], _, sr, ⟨by decide, by decide, by decide, by decide, rfl⟩⟩

theorem meets_ArrivalsAndUnknownOps_1_transactionArrive : ∃ (t : Nat) (q : Req) (body : List Byte) (b : Body) (u : State) (s : State),
    parseBody body = some b ∧
    (s.clock t).canRun q.who = true ∧
    8 ≤ ((s.clock t).req q.who).queue.length ∧
    (q.who = .twb0 ∨ q.who = .hspi) ∧
    ((s.clock t).req q.who).out.length < 16 ∧
    (u = ((s.clock t).busGate q.who).mapReq q.who fun x => { x with lastSeen := (s.clock t).now }) :=
  ⟨0, { who := .twb0, node := 0xFFFF, tid := 1 }, [1, 0, 0, 0x10, 1, 0, 4, 0], _, _, (sr.mapReq .twb0 fun x => { x with queue := List.replicate 8 { node := 0xFFFF, reply := true, body := [] } }), ⟨rfl, by decide, by decide, by decide, by decide, rfl⟩⟩

theorem meets_ArrivalsAndUnknownOps_2_transactionArrive : ∃ (t : Nat) (q : Req) (uid : Nat) (body : List Byte) (b : Body) (u : State) (s : State),
    parseBody body = some b ∧
    q.who = .chain uid ∧
    (s.clock t).canRun q.who = true ∧
    8 ≤ ((s.clock t).req q.who).queue.length ∧
    (u = ((s.clock t).busGate q.who).mapReq q.who fun x => { x with lastSeen := (s.clock t).now }) :=
  ⟨0, { who := .chain 9, node := 2, tid := 1 }, 9, [1, 0, 0, 0x10, 1, 0, 4, 0], _, _, (({ pds [11] sr with net := { Net.reset with everSync := true } }.setFn (.syn .s) runF).mapReq (.chain 9) fun x => { x with queue := List.replicate 8 { node := 0xFFFF, reply := true, body := [] } }), ⟨rfl, rfl, by decide, by decide, rfl⟩⟩

theorem meets_ArrivalsAndUnknownOps_3_transactionArrive : ∃ (t : Nat) (q : Req) (body : List Byte) (u : State) (s : State),
    8 ≤ body.length ∧
    (s.clock t).canRun q.who = true ∧
    (q.who = .twb0 ∨ q.who = .hspi) ∧
    16 ≤ ((s.clock t).req q.who).out.length ∧
    (u = ((s.clock t).busGate q.who).mapReq q.who fun x => { x with lastSeen := (s.clock t).now }) :=
  ⟨0, { who := .twb0, node := 0xFFFF, tid := 1 }, [1, 0, 0, 0x10, 1, 0, 4, 0], _, (sr.mapReq .twb0 fun x => { x with out := List.replicate 16 { op := 129, tid := 1, status := 0, seq := 2, data := [7] } }), ⟨by decide, by decide, by decide, by decide, rfl⟩⟩

theorem meets_ArrivalsAndUnknownOps_4_transactionArrive : ∃ (t : Nat) (q : Req) (body : List Byte) (s : State),
    8 ≤ body.length ∧
    (s.clock t).canRun q.who = false :=
  ⟨0, { who := .twb0, node := 0xFFFF, tid := 1 }, [1, 0, 0, 0x10, 1, 0, 4, 0], State.reset, by decide⟩

theorem meets_ArrivalsAndUnknownOps_5_unknownOp : ∃ (t : Nat) (q : Req) (op : Nat) (b : Body) (u : State) (s : State),
    between 1 5 (op % 256) = false ∧
    b = { op, tid := q.tid, index := 0x1000, sub := 0, len := 0, data := [] } ∧
    b.fits = true ∧
    (s.clock t).free q b = true ∧
    u = (s.clock t).working q b :=
  ⟨0, { who := .twb0, node := 0xFFFF, tid := 1 }, 9, _, _, sr, ⟨by decide, rfl, by decide, by decide, rfl⟩⟩

/-! ## The commands that are one transaction -/

/-- The hypotheses of `TransactionExecutes`. -/
def asksFree (c : Instr) (s : State) : Bool :=
  match asks c with
  | none => false
  | some (t, q, b) => b.fits && (s.clock t).free q b

/-- The hypotheses of `WritesApply`. -/
def asksWrite (c : Instr) (s : State) : Bool :=
  asksFree c s && (match asks c with
    | none => false
    | some (t, q, b) => b.op == 2 && ((s.clock t).working q b).takesWrite q.who b)

/-- The hypotheses of `StagesEnter`. -/
def asksStage (c : Instr) (s : State) : Bool :=
  asksFree c s && (match asks c with
    | none => false
    | some (t, q, b) => b.op == 3 && ((s.clock t).working q b).takesStage q.who b)

/-- The hypotheses of `ReadsAnswer`. -/
def asksRead (c : Instr) (s : State) : Bool :=
  asksFree c s && (match asks c with
    | none => false
    | some (t, q, b) => b.op == 1 && ((s.clock t).working q b).takesRead q.who b && (rowOf b.index b.sub).isSome)

/-- The device in PEARL. -/
def pearl : State := { sr with ms := { sr.ms with mode := .pearl } }

/-- A recipe of one gain block (R237, R238): 10 steps, 4 coefficient bytes, 8 state bytes. -/
def gainRecipe : List Byte :=
  [0, 1, 1, 0, 10, 0, 0, 0, 4, 0, 0, 0, 8, 0, 0, 0] ++ [4, 0, 0, 0, 4, 0, 0, 0, 0, 0, 0, 0]


theorem meets_asksWrite_write : asksWrite (.write 0 aReq 0x3104 2 [1]) sr = true := by decide

theorem meets_asksWrite_targetMode : asksWrite (.targetMode 0 aReq [4]) sr = true := by decide

theorem meets_asksWrite_keepOff : asksWrite (.keepOff 0 aReq 4 [1]) sr = true := by decide

theorem meets_asksWrite_crimsonAck : asksWrite (.crimsonAck 0 aReq) sr = true := by decide

theorem meets_asksWrite_ceiling : asksWrite (.ceiling 0 aReq [0xEE, 2]) sr = true := by decide

theorem meets_asksWrite_forceSwitch : asksWrite (.forceSwitch 0 aReq 0x2118 4) sr = true := by decide

theorem meets_asksWrite_refScale : asksWrite (.refScale 0 aReq .a [1]) pearl = true := by decide

theorem meets_asksWrite_leader : asksWrite (.leader 0 aReq 0 [0, 1]) sr = true := by decide

theorem meets_asksWrite_overLatch : asksWrite (.overLatch 0 aReq 1 [1]) sr = true := by decide

theorem meets_asksWrite_blockLiveValue : asksWrite (.blockLiveValue 0 aReq 0 0 [1, 0, 0, 0]) (sr.setBlock 0x5000 gainRecipe) = true := by decide

theorem meets_asksWrite_faultClear : asksWrite (.faultClear 0 aReq 0x3101) sr = true := by decide

theorem meets_asksWrite_jackAction : asksWrite (.jackAction 0 aReq 1 false [1]) sr = true := by decide

theorem meets_asksWrite_shareRequest : asksWrite (.shareRequest 0 aReq [1]) sr = true := by decide

theorem meets_asksWrite_sendBeacon : asksWrite (.sendBeacon 0 aReq [4]) sr = true := by decide

theorem meets_asksWrite_switchRequest : asksWrite (.switchRequest 0 aReq [1]) sr = true := by decide

theorem meets_asksWrite_grantTo : asksWrite (.grantTo 0 aReq 0 [1]) sr = true := by decide

theorem meets_asksWrite_ringRelease : asksWrite (.ringRelease 0 aReq) sr = true := by decide

theorem meets_asksWrite_swTrigger : asksWrite (.swTrigger 0 aReq) sr = true := by decide

theorem meets_asksWrite_urgentBank : asksWrite (.urgentBank 0 aReq [0, 0xE0]) sr = true := by decide

theorem meets_asksWrite_urgentSlice : asksWrite (.urgentSlice 0 aReq [0, 0]) sr = true := by decide

theorem meets_asksWrite_refSource : asksWrite (.refSource 0 aReq [1]) sr = true := by decide

theorem meets_asksWrite_windowMode : asksWrite (.windowMode 0 aReq [1]) sr = true := by decide

theorem meets_asksWrite_commitSv : asksWrite (.commitSv 0 aReq) sr = true := by decide

theorem meets_asksWrite_retrain : asksWrite (.retrain 0 aReq) mp = true := by decide

theorem meets_asksWrite_transportCommand : asksWrite (.transportCommand 0 aReq 0 [1]) sr = true := by decide

theorem meets_asksWrite_counterSource : asksWrite (.counterSource 0 aReq 0 [0x0C, 0, 0, 0]) sr = true := by decide

theorem meets_asksWrite_counterClear : asksWrite (.counterClear 0 aReq 0) sr = true := by decide

theorem meets_asksWrite_snapNow : asksWrite (.snapNow 0 aReq) sr = true := by decide

theorem meets_asksWrite_snapChain : asksWrite (.snapChain 0 aReq) sr = true := by decide

theorem meets_asksWrite_testRun : asksWrite (.testRun 0 aReq) pearl = true := by decide

theorem meets_asksWrite_lock : asksWrite (.lock 0 aReq) sr = true := by decide

theorem meets_asksStage_stage : asksStage (.stage 0 aReq 0x3104 2 [1]) sr = true := by decide

theorem meets_asksRead_read : asksRead (.read 0 aReq 0x3104 2 1) sr = true := by decide

theorem meets_asksRead_crimsonCauseRead : asksRead (.crimsonCauseRead 0 aReq 4) sr = true := by decide

theorem meets_asksRead_meterRead : asksRead (.meterRead 0 aReq 0x3910 1 64) sr = true := by decide

theorem meets_asksRead_hkResultRead : asksRead (.hkResultRead 0 aReq 64) sr = true := by decide

theorem meets_asksRead_attention : asksRead (.attention 0 (.object aReq 2)) sr = true := by decide

theorem meets_asksFree_blockRead : asksFree (.blockRead 0 aReq 0x5F01 1 0 4) sr = true := by decide

theorem meets_asksFree_blockWrite : asksFree (.blockWrite 0 aReq 0x5F01 1 0 [1]) sr = true := by decide

theorem meets_asksFree_unknownOp : asksFree (.unknownOp 0 aReq 9) sr = true := by decide

theorem meets_asksFree_commit : asksFree (.commit 0 aReq) sr = true := by decide

theorem meets_asksFree_discard : asksFree (.discard 0 aReq) sr = true := by decide

theorem meets_asksFree_blockOpen : asksFree (.blockOpen 0 aReq 0x5F01 [4, 0, 0, 0]) sr = true := by decide

theorem meets_asksFree_blockClose : asksFree (.blockClose 0 aReq 0x5F01 false [0, 0, 0, 0]) sr = true := by decide

theorem meets_asksFree_readFrom : asksFree (.readFrom 0 aReq [0, 0, 0, 0]) sr = true := by decide

theorem meets_asksFree_entriesRead : asksFree (.entriesRead 0 aReq 64) sr = true := by decide

/-! ## Statements about states in general -/

theorem meets_StepIdles : State.reset.pending = [] := rfl

theorem meets_RightsStayLegal : ∃ s u : State, s.rights.legal = true ∧ step s = .next u :=
  ⟨State.reset, State.reset, by decide, rfl⟩

theorem meets_RequestBodyRoundTrip : (writeBody 2 aReq 0x3104 2 [1]).fits = true := by decide

theorem meets_AccessStatuses_absent : indexPresent 0x0FFF = false := by decide

theorem meets_AccessStatuses_sub : indexPresent 0x1000 = true ∧ rowOf 0x1000 0xFF = none := by decide

theorem meets_AccessStatuses_denied : (State.rights { sr with rights := { sr.rights with twb0Write := 0 } }).twb0Write = 0 ∧
    State.mayAccess { sr with rights := { sr.rights with twb0Write := 0 } } .twb0 true 0x3104 = false ∧
    (rowOf 0x3104 2).isSome = true := by decide

theorem meets_AccessStatuses_readOnly : sr.mayAccess .twb0 true 0x1000 = true ∧
    (rowOf 0x1000 0).map Row.acc = some .const ∧ (rowOf 0x2000 1).map Row.acc = some .ro := by decide

theorem meets_AccessStatuses_writeOnly : sr.mayAccess .twb0 false 0x2400 = true ∧ (rowOf 0x2400 1).map Row.acc = some .wo := by
  decide

theorem meets_AccessStatuses_readWrite : sr.mayAccess .twb0 false 0x2000 = true ∧ (rowOf 0x2000 2).map Row.acc = some .rw := by
  decide

theorem meets_AccessStatuses_locked :
    (State.rights { sr with rights := { sr.rights with lock := true } }).lock = true ∧
    State.mayAccess { sr with rights := { sr.rights with lock := true } } .twb0 true 0x1020 = true := by decide

theorem meets_UnpackRule : (0x7FFFFF : Nat) < 2 ^ 24 ∧ (0xFFFFFF : Nat) < 2 ^ 24 ∧ (0xFF : Nat) < 256 := by decide

theorem meets_PackThenUnpack : (packCode 24 sampleA.w).2 = false := by decide

theorem meets_SourcePoints : sourcePresent 0x817 = true ∧ sourcePresent 0x32 = false ∧ srcFunc 0x2FF = some (.sapRx 15) ∧
    srcFunc 0x4FF = some (.flowRx 31) ∧ srcFunc 0x5FF = some (.play 255) ∧ srcFunc 0x6FF = some (.lane 127) := by decide

theorem meets_GainRampLaw_levels : ({ g0 := some 0, g1 := some 100, i := 0, len := 2 } : Ramp).g0 = some 0 ∧ (1 : Nat) < 2 := by
  decide

theorem meets_GainRampLaw_mute : ({ g0 := some 0, g1 := none, i := 0, len := 2 } : Ramp).g1 = none ∧ (0 : Nat) + 1 < 2 := by decide

theorem meets_GainRampLaw_fromMute : ({ g0 := none, g1 := some 0, i := 0, len := 2 } : Ramp).g0 = none ∧ (1 : Nat) < 2 := by decide

theorem meets_GainRampLaw_restart : 0 < ({ g0 := none, g1 := some 0, i := 1, len := 2 } : Ramp).i ∧
    ({ g0 := none, g1 := some 0, i := 1, len := 2 } : Ramp).i < 2 := by decide

theorem meets_CountersCount : sr.test.left = [] ∧ (2 ^ 48 - 3 : Nat) + 1 < 2 ^ 48 - 1 := by decide

theorem meets_JournalEntries : sr.test.left = [] ∧ (6 : Nat) ≠ 0 := by decide

theorem meets_ActionsAct : forceOf 0x2118 4 = some .control ∨ (forceOf 0x2118 4).isSome = true := by decide

theorem meets_SettingsAct : (3 : Nat) ≠ sr.ms.mode.code ∧ pr.paired = true := by decide

end Sys2Proof.Tests
end

/-!
The tag byte, the unpacking of samples and the table of source points (07_samples_router.md, R195 to R197).
-/

namespace Sys2Proof.Proofs

open Sys2Proof Sys2Proof.Machine

/-! ## The tag byte -/

/-- The tag byte is the five tags, V on top, above three bits that are 0. -/
theorem tagByte_eq_bits (x : Sample) :
    tagByte x =
      (Nat.bit x.v 0 |> Nat.bit x.o |> Nat.bit x.s |> Nat.bit x.n |> Nat.bit x.q |>
        Nat.bit false |> Nat.bit false |> Nat.bit false) := by
  have weight (k : Nat) (b : Bool) : (if b then k else 0) = k * b.toNat := by cases b <;> simp
  simp only [tagByte, weight, Nat.bit_val, Bool.toNat_false]
  omega

@[simp] theorem tagByte_testBit_v (x : Sample) : (tagByte x).testBit 7 = x.v := by
  simp only [tagByte_eq_bits, Nat.testBit_bit_succ, Nat.testBit_bit_zero]

@[simp] theorem tagByte_testBit_o (x : Sample) : (tagByte x).testBit 6 = x.o := by
  simp only [tagByte_eq_bits, Nat.testBit_bit_succ, Nat.testBit_bit_zero]

@[simp] theorem tagByte_testBit_s (x : Sample) : (tagByte x).testBit 5 = x.s := by
  simp only [tagByte_eq_bits, Nat.testBit_bit_succ, Nat.testBit_bit_zero]

@[simp] theorem tagByte_testBit_n (x : Sample) : (tagByte x).testBit 4 = x.n := by
  simp only [tagByte_eq_bits, Nat.testBit_bit_succ, Nat.testBit_bit_zero]

@[simp] theorem tagByte_testBit_q (x : Sample) : (tagByte x).testBit 3 = x.q := by
  simp only [tagByte_eq_bits, Nat.testBit_bit_succ, Nat.testBit_bit_zero]

theorem tagByte_mod_eight (x : Sample) : tagByte x % 8 = 0 := by
  simp only [tagByte_eq_bits, Nat.bit_val, Bool.toNat_false]
  omega

theorem tagByte_lt (x : Sample) : tagByte x < 256 := by
  have hv := x.v.toNat_lt
  have ho := x.o.toNat_lt
  have hs := x.s.toNat_lt
  have hn := x.n.toNat_lt
  have hq := x.q.toNat_lt
  simp only [tagByte_eq_bits, Nat.bit_val, Bool.toNat_false]
  omega

/-! ## Unpacking -/

theorem unpack_24in3 (u : Nat) :
    unpack 0 u =
      { w := (unpackCode 24 u).1, v := true, o := (unpackCode 24 u).2, s := false, n := false, q := false } := rfl

theorem unpack_24in4 (u : Nat) :
    unpack 1 u =
      { w := (unpackCode 24 (u / 256)).1, v := u.testBit 7, o := u.testBit 6 || (unpackCode 24 (u / 256)).2,
        s := u.testBit 5, n := u.testBit 4, q := u.testBit 3 } := rfl

theorem unpack_32in4 (x : Nat) :
    unpack 2 x = { w := BitVec.ofNat 32 x, v := true, o := false, s := false, n := false, q := false } := rfl

theorem unpackCode_toInt {u : Nat} (hu : u < 2 ^ 24) :
    (unpackCode 24 u).1.toInt = (if u < 2 ^ 23 then (u : Int) else u - 2 ^ 24) * 16 := by
  simp only [unpackCode, Nat.mod_eq_of_lt hu, BitVec.toInt_ofInt]
  split <;> exact Int.bmod_eq_of_le (by omega) (by omega)

theorem unpackCode_snd {u : Nat} (hu : u < 2 ^ 24) : (unpackCode 24 u).2 = (u == 0x800000) := by
  simp only [unpackCode, Nat.mod_eq_of_lt hu]
  rfl

/-- The low three bits of a 24-in-4 word do not reach the sample. -/
theorem unpack_24in4_ignores_low {u k : Nat} (hk : k < 8) : unpack 1 (8 * u + k) = unpack 1 (8 * u) := by
  have hcode : (8 * u + k) / 256 = 8 * u / 256 := by omega
  have hbit (j : Nat) (hj : 3 ≤ j) : (8 * u + k).testBit j = (8 * u).testBit j := by
    rw [show 8 = 2 ^ 3 from rfl, Nat.testBit_two_pow_mul_add u hk, Nat.testBit_two_pow_mul]
    simp [hj, Nat.not_lt.mpr hj]
  simp [unpack_24in4, hcode, hbit]

/-- A 24-in-4 word built of a code and a tag byte is read as that code with the tags of that byte. -/
theorem unpack_24in4_word (u : Nat) {c : Nat} (hc : c < 256) :
    unpack 1 (u * 256 + c) =
      { w := (unpackCode 24 u).1, v := c.testBit 7, o := c.testBit 6 || (unpackCode 24 u).2,
        s := c.testBit 5, n := c.testBit 4, q := c.testBit 3 } := by
  have hcode : (u * 256 + c) / 256 = u := by omega
  have hbit (j : Nat) (hj : j < 8) : (u * 256 + c).testBit j = c.testBit j := by
    rw [Nat.mul_comm, show 256 = 2 ^ 8 from rfl, Nat.testBit_two_pow_mul_add u hc, if_pos hj]
  simp [unpack_24in4, hcode, hbit]

/-! ## Source points: what feeds each range of the table -/

theorem sourcePresent_iff (p : Nat) : sourcePresent p = true ↔ p ≤ 0x31 ∨ 0x100 ≤ p ∧ p ≤ 0x817 := by
  simp only [sourcePresent, Bool.or_eq_true, Bool.and_eq_true, decide_eq_true_eq]
  omega

theorem srcFunc_input {p : Nat} (h : p ≤ 0x2F) : srcFunc p = some (.input (p + 1)) := if_pos h

theorem srcFunc_listen {p : Nat} (lo : 0x30 ≤ p) (hi : p ≤ 0x31) : srcFunc p = some .listen := by
  simp (disch := omega) only [srcFunc, if_pos, if_neg]

theorem srcFunc_sapRx {p : Nat} (lo : 0x100 ≤ p) (hi : p ≤ 0x2FF) :
    srcFunc p = some (.sapRx ((p - 0x100) / 32)) := by
  simp (disch := omega) only [srcFunc, if_pos, if_neg]

theorem srcFunc_flowRx {p : Nat} (lo : 0x300 ≤ p) (hi : p ≤ 0x4FF) :
    srcFunc p = some (.flowRx ((p - 0x300) / 16)) := by
  simp (disch := omega) only [srcFunc, if_pos, if_neg]

theorem srcFunc_play {p : Nat} (lo : 0x500 ≤ p) (hi : p ≤ 0x5FF) : srcFunc p = some (.play (p - 0x500)) := by
  simp (disch := omega) only [srcFunc, if_pos, if_neg]

theorem srcFunc_lane {p : Nat} (lo : 0x600 ≤ p) (hi : p ≤ 0x6FF) : srcFunc p = some (.lane ((p - 0x600) / 2)) := by
  simp (disch := omega) only [srcFunc, if_pos, if_neg]

theorem srcFunc_bus {p : Nat} (lo : 0x700 ≤ p) (hi : p ≤ 0x7FF) : srcFunc p = some (.bus (p - 0x700)) := by
  simp (disch := omega) only [srcFunc, if_pos, if_neg]

theorem srcFunc_generator {p : Nat} (lo : 0x800 ≤ p) (hi : p ≤ 0x80F) : srcFunc p = none := by
  simp (disch := omega) only [srcFunc, if_pos, if_neg]

theorem srcFunc_reader {p : Nat} (lo : 0x810 ≤ p) : srcFunc p = some (.reader (p - 0x810)) := by
  simp (disch := omega) only [srcFunc, if_neg]

/-! ## The obligations -/

/-- Settles O53: bit by bit from the five tags above three zero bits; a word is read at bit 3 and above only. -/
theorem tagByteLayout : Obligations.TagByteLayout := by
  intro x
  exact ⟨tagByte_testBit_v x, tagByte_testBit_o x, tagByte_testBit_s x, tagByte_testBit_n x, tagByte_testBit_q x,
    tagByte_mod_eight x, tagByte_lt x, fun _ _ hk => unpack_24in4_ignores_low hk⟩

/-- Settles O54: a 24-in-4 word splits into its code and its tag byte, and the code has the value of `unpackCode_toInt`. -/
theorem unpackRule : Obligations.UnpackRule := by
  intro u c hu hc
  have hfull : (unpack 0 0x800000).w.toInt = -2 ^ 27 := unpackCode_toInt (by norm_num)
  rw [unpack_24in4_word u hc, unpack_24in3 u]
  exact ⟨unpackCode_toInt hu, rfl, rfl, unpackCode_snd hu, rfl, rfl, rfl, rfl,
    congrArg (c.testBit 6 || ·) (unpackCode_snd hu), rfl, rfl, rfl, hfull, fun x _ => unpack_32in4 x⟩

/-- Settles O55: each row of the table is the range of `srcFunc` that holds its numbers. -/
theorem sourcePoints : Obligations.SourcePoints := by
  refine ⟨sourcePresent_iff, fun n h1 h48 => ?_, srcFunc_listen (by omega) (by omega),
    srcFunc_listen (by omega) (by omega), fun port slot hp hs => ?_, fun c hc => ?_, fun c hc => ?_,
    fun n k hn hk => ?_, fun b hb => ?_, fun g hg => srcFunc_generator (by omega) (by omega), fun r hr => ?_⟩
  · rw [srcFunc_input (by omega), Nat.sub_add_cancel h1]
  · rw [srcFunc_sapRx (by omega) (by omega), show (0x100 + port * 32 + slot - 0x100) / 32 = port by omega]
  · rw [srcFunc_flowRx (by omega) (by omega), Nat.add_sub_cancel_left]
  · rw [srcFunc_play (by omega) (by omega), Nat.add_sub_cancel_left]
  · rw [srcFunc_lane (by omega) (by omega), show (0x600 + n * 2 + k - 0x600) / 2 = n by omega]
  · rw [srcFunc_bus (by omega) (by omega), Nat.add_sub_cancel_left]
  · rw [srcFunc_reader (by omega), Nat.add_sub_cancel_left]

end Sys2Proof.Proofs

/-!
What every command does to the queue and to the rights of 1020h, and what follows for steps and runs (02_dictionary.md, R51, R52).
-/

namespace Sys2Proof.Proofs

open Sys2Proof Sys2Proof.Machine

/-- Every command answers a next state with the queue as it was and, after legal rights, with legal rights. The commands named
here can write 1020h; every other one leaves queue and rights alone (`exec…_fixed`). -/
theorem exec_keepsIn (c : Instr) (s : State) : s.KeepsIn (exec c s) := by
  cases c with
  | read => exact execRead_keeps ..
  | write => exact execWrite_keeps ..
  | stage => exact execStage_keeps ..
  | blockRead => exact execBlockRead_keeps ..
  | blockWrite => exact execBlockWrite_keeps ..
  | unknownOp => exact execUnknownOp_keeps ..
  | commit => exact execCommit_keeps ..
  | discard => exact execDiscard_keeps ..
  | blockOpen => exact execBlockOpen_keeps ..
  | blockClose => exact execBlockClose_keeps ..
  | lock => exact execLock_keeps ..
  | readFrom => exact execReadFrom_keeps ..
  | entriesRead => exact execEntriesRead_keeps ..
  | tick => exact execTick_keeps ..
  | fabricPartApply => exact execFabricPartApply_keeps ..
  | targetMode => exact execTargetMode_keeps ..
  | resetNLow => exact execResetNLow_keeps ..
  | keepOff => exact execKeepOff_keeps ..
  | crimsonAck => exact execCrimsonAck_keeps ..
  | crimsonCauseRead => exact execCrimsonCauseRead_keeps ..
  | ceiling => exact execCeiling_keeps ..
  | forceSwitch => exact execForceSwitch_keeps ..
  | refScale => exact execRefScale_keeps ..
  | leader => exact execLeader_keeps ..
  | overLatch => exact execOverLatch_keeps ..
  | blockLiveValue => exact execBlockLiveValue_keeps ..
  | meterRead => exact execMeterRead_keeps ..
  | faultClear => exact execFaultClear_keeps ..
  | jackAction => exact execJackAction_keeps ..
  | shareRequest => exact execShareRequest_keeps ..
  | sendBeacon => exact execSendBeacon_keeps ..
  | switchRequest => exact execSwitchRequest_keeps ..
  | grantTo => exact execGrantTo_keeps ..
  | ringRelease => exact execRingRelease_keeps ..
  | swTrigger => exact execSwTrigger_keeps ..
  | urgentBank => exact execUrgentBank_keeps ..
  | urgentSlice => exact execUrgentSlice_keeps ..
  | refSource => exact execRefSource_keeps ..
  | windowMode => exact execWindowMode_keeps ..
  | hkResultRead => exact execHkResultRead_keeps ..
  | attention => exact execAttention_keeps ..
  | pushEnd => exact execPushEnd_keeps ..
  | bootImageAccepted => exact execBootImageAccepted_keeps ..
  | recipeRecords => exact execRecipeRecords_keeps ..
  | verifySlot => exact execVerifySlot_keeps ..
  | commitSv => exact execCommitSv_keeps ..
  | retrain => exact execRetrain_keeps ..
  | transportCommand => exact execTransportCommand_keeps ..
  | counterSource => exact execCounterSource_keeps ..
  | counterClear => exact execCounterClear_keeps ..
  | snapNow => exact execSnapNow_keeps ..
  | snapChain => exact execSnapChain_keeps ..
  | testRun => exact execTestRun_keeps ..
  | avdd33RetentionLoss => exact execAvdd33RetentionLoss_keeps ..
  | _ => exact .of_fixed (by simp [exec])

theorem step_of_pending_nil {s : State} (h : s.pending = []) : step s = .next s := by
  simp [step, h]

theorem step_of_pending_cons {s : State} {c : Instr} {l : List Instr} (h : s.pending = c :: l) :
    step s = exec c { s with pending := l } := by
  simp [step, h]

theorem safeStep (s : State) : SafeStep s := by
  cases h : s.pending with
  | nil => exact ⟨s, step_of_pending_nil h⟩
  | cons c l =>
    obtain ⟨u, hu, -⟩ := exec_keepsIn c { s with pending := l }
    exact ⟨u, (step_of_pending_cons h).trans hu⟩

theorem run_succ {s u : State} (h : step s = .next u) (n : Nat) : run (n + 1) s = run n u := by
  simp [run, h]

theorem step_keeps_legal {s u : State} (hs : s.rights.legal = true) (h : step s = .next u) : u.rights.legal = true := by
  cases hp : s.pending with
  | nil =>
    rw [step_of_pending_nil hp] at h
    cases h
    exact hs
  | cons c l =>
    obtain ⟨w, hw, -, hlegal⟩ := exec_keepsIn c { s with pending := l }
    rw [step_of_pending_cons hp, hw] at h
    cases h
    exact hlegal hs

/-! ## The obligations -/

/-- Settles O39: by `exec_keepsIn` for the command at the front of the queue. -/
theorem rightsStayLegal : Obligations.RightsStayLegal := fun _ _ => step_keeps_legal

/-- Settles O37: `exec_keepsIn`, without its part about the rights. -/
theorem commandsAlwaysAnswer : Obligations.CommandsAlwaysAnswer := by
  intro c s
  obtain ⟨u, hu, hpending, -⟩ := exec_keepsIn c s
  exact ⟨u, hu, hpending⟩

/-- Settles O38: by induction on the number of steps, each of which is safe. -/
theorem everyRunIsSafe : Obligations.EveryRunIsSafe := by
  intro n
  induction n with
  | zero => exact fun s => ⟨s, rfl⟩
  | succ n ih =>
    intro s
    obtain ⟨u, hu⟩ := safeStep s
    obtain ⟨w, hw⟩ := ih u
    exact ⟨w, (run_succ hu n).trans hw⟩

/-- Settles O35: the step reads the front of the queue. -/
theorem stepRunsFront : Obligations.StepRunsFront := fun _ _ _ => step_of_pending_cons rfl

/-- Settles O36: the step of an empty queue. -/
theorem stepIdles : Obligations.StepIdles := fun _ => step_of_pending_nil

end Sys2Proof.Proofs


/-!
Request bodies as bytes (R54): numbers written low byte first come back, and so does a body whose fields fit its header.
-/

namespace Sys2Proof.Proofs

open Sys2Proof Sys2Proof.Machine

@[simp] theorem leBytes_length (n v : Nat) : (leBytes n v).length = n := by
  induction n generalizing v with
  | zero => rfl
  | succ n ih => rw [leBytes, List.length_cons, ih]

/-- A number read of the bytes it was written in is the number, as far as they hold it. -/
theorem leNat_leBytes (n v : Nat) : leNat (leBytes n v) = v % 256 ^ n := by
  induction n generalizing v with
  | zero => simp [leBytes, leNat, Nat.mod_one]
  | succ n ih => rw [leBytes, leNat, ih, BitVec.toNat_ofNat, pow_succ' 256, Nat.mod_mul]

theorem leNat_leBytes_of_lt {n v : Nat} (h : v < 256 ^ n) : leNat (leBytes n v) = v := by
  rw [leNat_leBytes, Nat.mod_eq_of_lt h]

theorem Body.fits_iff (b : Body) :
    b.fits = true ↔ b.op < 256 ∧ b.tid < 256 ∧ b.index < 65536 ∧ b.sub < 256 ∧ b.len < 65536 := by
  simp [Body.fits, and_assoc]

/-- The header of a request body, byte by byte. -/
theorem Body.bytes_eq (b : Body) :
    b.bytes =
      BitVec.ofNat 8 b.op :: BitVec.ofNat 8 b.tid :: BitVec.ofNat 8 b.index :: BitVec.ofNat 8 (b.index / 256) ::
        BitVec.ofNat 8 b.sub :: 0 :: BitVec.ofNat 8 b.len :: BitVec.ofNat 8 (b.len / 256) :: b.data := rfl

/-- Reading the bytes of a body gives it back. -/
theorem parseBody_bytes {b : Body} (h : b.fits = true) : parseBody b.bytes = some b := by
  obtain ⟨hop, htid, hindex, hsub, hlen⟩ := (Body.fits_iff b).1 h
  have hlong : ¬ b.bytes.length < 8 := by simp [Body.bytes_eq]
  have hi : u16At b.bytes 2 = b.index := leNat_leBytes_of_lt (n := 2) hindex
  have hl : u16At b.bytes 6 = b.len := leNat_leBytes_of_lt (n := 2) hlen
  rw [parseBody, if_neg hlong, hi, hl]
  simp [u8At, Body.bytes_eq, Nat.mod_eq_of_lt hop, Nat.mod_eq_of_lt htid, Nat.mod_eq_of_lt hsub]

/-- Settles O41: `parseBody_bytes`, field by field of the header. -/
theorem requestBodyRoundTrip : Obligations.RequestBodyRoundTrip := fun _ => parseBody_bytes

end Sys2Proof.Proofs

/-!
A transaction that meets a free control processor (R54, R61): it is queued, it is the only one that can execute, and it executes.
-/

namespace Sys2Proof.Proofs

open Sys2Proof Sys2Proof.Machine

/-! ## The commands that are one transaction -/

/-- A command that is one transaction hands the body of `asks` to the control processor. -/
theorem exec_of_asks {c : Instr} {t : Nat} {q : Req} {b : Body} (h : asks c = some (t, q, b)) (s : State) :
    exec c s = .next ((s.clock t).transact q b) := by
  cases c with
  | read | write | stage | blockRead | blockWrite | commit | discard | blockOpen | blockClose | lock | readFrom
  | entriesRead | targetMode | crimsonAck | crimsonCauseRead | ceiling | refScale | shareRequest | sendBeacon
  | switchRequest | ringRelease | swTrigger | refSource | windowMode | hkResultRead | commitSv | retrain | snapNow
  | snapChain | testRun =>
    cases h
    rfl
  | attention t via =>
    cases via with
    | twb0 => nomatch h
    | object q len =>
      cases h
      rfl
  | unknownOp t q op =>
    obtain ⟨hop, hb⟩ := Option.ite_none_left_eq_some.1 h
    cases hb
    exact if_neg hop
  | keepOff | forceSwitch | leader | overLatch | blockLiveValue | meterRead | faultClear | jackAction | grantTo
  | urgentBank | urgentSlice | transportCommand | counterSource | counterClear =>
    obtain ⟨hok, hb⟩ := Option.ite_none_right_eq_some.1 h
    cases hb
    exact if_pos (by simpa using hok)
  | _ => nomatch h

/-! ## What opening a clock gate leaves -/

theorem busGate_canRun (s : State) (w v : Requester) : (s.busGate w).canRun v = s.canRun v := by
  cases w <;> rfl

@[simp] theorem busGate_req (s : State) (w v : Requester) : (s.busGate w).req v = s.req v := by
  cases w <;> rfl

@[simp] theorem busGate_now (s : State) (w : Requester) : (s.busGate w).now = s.now := by
  cases w <;> rfl

theorem busGate_servable (s : State) (w v : Requester) : (s.busGate w).servable v = s.servable v := by
  simp [State.servable, busGate_canRun]

/-! ## Whose transactions can execute -/

/-- Whether the host port of a requester has room for one more response; a requester without a port always has (R469). -/
def hasRoom (w : Requester) (x : ReqState) : Bool :=
  match w with
  | .hspi => decide (x.out.length < 8)
  | .twb0 => decide (x.out.length < 8)
  | _ => true

theorem servable_iff (s : State) (w : Requester) :
    s.servable w = true ↔ (s.req w).queue ≠ [] ∧ s.canRun w = true ∧ hasRoom w (s.req w) = true := by
  cases w <;> simp [State.servable, hasRoom, and_assoc]

theorem free_iff (s : State) (q : Req) (b : Body) :
    s.free q b = true ↔
      s.nextServe = none ∧ s.canRun q.who = true ∧ s.kept q.who b.bytes = none ∧ hasRoom q.who (s.req q.who) = true := by
  obtain ⟨who, node, tid⟩ := q
  cases who <;> simp [State.free, hasRoom, and_assoc]

/-- A requester that no queue stands for has no transaction. -/
theorem mem_order_of_queue {s : State} {w : Requester} (h : (s.req w).queue ≠ []) : w ∈ s.order := by
  cases w with
  | internal | hspi | twb0 => simp [State.order]
  | chain u =>
    simp only [State.req] at h
    split at h
    · next x hx =>
      have hu : x.1 = u := by simpa using List.find?_some hx
      simp only [State.order, List.mem_append, List.mem_map]
      exact .inr ⟨x, List.mem_of_find?_eq_some hx, by rw [hu]⟩
    · exact absurd rfl h

theorem servable_eq_false {s : State} (h : s.nextServe = none) (w : Requester) : s.servable w = false := by
  by_contra hw
  have hmem := mem_order_of_queue ((servable_iff s w).1 (by simpa using hw)).1
  exact hw (s.nextServe_none_of h hmem)

theorem queue_eq_nil {s : State} {w : Requester} (h : s.nextServe = none) (hrun : s.canRun w = true)
    (hroom : hasRoom w (s.req w) = true) : (s.req w).queue = [] := by
  by_contra hq
  exact absurd ((servable_iff s w).2 ⟨hq, hrun, hroom⟩) (by simp [servable_eq_false h w])

/-- The one transaction in a queue executes at its turn, in a state `u` that has taken it out. -/
theorem serve_of_queue {s u : State} {w : Requester} {e : QEntry} {b : Body} {k : Nat} (hq : (s.req w).queue = [e])
    (hu : u = { s.mapReq w fun x => { x with queue := [], lastSeen := s.now, node := entryNode w e.node } with turn := k + 1 })
    (hk : u.kept w e.body = none) (hb : parseBody e.body = some b) :
    s.serve k w = (u.execBody w e.node b).s.answer w e ((u.execBody w e.node b).response b) := by
  subst hu
  simp only [State.serve, hq, hk, hb]

theorem req_turn (s : State) (n : Nat) (w : Requester) : ({ s with turn := n } : State).req w = s.req w := by
  cases w <;> rfl

/-! ## One transaction at a free control processor -/

section

variable {s : State} {q : Req} {b : Body}

/-- It enters its empty queue. -/
theorem arrive_of_free (h : s.free q b = true) (e : QEntry) :
    s.arrive q.who e = (s.busGate q.who).setReq q.who { s.req q.who with lastSeen := s.now, queue := [e] } := by
  obtain ⟨hnext, hrun, -, hroom⟩ := (free_iff s q b).1 h
  have hq := queue_eq_nil hnext hrun hroom
  have hout : ¬ ((q.who = .twb0 ∨ q.who = .hspi) ∧ 16 ≤ (s.req q.who).out.length) := by
    rintro ⟨hw | hw, hlen⟩ <;> simp [hasRoom, hw] at hroom hlen <;> omega
  simp [State.arrive, State.mapReq, busGate_canRun, hrun, State.req_setReq, State.setReq_setReq, hout, hq]

/-- It is the only one that can execute. -/
theorem nextServe_arrive (h : s.free q b = true) :
    (s.arrive q.who (queueEntry q b)).nextServe = some (s.placeOf q b, q.who) := by
  obtain ⟨hnext, hrun, -, hroom⟩ := (free_iff s q b).1 h
  have harr := arrive_of_free h (queueEntry q b)
  have hserv : (s.arrive q.who (queueEntry q b)).servable q.who = true := by
    rw [servable_iff, harr, State.req_setReq, State.canRun_setReq, busGate_canRun]
    exact ⟨by simp, hrun, hroom⟩
  have hmem : q.who ∈ (s.arrive q.who (queueEntry q b)).order := by
    rw [harr]
    exact State.mem_order_setReq ..
  obtain ⟨⟨k, v⟩, hk⟩ := State.nextServe_isSome _ hmem hserv
  have hv : v = q.who := by
    by_contra hne
    have hv := State.nextServe_some _ hk
    rw [harr, State.servable_setReq_other _ _ _ hne, busGate_servable, servable_eq_false hnext] at hv
    cases hv
  rw [State.placeOf, hk, hv]
  rfl

/-- At its turn the state is that of `State.opened`. -/
theorem opened_eq (h : s.free q b = true) :
    { (s.arrive q.who (queueEntry q b)).mapReq q.who fun x =>
      { x with queue := [], lastSeen := (s.arrive q.who (queueEntry q b)).now, node := entryNode q.who q.node } with
        turn := s.placeOf q b + 1 } = s.opened q b := by
  obtain ⟨hnext, hrun, -, hroom⟩ := (free_iff s q b).1 h
  rw [State.opened, arrive_of_free h]
  simp [State.mapReq, State.req_setReq, State.setReq_setReq, State.now_setReq, queue_eq_nil hnext hrun hroom]

/-- No kept response answers it at its turn (R393). -/
theorem opened_kept (h : s.free q b = true) : (s.opened q b).kept q.who b.bytes = none := by
  obtain ⟨-, -, hkept, -⟩ := (free_iff s q b).1 h
  have hnow : (s.opened q b).now = s.now := by simp [State.opened, State.mapReq, State.now_setReq]
  cases hw : q.who with
  | chain u =>
    rw [hw] at hkept
    have hreq : (s.opened q b).req (.chain u) = { s.req (.chain u) with lastSeen := s.now, node := q.node } := by
      simp [State.opened, State.mapReq, req_turn, State.req_setReq, hw, entryNode]
    simpa only [State.kept, hreq, hnow] using hkept
  | internal | hspi | twb0 => rfl

theorem serve_arrive (h : s.free q b = true) (hb : b.fits = true) :
    (s.arrive q.who (queueEntry q b)).serve (s.placeOf q b) q.who =
      ((s.opened q b).execBody q.who q.node b).sent q b := by
  have hq : ((s.arrive q.who (queueEntry q b)).req q.who).queue = [queueEntry q b] := by
    rw [arrive_of_free h, State.req_setReq]
  exact serve_of_queue hq (opened_eq h).symm (opened_kept h) (parseBody_bytes hb)

/-- It executes at once, and its response leaves. -/
theorem transact_of_free (h : s.free q b = true) (hb : b.fits = true) :
    s.transact q b = ((s.opened q b).execBody q.who q.node b).sent q b := by
  obtain ⟨hnext, -⟩ := (free_iff s q b).1 h
  have harr : (s.arrive q.who { node := q.node, reply := true, body := b.bytes }).nextServe =
      some (s.placeOf q b, q.who) := nextServe_arrive h
  simp only [State.transact, hnext, harr]
  exact serve_arrive h hb

end

theorem exec_of_free {c : Instr} {t : Nat} {q : Req} {b : Body} {s : State} (hc : asks c = some (t, q, b))
    (hb : b.fits = true) (h : (s.clock t).free q b = true) :
    exec c s = .next ((((s.clock t).opened q b).execBody q.who q.node b).sent q b) := by
  rw [exec_of_asks hc, transact_of_free h hb]

/-- Settles O42: every command of `asks` hands its body over, and `transact_of_free` executes it. -/
theorem transactionExecutes : Obligations.TransactionExecutes := by
  rintro c t q b s v hc rfl hb h
  exact exec_of_free hc hb h

end Sys2Proof.Proofs

/-!
What an accepted WRITE, STAGE or READ of one object does (R55, R60, R63, R64, R73).
-/

namespace Sys2Proof.Proofs

open Sys2Proof Sys2Proof.Machine

/-! ## The operation of a body -/

section

variable {c : Instr} {t : Nat} {q : Req} {b : Body} {s : State} (hc : asks c = some (t, q, b)) (hb : b.fits = true)
  (h : (s.clock t).free q b = true)

include hc hb h

theorem exec_read_of_free (hop : b.op = 1) :
    exec c s = .next ((((s.clock t).working q b).execRead q.who b).sent q b) := by
  simp only [exec_of_free hc hb h, State.execBody, hop, State.working]

theorem exec_write_of_free (hop : b.op = 2) :
    exec c s = .next ((((s.clock t).working q b).execWriteOp q.who q.node false b).sent q b) := by
  simp only [exec_of_free hc hb h, State.execBody, hop, State.working]

theorem exec_stage_of_free (hop : b.op = 3) :
    exec c s = .next ((((s.clock t).working q b).execWriteOp q.who q.node true b).sent q b) := by
  simp only [exec_of_free hc hb h, State.execBody, hop, State.working]

theorem exec_blockRead_of_free (hop : b.op = 4) :
    exec c s = .next ((((s.clock t).working q b).execBlockRead q.who b).sent q b) := by
  simp only [exec_of_free hc hb h, State.execBody, hop, State.working]

theorem exec_segment_of_free (hop : b.op = 5) :
    exec c s = .next ((((s.clock t).working q b).execSegment q.who b).sent q b) := by
  simp only [exec_of_free hc hb h, State.execBody, hop, State.working]

end

section

variable {s : State} {w : Requester} {node : Nat} {b : Body}

/-! ## What the conditions of an accepted access say -/

/-- The object of an accepted write: present, no block, and with a value of its size. -/
theorem takesWrite_cases (h : s.takesWrite w b = true) :
    ∃ r, rowOf b.index b.sub = some r ∧ r.ty ≠ .domain ∧ b.len = r.ty.size ∧ b.field.length = r.ty.size ∧
      s.accessStatus w true b.index b.sub = 0 ∧ (b.index == 0x1F00 && b.sub == 7) = false ∧
      immediate false b.index b.sub = false ∧ isDomain b.index = false ∧
      s.commitStatus [itemOf b.index b.sub (leNat b.field)] (s.conflict w (itemOf b.index b.sub (leNat b.field)).key)
        (s.req w).commitAt = 0 := by
  cases hr : rowOf b.index b.sub with
  | none => simp [State.takesWrite, hr] at h
  | some r =>
    simp only [State.takesWrite, hr, Bool.and_eq_true, beq_iff_eq, decide_eq_true_eq, Bool.not_eq_true'] at h
    obtain ⟨⟨⟨⟨⟨hacc, ⟨hty, hlen⟩, hfield⟩, hquiet⟩, himm⟩, hdom⟩, hst⟩ := h
    exact ⟨r, rfl, hty, hlen, hfield, hacc, hquiet, himm, hdom, hst⟩

theorem takesStage_cases (h : s.takesStage w b = true) :
    ∃ r, rowOf b.index b.sub = some r ∧ r.ty ≠ .domain ∧ b.len = r.ty.size ∧ b.field.length = r.ty.size ∧
      s.accessStatus w true b.index b.sub = 0 ∧ isDomain b.index = false ∧
      s.stageStatus w (itemOf b.index b.sub (leNat b.field)) = 0 := by
  cases hr : rowOf b.index b.sub with
  | none => simp [State.takesStage, hr] at h
  | some r =>
    simp only [State.takesStage, hr, Bool.and_eq_true, beq_iff_eq, decide_eq_true_eq, Bool.not_eq_true'] at h
    obtain ⟨⟨⟨hacc, ⟨hty, hlen⟩, hfield⟩, hdom⟩, hst⟩ := h
    exact ⟨r, rfl, hty, hlen, hfield, hacc, hdom, hst⟩

/-! ## The three accepted accesses -/

theorem execWriteOp_of_takesWrite (h : s.takesWrite w b = true) :
    s.execWriteOp w node false b =
      State.written (s.logged w node .write b false 0) w node (itemOf b.index b.sub (leNat b.field)) := by
  obtain ⟨r, hr, hty, hlen, hfield, hacc, hquiet, himm, hdom, hst⟩ := takesWrite_cases h
  simp [State.execWriteOp, hr, hty, hlen, hfield, hacc, hquiet, himm, hdom, hst]

theorem execWriteOp_of_takesStage (h : s.takesStage w b = true) :
    s.execWriteOp w node true b =
      State.staged (s.logged w node .stage b false 0) w (itemOf b.index b.sub (leNat b.field)) := by
  obtain ⟨r, hr, hty, hlen, hfield, hacc, hdom, hst⟩ := takesStage_cases h
  simp [State.execWriteOp, hr, hty, hlen, hfield, hacc, immediate, hdom, hst]

theorem execRead_of_takesRead {r : Row} (h : s.takesRead w b = true) (hr : rowOf b.index b.sub = some r) :
    s.execRead w b = (s.afterRead b.index b.sub).plain 0 (leBytes r.ty.size (s.readVal w b.index b.sub)) := by
  simp only [State.takesRead, hr, Bool.and_eq_true, beq_iff_eq, decide_eq_true_eq, Bool.not_eq_true',
    Option.isNone_iff_eq_none] at h
  obtain ⟨⟨⟨hacc, ⟨hty, hsize⟩, hgate⟩, hmax⟩, hentries⟩ := h
  have hjournal : ¬ (b.index = 0x1F01 ∧ b.sub = 1) := by simpa using hentries
  simp [State.execRead, State.openRead, hr, hgate, hacc, hty, Nat.not_lt.2 hmax, hjournal, Nat.not_lt.2 hsize]

end

/-! ## The obligations -/

/-- Settles O43: the transaction executes (O42) as the WRITE of `execWriteOp_of_takesWrite`. -/
theorem writesApply : Obligations.WritesApply := by
  rintro c t q b s v u hc rfl hb h rfl hop hw
  rw [exec_write_of_free hc hb h hop, execWriteOp_of_takesWrite hw]

/-- Settles O44: the transaction executes (O42) as the STAGE of `execWriteOp_of_takesStage`. -/
theorem stagesEnter : Obligations.StagesEnter := by
  rintro c t q b s v u hc rfl hb h rfl hop hw
  rw [exec_stage_of_free hc hb h hop, execWriteOp_of_takesStage hw]

/-- Settles O45: the transaction executes (O42) as the READ of `execRead_of_takesRead`. -/
theorem readsAnswer : Obligations.ReadsAnswer := by
  rintro c t q b r s v u hc rfl hb h rfl hop hw hr
  rw [exec_read_of_free hc hb h hop, execRead_of_takesRead hw hr]

end Sys2Proof.Proofs

/-!
Packing a sample into a 24-in-4 word and reading it back (R194 to R196).
-/

namespace Sys2Proof.Proofs

open Sys2Proof Sys2Proof.Machine

/-- Rounding to a multiple of 16 moves a word by at most half of one. -/
theorem roundAway_four_error (x : Int) : -8 ≤ roundAway 4 x * 16 - x ∧ roundAway 4 x * 16 - x ≤ 8 := by
  unfold roundAway
  split <;> omega

theorem packCode_eq (w : Word) :
    packCode 24 w =
      if 8388607 < roundAway 4 w.toInt then (8388607, true)
      else if roundAway 4 w.toInt < -8388607 then (-8388607, true) else (roundAway 4 w.toInt, false) := rfl

theorem packCode_bounds (w : Word) : -(2 ^ 23 - 1) ≤ (packCode 24 w).1 ∧ (packCode 24 w).1 ≤ 2 ^ 23 - 1 := by
  rw [packCode_eq]
  split_ifs <;> simp only [] <;> omega

theorem packCode_of_unclamped {w : Word} (h : (packCode 24 w).2 = false) :
    (packCode 24 w).1 = roundAway 4 w.toInt := by
  rw [packCode_eq] at h ⊢
  split_ifs at h ⊢
  rfl

/-- A code in the range of `packCode` is read back from its 24 bits, and is not the code 800000h. -/
theorem unpackCode_of_code {c : Int} (hlo : -(2 ^ 23 - 1) ≤ c) (hhi : c ≤ 2 ^ 23 - 1) :
    unpackCode 24 (c % 2 ^ 24).toNat = (BitVec.ofInt 32 (c * 16), false) := by
  have hu : (c % 2 ^ 24).toNat < 2 ^ 24 := by omega
  have hval : (if (c % 2 ^ 24).toNat < 2 ^ 23 then ((c % 2 ^ 24).toNat : Int) else (c % 2 ^ 24).toNat - 2 ^ 24) = c := by
    split <;> omega
  have hne : (c % 2 ^ 24).toNat ≠ 0x800000 := by omega
  have hword : (unpackCode 24 (c % 2 ^ 24).toNat).1 = BitVec.ofInt 32 (c * 16) := by
    apply BitVec.eq_of_toInt_eq
    rw [unpackCode_toInt hu, hval, BitVec.toInt_ofInt, Int.bmod_eq_of_le (by omega) (by omega)]
  exact Prod.ext hword ((unpackCode_snd hu).trans (beq_false_of_ne hne))

theorem unpack_pack_24in4 (x : Sample) :
    unpack 1 (pack 1 x).1 =
      { x with w := BitVec.ofInt 32 ((packCode 24 x.w).1 * 16), o := x.o || (packCode 24 x.w).2 } := by
  obtain ⟨hlo, hhi⟩ := packCode_bounds x.w
  have hpack : (pack 1 x).1 =
      ((packCode 24 x.w).1 % 2 ^ 24).toNat * 256 + tagByte { x with o := x.o || (packCode 24 x.w).2 } := rfl
  rw [hpack, unpack_24in4_word _ (tagByte_lt _), unpackCode_of_code hlo hhi]
  simp

/-- Settles O56: the code is in range, so it is read back with the tags; unclamped it is the rounded word. -/
theorem packThenUnpack : Obligations.PackThenUnpack := by
  intro x
  obtain ⟨hlo, hhi⟩ := packCode_bounds x.w
  refine ⟨unpack_pack_24in4 x, hlo, hhi, fun h => ?_⟩
  rw [packCode_of_unclamped h]
  exact roundAway_four_error _

end Sys2Proof.Proofs

/-!
The gain of each sample of a ramp, and how a ramp moves on (R260 to R262).
-/

namespace Sys2Proof.Proofs

open Sys2Proof Sys2Proof.Machine

section

variable {r : Ramp}

theorem gainAt_of_len_le {i : Nat} (h : r.len ≤ i) : r.gainAt i = r.g1 := if_pos h

/-- The last sample of a ramp toward mute is exactly 0. -/
theorem gainAt_last_of_mute (hlen : 0 < r.len) (h : r.g1 = none) : r.gainAt (r.len - 1) = none := by
  rw [Ramp.gainAt, if_neg (by omega), if_pos ⟨h, by omega⟩]

/-- Every other sample lies on the line between the ends; between equal ends the line is flat. -/
theorem gainAt_of_lt {i : Nat} (hi : i < r.len) (hlast : r.g1 = none → i + 1 ≠ r.len) (hmute : r.g0 = none → r.g1 ≠ none) :
    r.gainAt i = some (muteDb r.g0 + (muteDb r.g1 - muteDb r.g0) * (i + 1) / r.len) := by
  rw [Ramp.gainAt, if_neg (by omega), if_neg fun ⟨h, hl⟩ => hlast h hl]
  split
  · next heq =>
    cases hg : r.g1 with
    | none => exact absurd hg (hmute (heq.trans hg))
    | some c => simp [heq, hg, muteDb]
  · rfl

theorem step_len (r : Ramp) : r.step.len = r.len := by
  unfold Ramp.step
  split <;> rfl

theorem step_i (r : Ramp) : r.step.i = min (r.i + 1) (max r.i r.len) := by
  unfold Ramp.step
  split
  · dsimp only
    omega
  · omega

theorem iterate_step_len (n : Nat) (r : Ramp) : (Nat.iterate Ramp.step n r).len = r.len := by
  induction n generalizing r with
  | zero => rfl
  | succ n ih => rw [Function.iterate_succ_apply, ih, step_len]

theorem iterate_step_i (n : Nat) (r : Ramp) : (Nat.iterate Ramp.step n r).i = min (r.i + n) (max r.i r.len) := by
  induction n generalizing r with
  | zero => simp
  | succ n ih =>
    rw [Function.iterate_succ_apply, ih, step_len, step_i]
    omega

theorem to_of_pos (g : Option Rat) {len : Nat} (h : 0 < len) : r.to g len = { g0 := r.cur, g1 := g, i := 0, len } :=
  if_neg (by omega)

/-- The gain that a running ramp applied last. -/
theorem cur_of_running (h0 : 0 < r.i) (hi : r.i < r.len) : r.cur = r.gainAt (r.i - 1) := by
  rw [Ramp.cur, if_neg (by omega), if_neg (by omega)]

end

/-- Settles O57: the line of `gainAt_of_lt` for each kind of ends, and induction on the steps for the position. -/
theorem gainRampLaw : Obligations.GainRampLaw := by
  intro r
  refine ⟨fun i a c h0 h1 hi => ?_, fun i a h0 h1 hi => ?_, fun i c h0 h1 hi => ?_, gainAt_last_of_mute,
    fun i => gainAt_of_len_le, fun n => ⟨iterate_step_i n r, iterate_step_len n r⟩, fun g len h => ?_,
    fun g len h h0 hi => ?_⟩
  · rw [gainAt_of_lt hi (by simp [h1]) (by simp [h0]), h0, h1]
    rfl
  · rw [gainAt_of_lt (by omega) (fun _ => by omega) (by simp [h0]), h0, h1]
    rfl
  · rw [gainAt_of_lt hi (by simp [h1]) (by simp [h1]), h0, h1]
    simp [muteDb]
  · rw [to_of_pos g h]
    exact ⟨rfl, rfl, rfl⟩
  · rw [to_of_pos g h]
    exact cur_of_running h0 hi

end Sys2Proof.Proofs

/-!
Event counters (R515, R516), journal entries (R73 to R77) and written rights (R51, R52).
-/

namespace Sys2Proof.Proofs

open Sys2Proof Sys2Proof.Machine

/-! ## Counters -/

/-- Reading a table whose values have all been mapped. -/
theorem look_map {α : Type} (d : α) (f : α → α) (hd : f d = d) (m : Sparse α) (n : Nat) :
    look d (m.map fun x => (x.1, f x.2)) n = f (look d m n) := by
  induction m with
  | nil => exact hd.symm
  | cons x m ih =>
    by_cases h : x.1 = n <;> simp [look, h, ih]

/-- What an event does to one counter. -/
def countHit (code idx : Nat) (x : Counter) : Counter :=
  if sourceHits x.source code idx then { x with count := countUp x.count } else x

theorem countAll_eq_map (m : Sparse Counter) (code idx : Nat) :
    countAll m code idx = m.map fun x => (x.1, countHit code idx x.2) := by
  refine List.map_congr_left fun x _ => ?_
  unfold countHit
  split <;> rfl

/-- A counter without a source is hit by no event. -/
theorem countHit_idle (code idx : Nat) : countHit code idx .idle = .idle := by
  have h : sourceHits Counter.idle.source code idx = false := by
    simp only [sourceHits, Counter.idle]
    by_cases hc : code = 0 <;> simp [hc]
    omega
  simp [countHit, h]

theorem event_of_no_test {s : State} (h : s.test.left = []) (code idx : Nat) :
    s.event code idx = { s with counters := countAll s.counters code idx } := by
  simp only [State.event, h]

theorem counter_event {s : State} (h : s.test.left = []) (code idx n : Nat) :
    (s.event code idx).counter n = countHit code idx (s.counter n) := by
  rw [event_of_no_test h, State.counter, countAll_eq_map]
  exact look_map _ _ (countHit_idle code idx) _ _

theorem countUp_of_lt {c : Nat} (h : c + 1 < 2 ^ 48 - 1) : countUp c = c + 1 := by
  rw [countUp, if_neg (by omega), if_neg (by omega)]

theorem countUp_of_saturated {c : Nat} (h : 2 ^ 48 - 1 ≤ c) : countUp c = c := if_pos h

theorem countUp_lt {c : Nat} (h : c < 2 ^ 64) : countUp c < 2 ^ 64 := by
  unfold countUp
  split_ifs <;> omega

/-! ## Journal entries -/

theorem event_journal (s : State) (code idx : Nat) : (s.event code idx).journal = s.journal := by
  unfold State.event
  repeat' split
  all_goals rfl

/-- The record that a new journal entry makes. -/
def newEntry (s : State) (k : EntryKind) (o st n i sub : Nat) (h : Bool) (x : Nat) : Entry :=
  { seq := (s.journal.head + 1) % 2 ^ 32, kind := k, origin := o, status := st, node := n, time := s.ptp, index := i, sub,
    synced := s.timeSynced, hashed := h, value := x }

section

variable (s : State) (k : EntryKind) (o st n i sub : Nat) (h : Bool) (x : Nat)

/-- An entry leads the ring, and one with a status other than OK is an event. -/
theorem entry_eq :
    s.entry k o st n i sub h x =
      let u := { s with journal := { s.journal with
        head := (s.journal.head + 1) % 2 ^ 32, ring := (newEntry s k o st n i sub h x :: s.journal.ring).take 1024 } }
      if st = 0 then u else u.event 0x0C 0x1F00 := rfl

theorem entry_journal :
    (s.entry k o st n i sub h x).journal =
      { s.journal with
        head := (s.journal.head + 1) % 2 ^ 32, ring := (newEntry s k o st n i sub h x :: s.journal.ring).take 1024 } := by
  rw [entry_eq]
  dsimp only
  split
  · rfl
  · rw [event_journal]

theorem entry_counters_of_ok (hst : st = 0) : (s.entry k o st n i sub h x).counters = s.counters := by
  rw [entry_eq]
  dsimp only
  rw [if_pos hst]

theorem entry_counters_of_refusal (ht : s.test.left = []) (hst : st ≠ 0) :
    (s.entry k o st n i sub h x).counters = countAll s.counters 0x0C 0x1F00 := by
  rw [entry_eq]
  dsimp only
  rw [if_neg hst, event_of_no_test (by exact ht)]

end

theorem entry_head_length (e : Entry) : e.head.length = 28 := by
  simp [Entry.head]

/-! ## Written rights -/

/-- Of the rights and the queue, a commit writes only what it stores. -/
theorem applyWrites_fixed (b : State) (l : List WItem) : (b.applyWrites l).fixed = (l.foldl State.store b).fixed := by
  unfold State.applyWrites
  extract_lets s1 s2 s3 s4 s5 s6 s7
  have h1 : s1.fixed = (l.foldl State.store b).fixed := foldl_fixed _ _ _ fun u x => by simp
  have h2 : s2.fixed = s1.fixed := foldl_fixed _ _ _ fun u n => by simp
  have h3 : s3.fixed = s2.fixed := foldl_fixed _ _ _ fun u n => by
    dsimp only
    repeat' split
    all_goals simp
  have h4 : s4.fixed = s3.fixed := foldl_fixed _ _ _ fun u x => by simp
  have h5 : s5.fixed = s4.fixed := foldl_fixed _ _ _ fun u x => by split_ifs <;> simp
  have h6 : s6.fixed = s5.fixed := foldl_fixed _ _ _ fun u f => by simp
  have h7 : s7.fixed = s6.fixed := by
    unfold s7
    split <;> simp
  have hlast : ∀ c : Prop, [Decidable c] → (if c then s7.grantAll.sweep else s7).fixed = s7.fixed := by
    intro c _
    split <;> simp
  exact (hlast _).trans (by rw [h7, h6, h5, h4, h3, h2, h1])

/-- Only the settings of an output pair stand under another index (R299). -/
theorem itemOf_key {i sub : Nat} (v : Nat) (hs : sub < 256)
    (h : i < 0x3101 ∨ 0x3130 < i ∨ (sub ≠ 2 ∧ sub ≠ 0x12 ∧ sub ≠ 0x13)) : (itemOf i sub v).key = key i sub := by
  have hi : (i * 256 + sub) / 256 = i := by omega
  have hsub : (i * 256 + sub) % 256 = sub := by omega
  simp only [itemOf, pairKey, key, hi, hsub]
  rw [if_neg (by omega)]

theorem itemOf_index {i sub : Nat} (v : Nat) (hs : sub < 256)
    (h : i < 0x3101 ∨ 0x3130 < i ∨ (sub ≠ 2 ∧ sub ≠ 0x12 ∧ sub ≠ 0x13)) : (itemOf i sub v).index = i := by
  rw [WItem.index, itemOf_key v hs h, key]
  omega

theorem itemOf_sub {i sub : Nat} (v : Nat) (hs : sub < 256)
    (h : i < 0x3101 ∨ 0x3130 < i ∨ (sub ≠ 2 ∧ sub ≠ 0x12 ∧ sub ≠ 0x13)) : (itemOf i sub v).sub = sub := by
  rw [WItem.sub, itemOf_key v hs h, key]
  omega

@[simp] theorem itemOf_val (i sub v : Nat) : (itemOf i sub v).val = v := rfl

theorem rowOf_rights {sub : Nat} (h1 : 1 ≤ sub) (h7 : sub ≤ 7) : (rowOf 0x1020 sub).map Row.acc = some .rw := by
  interval_cases sub <;> rfl

theorem action_of_row {x : WItem} {a : Acc} (h : (rowOf x.index x.sub).map Row.acc = some a) : x.action = (a == .wo) := by
  obtain ⟨r, hr, rfl⟩ := Option.map_eq_some_iff.1 h
  simp only [WItem.action, hr]

theorem store_rights (s : State) {sub : Nat} (v : Nat) (h1 : 1 ≤ sub) (h7 : sub ≤ 7) :
    s.store (itemOf 0x1020 sub v) = { s with rights := s.rights.set sub v } := by
  have hi := itemOf_index (i := 0x1020) (sub := sub) v (by omega) (by omega)
  have hsub := itemOf_sub (i := 0x1020) (sub := sub) v (by omega) (by omega)
  have hact : (itemOf 0x1020 sub v).action = false :=
    action_of_row (a := .rw) (by rw [hi, hsub]; exact rowOf_rights h1 h7)
  have hown : (itemOf 0x1020 sub v).own = false := by simp [WItem.own, hi, ownSub, isDomain]
  simp [State.store, hact, hown, hi, hsub, isDomain]

/-- A write of 1020h.01 to 07h stores its right. -/
theorem applyWrites_rights (s : State) {sub : Nat} (v : Nat) (h1 : 1 ≤ sub) (h7 : sub ≤ 7) :
    (s.applyWrites [itemOf 0x1020 sub v]).rights = s.rights.set sub v := by
  have hfixed := applyWrites_fixed s [itemOf 0x1020 sub v]
  rw [List.foldl_cons, List.foldl_nil, store_rights s v h1 h7] at hfixed
  exact congrArg Prod.fst hfixed

/-! ## The obligations -/

/-- Settles O58: the table of counters is mapped by `countHit`; the boundaries of `countUp`. -/
theorem countersCount : Obligations.CountersCount :=
  ⟨fun _ code idx n ht => counter_event ht code idx n,
    fun _ => ⟨countUp_of_lt, rfl, countUp_of_saturated, countUp_lt⟩⟩

/-- Settles O59: `entry_journal`, and the check behind the 28 bytes of an entry's head. -/
theorem journalEntries : Obligations.JournalEntries := by
  refine ⟨fun s k o st n i sub h x => ⟨by rw [entry_journal], ?_, entry_counters_of_ok s k o st n i sub h x,
    entry_counters_of_refusal s k o st n i sub h x⟩, fun e => ⟨?_, ?_⟩⟩
  · exact ⟨newEntry s k o st n i sub h x, by rw [entry_journal], rfl, rfl, rfl, rfl, rfl, rfl, rfl⟩
  · simp [Entry.bytes, entry_head_length]
  · rw [Entry.bytes, List.drop_left' (entry_head_length e), List.take_left' (entry_head_length e)]

/-- Settles O60: `applyWrites_rights` for each of the seven subs. -/
theorem rightsWrites : Obligations.RightsWrites := by
  intro s v
  refine ⟨?_, ?_, ?_, ?_, ?_, ?_, ?_⟩ <;> exact applyWrites_rights s _ (by norm_num) (by norm_num)

end Sys2Proof.Proofs

/-!
Commits and discards (R65, R66), block transfers (R57, R58), the journal's cursor (R80) and arriving transactions (R61).
-/

namespace Sys2Proof.Proofs

open Sys2Proof Sys2Proof.Machine

/-! ## Bodies and objects -/

section

variable (op : Nat) (q : Req) (i sub : Nat) (data : List Byte)

@[simp] theorem writeBody_index : (writeBody op q i sub data).index = i := rfl
@[simp] theorem writeBody_sub : (writeBody op q i sub data).sub = sub := rfl
@[simp] theorem writeBody_len : (writeBody op q i sub data).len = data.length := rfl
@[simp] theorem writeBody_data : (writeBody op q i sub data).data = data := rfl
@[simp] theorem writeBody_field : (writeBody op q i sub data).field = data := List.take_length

end

theorem u32At_leBytes {v : Nat} (h : v < 2 ^ 32) (l : List Byte) : u32At (leBytes 4 v ++ l) 0 = v := by
  rw [u32At, slice, List.drop_zero, List.take_left' (leBytes_length 4 v), leNat_leBytes_of_lt h]

theorem isDomain_ne {i : Nat} (h : isDomain i = true) : i ≠ 0x1010 ∧ i ≠ 0x1F00 := by
  constructor <;> rintro rfl <;> revert h <;> decide

/-! ## A write or a stage that passes the first statuses -/

section

variable {u : State} {w : Requester} {node : Nat} {stage : Bool} {b : Body} {r : Row}
  (hacc : u.accessStatus w true b.index b.sub = 0) (hr : rowOf b.index b.sub = some r) (hty : r.ty ≠ .domain)
  (hlen : b.len = r.ty.size) (hfield : b.field.length = r.ty.size)

include hacc hr hty hlen hfield

theorem execWriteOp_of_immediate (hquiet : (b.index == 0x1F00 && b.sub == 7 && !stage) = false)
    (himm : immediate stage b.index b.sub = true) : u.execWriteOp w node stage b = u.writeNow w node b r := by
  simp only [State.execWriteOp, hacc, hr, hty, hlen, hfield, hquiet, himm]
  simp

theorem execWriteOp_of_cursor (hi : b.index = 0x1F00) (hsub : b.sub = 7) :
    u.execWriteOp w node false b = u.writeCursor w (leNat b.field) := by
  rw [hi, hsub] at hacc hr
  simp [State.execWriteOp, hi, hsub, hacc, hr, hty, hlen, hfield]

theorem execWriteOp_of_close (hdom : isDomain b.index = true) (hsub : b.sub = 3) :
    u.execWriteOp w node stage b = u.closeBlock w node stage b := by
  have hown : immediate stage b.index b.sub = false := by
    simp [immediate, ownSub, hsub]
  rw [hsub] at hacc hr hown
  simp [State.execWriteOp, hsub, hacc, hr, hty, hlen, hfield, hdom, hown]

end

/-! ## COMMIT and DISCARD -/

section

variable {u : State} {w : Requester} {node : Nat} {q : Req}

/-- A write of 1010h.01, which is 1 or 2, acts on the staging set at once. -/
theorem execWriteOp_of_commandSub {v : Byte} (hv : v = 1 ∨ v = 2) (hacc : u.accessStatus w true 0x1010 1 = 0) :
    u.execWriteOp w node false (writeBody 2 q 0x1010 1 [v]) =
      if v = 1 then u.commitSet w node else (u.discardSet w node 0).plain 0 [] := by
  have hrow : rowOf 0x1010 1 = some (wo 1 .u8 (.oneOf [1, 2])) := rfl
  rw [execWriteOp_of_immediate (b := writeBody 2 q 0x1010 1 [v]) hacc hrow (by decide) rfl rfl rfl rfl]
  obtain rfl | rfl := hv <;> rfl

/-- A staging set that passes every check is committed. -/
theorem commitSet_of_ok {x : ReqState} {e : State} (hx : x = u.req w)
    (hst : u.commitStatus x.staged (x.staged.any fun y => u.conflict w y.key) x.commitAt = 0)
    (he : e = u.setEntry .commit w (entryNode w node) 0 x.staged.length 0 (firstSeq x.staged)) :
    u.commitSet w node =
      let v := (e.setReq w { x with
          staged := [], closed := true, lastStatus := 0, lastSeq := e.journal.head, commitId := e.journal.head
          appliedMask := bit (decide (x.commitAt ≠ 0) && decide (x.commitAt < u.ptp)) 6 }).releaseCursor w
      { s := (v.accept w (entryNode w node) true e.journal.head x.staged.length (firstSeq x.staged) x.commitAt
            (x.staged.filter fun y => !y.own)).applyOwn w node (x.staged.filter WItem.own),
        status := 0, seq := e.journal.head, data := [] } := by
  subst hx he
  simp only [State.commitSet, hst]
  rfl

end

/-- Settles O46: both are writes of 1010h.01, which act at once. -/
theorem commitAndDiscard : Obligations.CommitAndDiscard := by
  constructor
  · rintro t q b u x e s v rfl rfl hb h rfl hacc hx hst he
    rw [exec_write_of_free rfl hb h rfl, execWriteOp_of_commandSub (.inl rfl) hacc, if_pos rfl,
      commitSet_of_ok hx hst he]
  · rintro t q b u s v rfl rfl hb h rfl hacc
    rw [exec_write_of_free rfl hb h rfl, execWriteOp_of_commandSub (.inr rfl) hacc, if_neg (by decide)]

/-! ## Blocks -/

section

variable {u : State} {w : Requester} {node : Nat} {q : Req} {index : Nat}

theorem writeNow_of_blockOpen {b : Body} {r : Row} (hdom : isDomain b.index = true) (hsub : b.sub = 2) :
    u.writeNow w node b r = u.openBlock w node b := by
  simp [State.writeNow, hdom, hsub]

theorem openBlock_of_ok {b : Body} (h0 : leNat b.field ≠ 0) (hmax : leNat b.field ≤ blockMax b.index)
    (hbusy : (isWindow b.index && u.capBusy (b.index - 0x5200)) = false) (hchip : u.chipTaken w = false) :
    u.openBlock w node b =
      let v := u.mapReq w fun x => { x with buffer := some { index := b.index, data := List.replicate (leNat b.field) 0 } }
      (if v.mem.ready then v else { v with mem := { v.mem with chipBuf := some w } }).logged w node .write b false 0 := by
  simp [State.openBlock, h0, Nat.not_lt.2 hmax, hbusy, hchip]

theorem execSegment_of_ok {sub offset : Nat} {seg : List Byte} {x : BlockBuf}
    (hacc : u.accessStatus w true index sub = 0) (hrow : (rowOf index sub).map Row.ty = some .domain)
    (hoff : offset < 2 ^ 32) (hseg : seg.length + 4 ≤ 512) (hx : (u.req w).buffer = some x) (hi : x.index = index)
    (hfit : offset + seg.length ≤ x.data.length)
    (hwin : isWindow index = false ∨ (u.mem.ready = true ∧ u.capBusy (index - 0x5200) = false)) :
    u.execSegment w (writeBody 5 q index sub (leBytes 4 offset ++ seg)) =
      ((if u.mem.ready = true then u.bgWait else u).mapReq w fun y =>
        { y with buffer := some { x with data := patchBytes x.data offset seg } }).plain 0 [] := by
  have hfield : (leBytes 4 offset ++ seg).drop 4 = seg := List.drop_left' (leBytes_length 4 offset)
  have hlong : ¬ 512 < 4 + seg.length := by omega
  have hlen : ¬ x.data.length < offset + seg.length := by omega
  have hwin' : ¬ (isWindow index = true ∧ (!u.mem.ready ∨ u.capBusy (index - 0x5200))) := by
    obtain hw | ⟨hm, hc⟩ := hwin
    · simp [hw]
    · simp [hm, hc]
  simp only [State.execSegment, writeBody_index, writeBody_sub, writeBody_len, writeBody_data, writeBody_field, hacc,
    hrow, hx, hi, u32At_leBytes hoff, hfield, List.length_append, leBytes_length]
  rw [if_neg (by simp), if_neg (by simp), if_neg hlong]
  simp only [ne_eq, not_true_eq_false, false_or, if_neg hlen, if_neg hwin']

theorem execBlockRead_of_ok {b : Body} {offset : Nat} (hdata : b.data = leBytes 4 offset)
    (hacc : u.accessStatus w false b.index b.sub = 0) (hrow : (rowOf b.index b.sub).map Row.ty = some .domain)
    (hoff : offset < 2 ^ 32) (hlen : b.len ≤ maxLen w) :
    u.execBlockRead w b =
      (if isWindow b.index && u.mem.ready then u.bgWait else u).plain 0
        (slice (u.blockInForce w b.index) offset (readLimit w b.len)) := by
  have hval : u32At (leBytes 4 offset) 0 = offset := by simpa using u32At_leBytes hoff []
  simp [State.execBlockRead, hacc, hrow, hdata, hval, Nat.not_lt.2 hlen]

theorem closeBlock_of_ok {stage : Bool} {b : Body} {x : BlockBuf} {y : WItem} (hx : (u.req w).buffer = some x)
    (hi : x.index = b.index) (hy : y = u.closeItem w b.index (leNat b.field) x.data)
    (hst : u.closeStatus w stage (some x) (leNat b.field) y = 0) :
    u.closeBlock w node stage b =
      let r := (u.releaseBuffer w).logged w node (if stage then .stage else .write) b true 0
      if stage then State.staged r w y else State.written r w node y := by
  subst hy
  simp [State.closeBlock, hx, Option.filter, hi, hst]

end

/-- Settles O47: each of the four transactions executes (O42), by the lemma of its operation. -/
theorem blockTransfers : Obligations.BlockTransfers := by
  refine ⟨?_, ?_, ?_, ?_⟩
  · rintro t q index data b u r s v rfl rfl hb h rfl hacc hdom hr hty hsize h0 hmax hbusy hchip
    obtain ⟨-, hi⟩ := isDomain_ne hdom
    have himm : immediate false index 2 = true := by simp [immediate, hdom]
    rw [exec_write_of_free rfl hb h rfl, execWriteOp_of_immediate (b := writeBody 2 q index 2 data) hacc hr hty
        hsize.symm (by simp [hsize]) (by simp) himm,
      writeNow_of_blockOpen hdom rfl, openBlock_of_ok (by simpa using h0) (by simpa using hmax) hbusy hchip]
    simp
  · rintro t q index sub offset seg b u x s v rfl rfl hb h rfl hacc hrow hoff hseg hx hi hfit hwin
    rw [exec_segment_of_free rfl hb h rfl, execSegment_of_ok hacc hrow hoff hseg hx hi hfit hwin]
  · rintro t q index sub offset len b u s v rfl rfl hb h rfl hacc hrow hoff hlen
    rw [exec_blockRead_of_free rfl hb h rfl, execBlockRead_of_ok rfl hacc hrow hoff hlen]
  · rintro t q index stage data b u r x y s v rfl hbody hb h rfl hacc hdom hr hty hsize hx hi hy hst
    cases stage with
    | false =>
      obtain rfl : b = writeBody 2 q index 3 data := hbody
      rw [exec_write_of_free rfl hb h rfl, execWriteOp_of_close (b := writeBody 2 q index 3 data) hacc hr hty
        hsize.symm (by simp [hsize]) hdom rfl, closeBlock_of_ok hx hi (by simpa using hy) (by simpa using hst)]
      rfl
    | true =>
      obtain rfl : b = writeBody 3 q index 3 data := hbody
      rw [exec_stage_of_free rfl hb h rfl, execWriteOp_of_close (b := writeBody 3 q index 3 data) hacc hr hty
        hsize.symm (by simp [hsize]) hdom rfl, closeBlock_of_ok hx hi (by simpa using hy) (by simpa using hst)]
      rfl

/-! ## The journal -/

theorem execWriteOp_readFrom {u : State} {w : Requester} {node : Nat} {q : Req} {data : List Byte} {r : Row}
    (hacc : u.accessStatus w true 0x1F00 7 = 0) (hr : rowOf 0x1F00 7 = some r) (hty : r.ty ≠ .domain)
    (hsize : r.ty.size = data.length) (hret : u.journal.retains (leNat data) = true) (hroom : u.tableRoom w = true) :
    u.execWriteOp w node false (writeBody 2 q 0x1F00 7 data) =
      (u.mapReq w fun x => { x with cursor := some (leNat data), closed := false }).plain 0 [] := by
  rw [execWriteOp_of_cursor (b := writeBody 2 q 0x1F00 7 data) hacc hr hty hsize.symm (by simp [hsize]) rfl rfl]
  simp [State.writeCursor, hret, hroom]

/-- A read of 1F01h.01 is a read of entries; no block of its own holds them. -/
theorem execRead_entries {u : State} {w : Requester} {b : Body} (hi : b.index = 0x1F01) (hsub : b.sub = 1)
    (hacc : u.accessStatus w false 0x1F01 1 = 0) (hlen : b.len ≤ maxLen w) :
    u.execRead w b = u.readEntries w b.len := by
  have hrow : rowOf 0x1F01 1 = some (rov 1 (.str 512) 0) := rfl
  have hgate : u.gatedRead 0x1F01 1 (rov 1 (.str 512) 0) = none := by
    have hblock : blockFunc 0x1F01 1 = none := by decide
    simp [State.gatedRead, State.gatedCd, hblock]
  simp only [State.execRead, State.openRead, hi, hsub, hrow, hgate, hacc]
  simp [Nat.not_lt.2 hlen, rov]

theorem readEntries_of_ok {u : State} {w : Requester} {len n back : Nat} (hn : n = min 16 (readLimit w len / 32))
    (hback : back = (u.journal.nextSeq + 2 ^ 32 - u.readFrom w) % 2 ^ 32)
    (hmirror : u.journal.mirrorState ≠ 1 ∨ min n back = 0 ∨ back ≤ u.journal.ring.length)
    (hlen : min n back ≤ (u.journal.take (u.readFrom w) n).length) :
    u.readEntries w len =
      ((if (u.req w).cursor.isSome || u.tableRoom w then
            u.mapReq w fun x =>
              { x with cursor := some ((u.readFrom w + (u.journal.take (u.readFrom w) n).length) % 2 ^ 32) }
          else u).releaseCursor w).plain 0 ((u.journal.take (u.readFrom w) n).flatMap Entry.bytes) := by
  have hbusy : ¬ (u.journal.mirrorState = 1 ∧ 0 < min n back ∧ u.journal.ring.length < back) := by omega
  subst hn hback
  rw [State.readEntries]
  simp only [if_neg hbusy, if_neg (Nat.not_lt.2 hlen)]

/-- Settles O48: a write of 1F00h.07 sets the cursor, a read of 1F01h.01 moves it. -/
theorem journalReads : Obligations.JournalReads := by
  constructor
  · rintro t q data b u r s v rfl rfl hb h rfl hacc hr hty hsize hret hroom
    rw [exec_write_of_free rfl hb h rfl, execWriteOp_readFrom hacc hr hty hsize hret hroom]
  · rintro t q len b u n back s v rfl rfl hb h rfl hacc hlen hn hback hmirror hes
    rw [exec_read_of_free rfl hb h rfl, execRead_entries rfl rfl hacc hlen, readEntries_of_ok hn hback hmirror hes]

/-! ## Arrivals -/

section

variable {s u : State} {w : Requester} {e : QEntry} {b : Body}

theorem dropHost_of_full (hrun : s.canRun w = true) (hport : w = .twb0 ∨ w = .hspi) (hout : 16 ≤ (s.req w).out.length)
    (hu : u = (s.busGate w).mapReq w fun x => { x with lastSeen := s.now }) : s.arrive w e = u.dropHost := by
  subst hu
  simp [State.arrive, busGate_canRun, hrun, State.mapReq, State.req_setReq, hport, hout]

/-- At a queue that takes it, a transaction enters at the end. -/
theorem arrive_enters (hrun : s.canRun w = true) (hq : (s.req w).queue.length < 8)
    (hout : w ≠ .twb0 ∧ w ≠ .hspi ∨ (s.req w).out.length < 16)
    (hu : u = (s.busGate w).mapReq w fun x => { x with lastSeen := s.now }) :
    s.arrive w e = u.mapReq w fun x => { x with queue := x.queue ++ [e] } := by
  subst hu
  have hroom : ¬ ((w = .twb0 ∨ w = .hspi) ∧ 16 ≤ (s.req w).out.length) := by
    rintro ⟨hw, hlen⟩
    obtain ⟨h1, h2⟩ | h := hout
    · exact hw.elim h1 h2
    · omega
  simp [State.arrive, busGate_canRun, hrun, State.mapReq, State.req_setReq, hroom, Nat.not_le.2 hq]

/-- At a full queue a host port answers BUSY_RETRY. -/
theorem arrive_of_full_port (hrun : s.canRun w = true) (hport : w = .twb0 ∨ w = .hspi)
    (hq : 8 ≤ (s.req w).queue.length) (hout : (s.req w).out.length < 16)
    (hu : u = (s.busGate w).mapReq w fun x => { x with lastSeen := s.now }) (hb : parseBody e.body = some b)
    (hreply : e.reply = true) : s.arrive w e = u.give w ((u.plain 9 []).response b) := by
  subst hu
  have hroom : ¬ ((w = .twb0 ∨ w = .hspi) ∧ 16 ≤ (s.req w).out.length) := fun h => by omega
  simp only [State.arrive, busGate_canRun, hrun, State.mapReq, State.req_setReq, busGate_req, busGate_now, if_neg hroom,
    if_pos hq, hb, hreply]
  obtain rfl | rfl := hport <;> rfl

/-- At a full queue the chain answers BUSY_RETRY. -/
theorem arrive_of_full_chain {uid : Nat} (hw : w = .chain uid) (hrun : s.canRun w = true)
    (hq : 8 ≤ (s.req w).queue.length) (hu : u = (s.busGate w).mapReq w fun x => { x with lastSeen := s.now })
    (hb : parseBody e.body = some b) (hreply : e.reply = true) :
    s.arrive w e = u.sendResponse uid e.node ((u.plain 9 []).response b) := by
  subst hu
  have hroom : ¬ ((w = .twb0 ∨ w = .hspi) ∧ 16 ≤ (s.req w).out.length) := by simp [hw]
  simp only [State.arrive, busGate_canRun, hrun, State.mapReq, State.req_setReq, busGate_req, busGate_now, if_neg hroom,
    if_pos hq, hb, hreply]
  subst hw
  rfl

/-- Where no transaction of the requester can execute, a host bus only wakes the device. -/
theorem arrive_asleep : s.canRun w = false →
    s.arrive w e = match w with
      | .twb0 => (s.busGate w).wake .twb0
      | .hspi => (s.busGate w).wake .hspi
      | _ => s.busGate w := by
  intro hrun
  cases w <;> simp only [State.arrive, busGate_canRun, hrun, Bool.not_false, if_true]

/-- A body of 8 bytes or more is one transaction that arrives. -/
theorem exec_transactionArrive {t : Nat} {q : Req} {body : List Byte} {s : State} (h : 8 ≤ body.length) :
    exec (.transactionArrive t q body) s =
      .next ((s.clock t).arrive q.who { node := q.node, reply := true, body }) := if_neg (by omega)

theorem length_of_parseBody {l : List Byte} (h : parseBody l = some b) : 8 ≤ l.length := by
  by_contra hl
  rw [parseBody, if_pos (by omega)] at h
  cases h

/-- An OP without a meaning completes with TYPE_MISMATCH at the object of the row. -/
theorem execBody_unknownOp {node : Nat} (hop : between 1 5 (b.op % 256) = false) (hi : b.index = 0x1000) (hsub : b.sub = 0) :
    s.execBody w node b = (s.accessGate b.index).plain 5 [] := by
  have hpresent : indexPresent 0x1000 = true := by decide
  have hrow : (rowOf 0x1000 0).isNone = false := by decide
  have hne : b.op ≠ 1 ∧ b.op ≠ 2 ∧ b.op ≠ 3 ∧ b.op ≠ 4 ∧ b.op ≠ 5 := by
    refine ⟨?_, ?_, ?_, ?_, ?_⟩ <;> intro h <;> simp [h, between] at hop
  simp [State.execBody, hne, hi, hsub, hpresent, hrow]

end

/-- Settles O49: the branches of `State.arrive`, and the last one of `State.execBody`. -/
theorem arrivalsAndUnknownOps : Obligations.ArrivalsAndUnknownOps := by
  refine ⟨?_, ?_, ?_, ?_, ?_, ?_⟩
  · rintro t q body u s v rfl hlen hrun hq hout hu
    rw [exec_transactionArrive hlen, arrive_enters hrun hq (by simpa [and_assoc] using hout) hu]
  · rintro t q body b u s v rfl hb hrun hq hport hout hu
    rw [exec_transactionArrive (length_of_parseBody hb), arrive_of_full_port hrun hport hq hout hu hb rfl]
    rfl
  · rintro t q uid body b u s v rfl hb hw hrun hq hu
    rw [exec_transactionArrive (length_of_parseBody hb), arrive_of_full_chain hw hrun hq hu hb rfl]
    rfl
  · rintro t q body u s v rfl hlen hrun hport hout hu
    rw [exec_transactionArrive hlen, dropHost_of_full hrun hport hout hu]
  · rintro t q body s v rfl hlen hrun
    rw [exec_transactionArrive hlen]
    exact congrArg _ (arrive_asleep hrun)
  · rintro t q op b u s v rfl hop rfl hb h rfl
    have hasks : asks (.unknownOp t q op) = some (t, q, _) := if_neg (by simpa using hop)
    rw [exec_of_free hasks hb h, execBody_unknownOp hop rfl rfl]
    rfl

end Sys2Proof.Proofs

/-!
What written objects do: actions, settings, and the first statuses of an access (R51, R52, R60).
-/

namespace Sys2Proof.Proofs

open Sys2Proof Sys2Proof.Machine

theorem between_iff (lo hi x : Nat) : between lo hi x = true ↔ lo ≤ x ∧ x ≤ hi := by
  simp [between]

/-! ## Actions -/

/-- The multiplexers that a write forces stand at the clock domains and at the serial ports (R120). -/
theorem forceOf_cases {i sub : Nat} {m : Mux} (h : forceOf i sub = some m) :
    (0x2110 ≤ i ∧ i ≤ 0x211F ∧ sub = 4) ∨ (0x3301 ≤ i ∧ i ≤ 0x3310 ∧ (sub = 0x18 ∨ sub = 0x19)) := by
  unfold forceOf at h
  split_ifs at h <;> omega

/-- Settles O50: each action is its own branch of `State.applyAction`, found by its index and sub. -/
theorem actionsAct : Obligations.ActionsAct := by
  intro s
  refine ⟨?_, fun i sub m h => ?_, fun n h1 h48 => ?_, fun n h1 h2 => ?_, fun a => ?_, fun p a hp => ?_, fun hp => ?_,
    ?_, ?_, fun a => ?_, ?_, ?_, fun n hn => ?_, ?_, ?_, ?_⟩
  case refine_2 =>
    have hi := forceOf_cases h
    simp (disch := omega) only [State.applyAction, itemOf_index, itemOf_sub, itemOf_val, between_iff, if_pos, if_neg, h,
      beq_self_eq_true, Bool.not_true, Bool.false_eq_true, if_false]
  case refine_7 =>
    simp (disch := omega) only [State.applyAction, itemOf_index, itemOf_sub, itemOf_val, between_iff, if_pos, if_neg,
      beq_self_eq_true, Bool.not_true, Bool.false_eq_true, if_true, if_false, hp]
  all_goals
    simp (disch := omega) only [State.applyAction, itemOf_index, itemOf_sub, itemOf_val, between_iff, if_pos, if_neg,
      beq_self_eq_true, Bool.not_true, Bool.false_eq_true, if_true, if_false, and_self,
      Nat.add_sub_cancel_left, State.clearCounter]

/-! ## Settings -/

theorem syn_num_lt (x : Syn) : x.num < 3 := by
  cases x <;> decide

theorem synOf_num (x : Syn) : synOf x.num = x := by
  cases x <;> rfl

/-- The stored value of an object without side effects of its own. -/
theorem store_of_row (s : State) {i sub : Nat} (v : Nat) {a : Acc} (hs : sub < 256)
    (hi : i < 0x3101 ∨ 0x3130 < i ∨ (sub ≠ 2 ∧ sub ≠ 0x12 ∧ sub ≠ 0x13)) (hrow : (rowOf i sub).map Row.acc = some a)
    (hacc : (a == .wo) = false) (hdom : isDomain i = false) (hown : ownSub i sub = false) :
    s.store (itemOf i sub v) =
      if i = 0x1020 then { s with rights := s.rights.set sub v }
      else if between 0x3001 0x3030 i ∧ sub = 0x0A then s.wr i sub (s.rd i sub - (s.rd i sub &&& v))
      else if between 0x2410 0x244F i then s.claimCounter (i - 0x2410) v
      else if i = 0x2000 ∧ sub = 2 ∧ v = s.ms.mode.code then s
      else s.wr i sub (storedVal i sub v) := by
  have hidx := itemOf_index v hs hi
  have hsub := itemOf_sub v hs hi
  have hact : (itemOf i sub v).action = false := by
    rw [action_of_row (by rw [hidx, hsub]; exact hrow), hacc]
  have hown' : (itemOf i sub v).own = false := by rw [WItem.own, hidx, hsub, hown]
  simp [State.store, hact, hown', hidx, hsub, hdom]

theorem rowOf_overLatch {n : Nat} (h1 : 1 ≤ n) (h48 : n ≤ 48) : (rowOf (0x3000 + n) 0x0A).map Row.acc = some .rw := by
  simp (disch := omega) only [rowOf, rowsPlane, if_pos, if_neg]
  rfl

theorem rowOf_counterSource {n : Nat} (h : n < 64) : (rowOf (0x2410 + n) 1).map Row.acc = some .rw := by
  simp (disch := omega) only [rowOf, rowsControl, if_pos, if_neg]
  rfl

theorem isDomain_of_lt {i : Nat} (h : i < 0x5000) : isDomain i = false := by
  simp [isDomain]
  omega

theorem ownSub_of_index {i sub : Nat} (h1 : i ≠ 0x1010) (h2 : i ≠ 0x1F00) (h : isDomain i = false) : ownSub i sub = false := by
  simp [ownSub, h1, h2, h]

theorem store_overLatch (s : State) {n : Nat} (a : Nat) (h1 : 1 ≤ n) (h48 : n ≤ 48) :
    s.store (itemOf (0x3000 + n) 0x0A a) =
      s.wr (0x3000 + n) 0x0A (s.rd (0x3000 + n) 0x0A - (s.rd (0x3000 + n) 0x0A &&& a)) := by
  have hdom := isDomain_of_lt (i := 0x3000 + n) (by omega)
  rw [store_of_row s a (by omega) (by omega) (rowOf_overLatch h1 h48) rfl hdom
    (ownSub_of_index (by omega) (by omega) hdom), if_neg (by omega), if_pos ⟨(between_iff ..).2 (by omega), rfl⟩]

theorem store_counterSource (s : State) {n : Nat} (a : Nat) (h : n < 64) :
    s.store (itemOf (0x2410 + n) 1 a) = s.setCounter n { s.counter n with source := a, count := 0 } := by
  have hdom := isDomain_of_lt (i := 0x2410 + n) (by omega)
  rw [store_of_row s a (by omega) (by omega) (rowOf_counterSource h) rfl hdom
    (ownSub_of_index (by omega) (by omega) hdom), if_neg (by omega), if_neg (by omega),
    if_pos ((between_iff ..).2 (by omega)), Nat.add_sub_cancel_left]
  rfl

theorem store_ceiling (s : State) (a : Nat) : s.store (itemOf 0x2004 2 a) = s.wr 0x2004 2 a := by
  rw [store_of_row s (a := .rwm amberTeal) a (by omega) (by omega) rfl rfl rfl rfl]
  simp (disch := omega) only [between_iff, if_neg, storedVal]

/-- Settles O51: each object is its own branch of `State.applyControl`, `State.applyPlane` or `State.store`. -/
theorem settingsAct : Obligations.SettingsAct := by
  intro s
  refine ⟨fun a ha => ?_, fun l p hp => ?_, fun l x => ?_, fun l k hk => ?_, fun l subs => ?_, fun k hk => ?_, ?_,
    fun n subs h1 h48 => ?_, fun n subs h1 h2 => ?_, store_ceiling s, fun n a h1 h48 => store_overLatch s a h1 h48,
    fun n a h => store_counterSource s a h⟩
  case refine_1 =>
    have hkey : (itemOf 0x2000 2 a).key = key 0x2000 2 := itemOf_key a (by omega) (by omega)
    simp [State.applyControl, hkey, ha]
  case refine_3 =>
    have hx := syn_num_lt x
    simp (disch := omega) only [State.applyControl, between_iff, if_pos, if_neg, Nat.add_sub_cancel_left, synOf_num,
      List.contains_cons, beq_self_eq_true, Bool.true_or, if_true]
  all_goals
    simp (disch := omega) only [State.applyControl, State.applyPlane, between_iff, if_pos, if_neg, Nat.add_sub_cancel_left,
      List.contains_cons, beq_self_eq_true, Bool.true_or, if_true]

/-! ## The first statuses of an access -/

section

variable {s : State} {w : Requester} {write : Bool} {i sub : Nat} {r : Row}

/-- The statuses of a present object, in their order. -/
theorem accessStatus_of_row (hi : indexPresent i = true) (hr : rowOf i sub = some r) :
    s.accessStatus w write i sub =
      if s.mayAccess w write i = false then 0x0A
      else if write then
        (if r.acc = .ro ∨ r.acc = .const ∨ (i = 0x1020 ∧ s.rights.lock) ∨ (i = 0x5F01 ∧ s.boot.keyHash.isSome) then 3 else 0)
      else if r.acc = .wo then 4
      else 0 := by
  simp [State.accessStatus, hi, hr]

theorem ite_lt {c : Prop} [Decidable c] {a b n : Nat} (ha : a < n) (hb : b < n) : (if c then a else b) < n := by
  split <;> assumption

theorem rangeRow_lt (i : Nat) : rangeRow i < 32 := by
  unfold rangeRow
  repeat' refine ite_lt ?_ ?_
  all_goals decide

theorem mayAccess_internal : s.mayAccess .internal write i = true := by
  rw [State.mayAccess, Rights.mask, BitVec.getLsbD_allOnes]
  exact decide_eq_true (rangeRow_lt i)

end

/-- Settles O52: the branches of `State.accessStatus`, in their order. -/
theorem accessStatuses : Obligations.AccessStatuses := by
  intro s w write i sub
  refine ⟨fun hi => ?_, fun hi hr => ?_, fun r hi hr => ⟨fun hm => ?_, fun hm => ⟨fun ha hw => ?_, fun ha hw => ?_,
    fun ha hw => ?_⟩⟩, mayAccess_internal, fun hlock hm h1 h7 => ?_⟩
  · simp [State.accessStatus, hi]
  · simp [State.accessStatus, hi, hr]
  · rw [accessStatus_of_row hi hr, if_pos hm]
  · subst hw
    have hro : r.acc = .ro ∨ r.acc = .const ∨ (i = 0x1020 ∧ s.rights.lock) ∨ (i = 0x5F01 ∧ s.boot.keyHash.isSome) := by
      tauto
    simp [accessStatus_of_row hi hr, hm, hro]
  · subst hw
    simp [accessStatus_of_row hi hr, hm, ha]
  · subst hw
    simp [accessStatus_of_row hi hr, hm, ha]
  · obtain ⟨r, hr, -⟩ := Option.map_eq_some_iff.1 (rowOf_rights h1 h7)
    have hi : indexPresent 0x1020 = true := by decide
    simp [accessStatus_of_row hi hr, hm, hlock]

end Sys2Proof.Proofs

/-!
Analog inputs and the router: each command whose condition holds takes its branch (06_analog_inputs.md, 07_samples_router.md).
-/

namespace Sys2Proof.Proofs

open Sys2Proof Sys2Proof.Machine

/-- A function that has not stopped is in one of four phases (R33). -/
theorem busyFn_eq_contains (s : State) (f : Func) :
    s.busyFn f = [Phase.starting, .running, .draining, .ramping].contains (s.phase f) := by
  cases h : s.phase f <;> simp [State.busyFn, h]

/-- Settles O1: the branch of each command, under its condition. -/
theorem inputCombinerAndOverload : Obligations.InputCombinerAndOverload := by
  refine ⟨?_, ?_, ?_, ?_, ?_, ?_⟩
  · rintro t n s v rfl hn hact hlg
    exact if_pos (by simp [hn, hact, hlg])
  · rintro t n s v rfl hn hact hlg hat
    exact if_pos (by simp [hn, hact, hlg, hat])
  · rintro t n s v rfl hn hbusy hovl
    refine (if_pos (by simp [hn, hbusy, hovl])).trans ?_
    simp only [beq_iff_eq]
  · rintro t n s v rfl hn hovl
    exact if_pos (by simp [hn, hovl])
  · rintro t n s v rfl hn href hclamp
    exact if_pos (by simp [hn, href, hclamp])
  · rintro t n s v rfl hn hclamp
    exact if_pos (by simp [hn, hclamp])

/-- Settles O2: the branch of each command, under its condition. -/
theorem inputReferencesAndPhantom : Obligations.InputReferencesAndPhantom := by
  refine ⟨?_, ?_, ?_, ?_, ?_, ?_⟩
  · rintro t g s v rfl hon hsettled hat
    exact if_pos (by simp [hon, hsettled, hat])
  · rintro t g s v rfl hon hfault
    refine (if_pos (by simp [hon, hfault])).trans ?_
    simp only [busyFn_eq_contains]
    rfl
  · rintro t g s v rfl hfault hat
    refine (if_pos ⟨hfault, hat⟩).trans ?_
    simp only [List.contains_cons, List.contains_nil, Bool.or_false, Bool.or_assoc]
  · rintro t faults s v rfl hruns hat
    exact if_pos (by simpa [hruns] using hat)
  · rintro t b0 b1 b2 s v rfl hruns
    exact if_pos hruns
  · rintro t n s v rfl hn hheld hat
    exact if_pos (by simp [hn, hheld, hat])

/-- Settles O3: the branch of each command, for the route or the channel that is there. -/
theorem routerEvents : Obligations.RouterEvents := by
  refine ⟨?_, ?_, ?_⟩
  · rintro t p y s v rfl hxf hpos
    simp only [exec, execCrossfadeEnd, hxf, if_pos hpos]
  · rintro t ch c s v rfl hc hphase hbuf hbridge
    simp only [exec, execAsrcAcquired, hc]
    exact if_pos ⟨hphase, by simpa using hbuf, by simpa using hbridge⟩
  · rintro t ch c s v rfl hc hphase hbridge hlost
    simp only [exec, execAsrcUnlock, hc]
    exact if_pos ⟨hphase, by simpa using hbridge, hlost⟩

end Sys2Proof.Proofs

/-!
Ticks, outputs and serial ports: each command whose condition holds takes its branch (01_architecture.md, 07_samples_router.md
to 11_serial_ports.md).
-/

namespace Sys2Proof.Proofs

open Sys2Proof Sys2Proof.Machine

/-- Where every meter of the domain has taken samples, each publishes what it has. -/
theorem publishMeters_of_fed {s : State} {d : Nat} (h : ∀ x ∈ s.meters, s.meterDom x.1 = d → x.2.cnt ≠ 0) :
    s.publishMeters d =
      { s.setDom d { s.dom d with meterAt := (s.dom d).frame + 1 } with
        meters := s.meters.map fun x =>
          if s.meterDom x.1 = d then (x.1, x.2.publish (s.rd 0x3900 1) (s.rd 0x3900 2 == 1)) else x } := by
  rw [State.publishMeters]
  congr 1
  refine List.map_congr_left fun x hx => ?_
  split
  · next hd => simp [h x hx hd]
  · rfl

/-- Settles O5: the branch of each command, under its condition; a meter of another domain publishes nothing. -/
theorem rateDomainTicks : Obligations.RateDomainTicks := by
  refine ⟨?_, ?_, ?_, ?_, ?_, ?_⟩
  · rintro t d env s v rfl hd hdue
    exact if_pos ⟨hd, hdue⟩
  · rintro t env s v rfl htalk hat
    simp only [exec, execTick]
    rw [if_neg (by omega), if_pos ⟨trivial, htalk, hat⟩]
  · rintro t n s v rfl hact hbusy hdone
    exact if_pos (by simp [hact, hbusy, hdone])
  · rintro t d s v rfl hdue
    exact if_pos hdue
  · rintro t d s v rfl hdue hcnt
    simp only [exec, execMeterPeriod, if_pos hdue, publishMeters_of_fed hcnt]
  · rintro t s v rfl hre hquiet
    exact if_pos (by rw [hre, hquiet]; rfl)

/-- Settles O6: the branch of each command, under its condition. -/
theorem outputBiasAndMode : Obligations.OutputBiasAndMode := by
  refine ⟨?_, ?_, ?_, ?_, ?_⟩
  · rintro t bank s v rfl hbank hst hat
    exact if_pos ⟨hbank, hst, hat⟩
  · rintro t bank s v rfl hbank hst hat
    exact if_pos ⟨hbank, hst, hat⟩
  · rintro t s v rfl hst hat
    refine (if_pos ⟨hst, hat⟩).trans ?_
    simp only [Bool.and_eq_true, beq_iff_eq, and_assoc]
  · rintro t s v rfl hst hat
    exact if_pos ⟨hst, hat⟩
  · rintro t pair a s v rfl hsw hat
    rfl

/-- Settles O8: the branch of each command, under its condition; after a sound measurement the phase of the output decides. -/
theorem headphoneJack : Obligations.HeadphoneJack := by
  refine ⟨?_, ?_, ?_, ?_, ?_, ?_, ?_, ?_, ?_⟩
  · rintro t n s v rfl hn hpresent
    simp only [exec, execJackEdge, if_pos hn, hpresent, Bool.false_eq_true, if_false]
    exact (apply_ite Host.Outcome.next _ _ _).symm
  · rintro t n s v rfl hn hpresent hjack
    simp only [exec, execJackAbsent, if_pos hn, hpresent, Bool.not_true, Bool.false_eq_true, if_false, if_pos hjack]
  · rintro t n s v rfl hn hpresent hjack
    simp only [exec, execJackAbsent, if_pos hn, hpresent, Bool.not_true, Bool.false_eq_true, if_false]
    rw [if_neg (by omega), if_pos hjack]
  · rintro t n s v rfl hn hpresent hjack
    simp only [exec, execJackAbsent, if_pos hn, hpresent, Bool.not_true, Bool.false_eq_true, if_false]
    rw [if_neg (by omega), if_neg (by omega)]
  · rintro t n s v rfl hn hjack hat
    exact if_pos ⟨hn, hjack, hat⟩
  · rintro t n l r s v rfl hn hjack hat hshort
    refine (if_pos ⟨hn, hjack, hat⟩).trans ?_
    simp only [hshort, if_true]
  · rintro t n l r u s v rfl hn hjack hat hsound rfl hwants hphase
    refine (if_pos ⟨hn, hjack, hat⟩).trans ?_
    simp only [if_neg hsound, hwants, if_true]
    obtain hp | hp := hphase <;> simp only [hp]
  · rintro t n l r u s v rfl hn hjack hat hsound hu hwants
    refine (if_pos ⟨hn, hjack, hat⟩).trans ?_
    simp only [if_neg hsound, ← hu]
    obtain hw | ⟨hdraining, hramping⟩ := hwants
    · simp [hw]
    · cases hp : u.phase (.hp n) with
      | draining => exact absurd hp hdraining
      | ramping => exact absurd hp hramping
      | fault => simp
      | _ => split_ifs <;> simp_all
  · rintro t n a s v rfl hn habsent hat
    simp only [exec, execJackRemove, habsent]
    exact if_pos ⟨hn, hat⟩

/-- Settles O9: the branch of each command, under its condition. -/
theorem pwmOutputs : Obligations.PwmOutputs := by
  refine ⟨?_, ?_, ?_, ?_, ?_⟩
  · rintro t n s v rfl hstep hphase hat
    exact if_pos ⟨hstep, hphase, hat⟩
  · rintro t n s v rfl hstep hphase hat
    exact if_pos ⟨hstep, hphase, hat⟩
  · rintro t n s v rfl hstep hat
    exact if_pos ⟨hstep, hat⟩
  · rintro t n s v rfl h1 h16 hdiv hstep hdue
    exact if_pos ⟨h1, h16, hdiv, hstep, hdue⟩
  · rintro t k s v rfl hk rfl
    exact if_neg (by omega)

/-- Settles O10: the branch of each command, under its condition. -/
theorem serialPortEvents : Obligations.SerialPortEvents := by
  refine ⟨?_, ?_, ?_, ?_⟩
  · rintro t p bits dir s v rfl hp hup hslave
    refine (if_pos ⟨hp, hup⟩).trans ?_
    simp [hslave]
  · rintro t p bits dir s v rfl hp hup hmaster
    refine (if_pos ⟨hp, .inl hup⟩).trans ?_
    simp [hmaster]
  · rintro t p slots s v rfl hp hup hacq
    refine (if_pos ⟨hp, .inl hup⟩).trans ?_
    exact if_pos ⟨rfl, hacq, hup⟩
  · rintro t p dir s v rfl hp hup hslave hat
    exact if_pos ⟨hp, hup, by simp [hslave], hat⟩

end Sys2Proof.Proofs

/-!
Links, head election, admission and time of a chain: each command whose condition holds takes its branch (12_chain.md).
-/

namespace Sys2Proof.Proofs

open Sys2Proof Sys2Proof.Machine

/-- Settles O11: the branch of each command, under its condition. -/
theorem chainPortLinks : Obligations.ChainPortLinks := by
  refine ⟨?_, ?_, ?_, ?_, ?_⟩
  · rintro t port s v hv hpd hmode hup
    simp [exec, execLinkUp, ← hv, hpd, hmode, hup]
    rfl
  · rintro t port s v rfl
    rfl
  · rintro t port s v hv hup hedge hat
    simp [exec, execHelloSend, ← hv, hup, hedge, hat]
    cases port <;> rfl
  · rintro t port u node headUid headPrio rate s v hv hup hedge
    simp [exec, execHello, ← hv, hup, hedge]
  · rintro t port s v hv hup hhello hedge hat
    simp [exec, execEdgeTimeout, ← hv, hup, hhello, hedge, hat]

theorem setPort_net_st (s : State) (port : ChPort) (x : PortSt) : (s.setPort port x).net.st = s.net.st := by
  cases port <;> rfl

theorem setPort_net_node (s : State) (port : ChPort) (x : PortSt) : (s.setPort port x).net.node = s.net.node := by
  cases port <;> rfl

theorem setPort_now (s : State) (port : ChPort) (x : PortSt) : (s.setPort port x).now = s.now := by
  cases port <;> rfl

theorem foldl_now {α : Type} (f : State → α → State) (hf : ∀ u x, (f u x).now = u.now) (l : List α) (s : State) :
    (l.foldl f s).now = s.now := by
  induction l generalizing s with
  | nil => rfl
  | cons x l ih => rw [List.foldl_cons, ih, hf]

/-- A chain link that has heard no head for 10 ms lets a search claim. -/
theorem exec_headClaim_of_search {t a : Nat} {s v : State} (hv : v = s.clock t) (hst : v.net.st = 1)
    (hquiet : ∃ p ∈ v.chainLinks, (v.port p).helloAt = some a ∧ a + 10000000 ≤ v.now) (hclaim : v.net.claimAt = none) :
    exec (.headClaim t) s =
      let u := v.mapNet fun n => { n with claimAt := some v.now }
      if u.rd 0x4000 7 = 255 then .next u
      else if v.chainLinks.length = 1 then .next u.standClaim
      else .next (u.tell v.chainLinks (.claim uid 255 u.ownClaim.2.2)) := by
  obtain ⟨p, hp, hhello, hat⟩ := hquiet
  have hne : v.chainLinks.isEmpty = false := by
    rw [List.isEmpty_eq_false_iff_exists_mem]
    exact ⟨p, hp⟩
  simp only [exec, execHeadClaim, ← hv, hst, hne, hclaim]
  refine (if_pos ?_).trans rfl
  simp only [Bool.not_false, Option.isNone_none, Bool.and_true]
  exact List.any_eq_true.2 ⟨p, hp, by simp [hhello, hat]⟩

/-- Settles O12: the branch of each command, under its condition. -/
theorem chainHeadAndMembers : Obligations.ChainHeadAndMembers := by
  refine ⟨?_, ?_, ?_, ?_, ?_, ?_, ?_, ?_, ?_, ?_, ?_, ?_, ?_, ?_⟩
  · rintro t a s v hv hst hquiet hclaim hprio
    rw [exec_headClaim_of_search hv hst hquiet hclaim]
    exact if_pos hprio
  · rintro t a s v hv hst hquiet hclaim hprio hlen
    rw [exec_headClaim_of_search hv hst hquiet hclaim]
    exact (if_neg hprio).trans (if_pos hlen)
  · rintro t a s v hv hst hquiet hclaim hprio hlen
    rw [exec_headClaim_of_search hv hst hquiet hclaim]
    exact (if_neg hprio).trans (if_neg hlen)
  · rintro t u s v hv hst hat hlinks hclaim hu
    simp only [exec, execHeadClaim, ← hv, hst]
    refine (if_pos (by simp [hat, hlinks, hclaim])).trans ?_
    rw [hu, apply_ite Host.Outcome.next, apply_ite Host.Outcome.next]
    rfl
  · rintro t a s v hv hclaim hst hat hbest
    simp [exec, execHeadElection, ← hv, hclaim, hst, hat, hbest]
  · rintro t a b s v hv hclaim hst hat hbest hown
    simp [exec, execHeadElection, ← hv, hclaim, hst, hat, hbest, hown]
  · rintro t a b s v hv hclaim hst hat hbest hown
    simp [exec, execHeadElection, ← hv, hclaim, hst, hat, hbest, hown]
  · rintro t port msg s v rfl hlink
    exact if_pos hlink
  · rintro t l s v hv hst hat hl hne
    simp only [exec, execJoinRetry, ← hv, ← hl]
    refine (if_pos ⟨hst, hat⟩).trans ((if_neg (by simpa using hne)).trans ?_)
    rw [foldl_now _ fun u p => by exact setPort_now ..]
  · rintro t s v hv hst hat hl
    simp [exec, execJoinRetry, ← hv, hst, hat, hl]
  · rintro t s v hv hst hnode hwaits hcs hhold hlo hhi hgood
    simp only [exec, execChainJoin, ← hv]
    exact if_pos ⟨hst, hnode, by simpa [or_assoc] using hwaits, hcs, by rw [hhold]; rfl, hlo, hhi, hgood⟩
  · rintro t node s v hv hst h0 hlt
    simp [exec, execNodeRelease, ← hv, hst, h0, hlt]
  · rintro t port ns s v hv hlink hat hk
    simp only [exec, execPeerDelay, ← hv]
    refine (if_pos (by simp [hlink, hat])).trans ?_
    rw [if_neg (Nat.not_le.2 hk), if_neg (by omega)]
  · rintro t port ns u s v hv hlink hat hk hu
    simp only [exec, execPeerDelay, ← hv]
    refine (if_pos (by simp [hlink, hat])).trans ?_
    have hst : u.net.st = v.net.st := by rw [hu]; exact setPort_net_st ..
    have hnode : u.net.node = v.net.node := by rw [hu]; exact setPort_net_node ..
    rw [if_pos hk, ← hu, hst, hnode]
    congr 2
    simp

end Sys2Proof.Proofs

/-!
Time, frames and flows of a chain, and packets at an edge port (12_chain.md, 18_diagnostics.md).
-/

namespace Sys2Proof.Proofs

open Sys2Proof Sys2Proof.Machine

/-- Settles O13: the branch of each command, under its condition. -/
theorem chainTime : Obligations.ChainTime := by
  refine ⟨?_, ?_, ?_, ?_, ?_, ?_, ?_, ?_, ?_, ?_, ?_⟩
  · rintro t s v rfl hst hcycle
    exact if_pos ⟨hst, hcycle⟩
  · rintro t port f u s v hv hlink hver hsrc hu hst hcycle
    simp only [exec, execCycleStart, ← hv, ← hu]
    rw [if_neg (by simpa [hlink, hver, imp_iff_not_or] using hsrc), if_neg (by omega), if_neg (by omega)]
  · rintro t port f u s v hv hlink hver hsrc hu hst
    simp only [exec, execCycleStart, ← hv, ← hu]
    rw [if_neg (by simpa [hlink, hver, imp_iff_not_or] using hsrc)]
    by_cases hhead : u.net.st = 4 ∨ u.net.st = 5 ∨ u.net.st = 0
    · exact if_pos hhead
    · rw [if_neg hhead, if_pos (by tauto)]
  · rintro t s v rfl hst hhold hat
    exact if_pos ⟨hst, by rw [hhold]; rfl, hat⟩
  · rintro t s v rfl hst hhold hat
    exact if_pos ⟨hst, hhold, hat⟩
  · rintro t port offset s v hv hup hedge hptp
    simp [exec, execEdgePtpMessage, ← hv, hup, hedge, hptp]
  · rintro t port offset s v hv hup hedge hptp hst
    simp only [exec, execEdgePtpMessage, ← hv]
    refine (if_pos (by simp [hup, hedge, hptp])).trans (congrArg _ (if_pos ⟨trivial, .inl hst⟩))
  · rintro t x s v hv hpres hat
    simp [exec, execPresentationChange, ← hv, hpres, hat]
  · rintro t u k s v hv hst
    simp [exec, execShare, ← hv, hst]
  · rintro t u k free s v rfl
    rfl
  · rintro t u free s v rfl
    rfl

/-! ## What noting a frame leaves -/

theorem event_eq_counters (s : State) (code idx : Nat) : ∃ c, s.event code idx = { s with counters := c } := by
  unfold State.event
  repeat' split
  · exact ⟨s.counters, rfl⟩
  · exact ⟨_, rfl⟩
  · exact ⟨_, rfl⟩

/-- The state that has counted what is wrong with a frame on its way (R368). -/
def noteFrame (s : State) (port : ChPort) (f : ChainFrame) : State :=
  if f.fcs = .bad then s.bump (portIndex port) 8
  else if f.fcs = .good ∧ (f.hdr.kind < 1 ∨ 0x0B < f.hdr.kind) then s.event 0x71 (portIndex port) else s

theorem portIndex_key_ne (p q : ChPort) {sub : Nat} (h : sub ≠ 8) (hs : sub < 256) :
    key (portIndex q) sub ≠ key (portIndex p) 8 := fun e => h (key_inj hs (by decide) e).2

/-- Noting a frame changes neither a link nor an object of the ports but the count. -/
theorem noteFrame_keeps (s : State) (port : ChPort) (f : ChainFrame) :
    (noteFrame s port f).net = s.net ∧
      ∀ p sub, sub ≠ 8 → sub < 256 → (noteFrame s port f).rd (portIndex p) sub = s.rd (portIndex p) sub := by
  unfold noteFrame
  split
  · exact ⟨rfl, fun p sub h hs => s.rd_bump_other (portIndex_key_ne port p h hs)⟩
  · split
    · obtain ⟨c, hc⟩ := event_eq_counters s 0x71 (portIndex port)
      rw [hc]
      exact ⟨rfl, fun _ _ _ _ => rfl⟩
    · exact ⟨rfl, fun _ _ _ _ => rfl⟩

theorem noteFrame_forwards (s : State) (port : ChPort) (f : ChainFrame) :
    (noteFrame s port f).forwards port = s.forwards port := by
  obtain ⟨hnet, hrd⟩ := noteFrame_keeps s port f
  have hport (p : ChPort) : (noteFrame s port f).port p = s.port p := by
    simp only [State.port, hnet]
  simp only [State.forwards, State.chainLink, State.isEdge, hport, hrd _ 3 (by decide) (by decide)]

theorem send_eq_sent (s : State) (x : Sent) : ∃ l, s.send x = { s with net := { s.net with sent := l } } := by
  cases x with
  | beacon => exact ⟨_, rfl⟩
  | _ =>
    by_cases h : s.phase (.syn .s) = .running
    · exact ⟨_, if_pos h⟩
    · exact ⟨_, if_neg h⟩

/-- Settles O14: the branch of each command, under its condition; what a frame's fault counts leaves the links as they were. -/
theorem chainFramesAndFlows : Obligations.ChainFramesAndFlows := by
  refine ⟨?_, ?_, ?_, ?_, ?_, ?_, ?_, ?_, ?_, ?_⟩
  · rintro t port f s v hv hlink hlen hver hfwd hown hhome
    obtain ⟨hnet, hrd⟩ := noteFrame_keeps v port f
    have hnote : (if f.hdr.version == 1 && f.fcs == .good && (decide (f.hdr.kind < 1) || decide (0x0B < f.hdr.kind)) then
        (if f.fcs = .bad then v.bump (portIndex port) 8 else v).event 0x71 (portIndex port)
        else if f.fcs = .bad then v.bump (portIndex port) 8 else v) = noteFrame v port f := by
      unfold noteFrame
      cases f.fcs <;> simp [hver]
    simp only [exec, execFrameForward, ← hv]
    rw [if_neg (by simp [hlink]), if_neg (by omega)]
    rw [hnote]
    refine if_pos ?_
    rw [noteFrame_forwards, hnet, hrd _ 5 (by decide) (by decide)]
    simp only [hver, hfwd, Bool.and_eq_true, Bool.not_eq_true', Bool.and_eq_false_iff, beq_eq_false_iff_ne,
      bne_eq_false_iff_eq, beq_self_eq_true, true_and]
    exact ⟨hown, by tauto⟩
  · rintro t port f s v hv hlink hlen
    simp [exec, execFrameForward, ← hv, hlink, hlen]
  · rintro t port f s v hv hlink hver hsrc
    simp only [exec, execAudio, ← hv]
    exact if_pos (by simp [hlink, hver, hsrc])
  · rintro t port f s v hv hlink hver hkind hdst hreq hrun hlen
    simp only [exec, execTransaction, ← hv]
    refine (if_pos ?_).trans ?_
    · simpa [hlink, hver, hkind, hreq, hrun, hlen, or_assoc] using hdst
    · cases v.kept (.chain f.requester) f.body with
      | some r => cases f.hdr.flags.testBit 4 <;> rfl
      | none => rfl
  · rintro t r s v rfl hr hact hlost hmiss
    exact if_pos ⟨hr, hact, by rw [hlost]; rfl, hmiss⟩
  · rintro t r s v rfl hr hact halt hcycle
    exact if_pos ⟨hr, hact, halt, hcycle⟩
  · rintro t port target s v hv hlink h4 h5
    simp [exec, execBeaconRequest, ← hv, hlink, h4, h5]
  · rintro t port target u s v hv hlink hu htarget hfresh hawake hchain
    have hkeep : ∃ l, u = { v with net := { v.net with sent := l } } := by
      rw [hu]
      split
      · exact send_eq_sent v _
      · exact ⟨v.net.sent, rfl⟩
    obtain ⟨l, hl⟩ := hkeep
    have hreq : u.net.requestAt = v.net.requestAt := by rw [hl]
    have hnow : u.now = v.now := by rw [hl]
    have hms : (u.mapNet fun n => { n with requestAt := some v.now }).ms = v.ms := by rw [hl]; rfl
    have hin : (u.mapNet fun n => { n with requestAt := some v.now }).inChain = true := by rw [hl]; exact hchain
    simp only [exec, execBeaconRequest, ← hv, ← hu, hnow]
    rw [if_pos hlink, if_neg (by omega)]
    refine congrArg _ (if_pos ?_)
    rw [hms, hin, hawake]
    obtain hnone | ⟨a, ha, hat⟩ := hfresh
    · simp [hreq, hnone]
    · simp [hreq, ha, hat]
  · rintro t port target hops ok u s v hv hmode h3 h0 hfresh hu
    simp only [exec, execBeaconReceive, ← hv, ← hu]
    rw [if_neg (by obtain h | h := hmode <;> simp [h, h3, h0]), if_neg]
    · simp only [hu, Bool.and_eq_true, Bool.or_eq_true, beq_iff_eq, bne_iff_ne, and_assoc]
      exact (apply_ite Host.Outcome.next _ _ _).symm
    · obtain hnone | ⟨a, ha, hat⟩ := hfresh
      · simp [hnone]
      · simp [ha, hat]
  · rintro t snapAt tag s v rfl hpd
    exact if_pos hpd

end Sys2Proof.Proofs

/-!
AES67 packets at an edge port (R384, R395, R396).
-/

namespace Sys2Proof.Proofs

open Sys2Proof Sys2Proof.Machine

/-- The flow that takes a packet: the first active AES67 receive flow that names its address, port and payload type. -/
def aesFor (v : State) (port : ChPort) (p : RtpPacket) : Option Nat :=
  (List.range 16).find? fun a =>
    (v.fn (.aes a)).active && decide (0x10 ≤ v.rd (0x4040 + a) 3) && v.rd (0x4040 + a) 3 != 0xFF &&
      (v.rd (0x4040 + a) 4 == 2) == (port == .chb) && v.rd (0x4040 + a) 5 == p.ip && v.rd (0x4040 + a) 6 == p.udp &&
      v.rd (0x4040 + a) 8 == p.pt

/-- What becomes of a packet at flow `a` whose destination is active. -/
def takePacket (v : State) (p : RtpPacket) (a r : Nat) : State :=
  if (v.rd (0x4040 + a) 7 == 1) ≠ p.l16 ∨ p.words.any (fun l => l.length != v.rd (0x4020 + r) 6) ∨ 8 < v.rd (0x4020 + r) 6 then
    v.setRx r { v.rxFlow r with formatAt := some v.now }
  else if v.rxTimed r then
    let i := tickIndex v.ptp 48000
    let low := (p.timestamp + 2 ^ 32 - v.rd (0x4040 + a) 0x0B) % 2 ^ 32
    let c := i / 2 ^ 32 * 2 ^ 32 + low
    let i0 := if c < i + 2 ^ 31 then (if c + 2 ^ 31 < i then c + 2 ^ 32 else c) else c - 2 ^ 32
    v.rxBlock r (i0 / 48) i0 false (p.words.map fun y => y.map rtpSample)
  else v.rxForeign r (p.words.map fun y => y.map rtpSample)

theorem exec_aes67Packet {t a r : Nat} {port : ChPort} {p : RtpPacket} {s v : State} (hv : v = s.clock t)
    (hedge : v.isEdge port = true) (hup : (v.port port).up = true) (hlen : p.words.length = 48)
    (ha : aesFor v port p = some a) (hr : r = v.rd (0x4040 + a) 3 - 0x10)
    (hphase : [Phase.starting, .running, .draining, .ramping].contains (v.fn (.flowRx r)).phase = true) :
    exec (.aes67Packet t port p) s = .next (takePacket v p a r) := by
  simp only [exec, execAes67Packet, ← hv]
  rw [if_neg (by simp [hedge, hup, hlen])]
  rw [aesFor] at ha
  simp only [ha, ← hr]
  rw [if_neg, takePacket]
  · rw [apply_ite Host.Outcome.next, apply_ite Host.Outcome.next]
  · revert hphase
    cases (v.fn (.flowRx r)).phase <;> simp

theorem takePacket_of_format {v : State} {p : RtpPacket} {a r : Nat} (hl16 : (v.rd (0x4040 + a) 7 == 1) = p.l16)
    (hch : ∀ l ∈ p.words, l.length = v.rd (0x4020 + r) 6) (h8 : v.rd (0x4020 + r) 6 ≤ 8) :
    takePacket v p a r =
      if v.rxTimed r then
        let i := tickIndex v.ptp 48000
        let low := (p.timestamp + 2 ^ 32 - v.rd (0x4040 + a) 0x0B) % 2 ^ 32
        let c := i / 2 ^ 32 * 2 ^ 32 + low
        let i0 := if c < i + 2 ^ 31 then (if c + 2 ^ 31 < i then c + 2 ^ 32 else c) else c - 2 ^ 32
        v.rxBlock r (i0 / 48) i0 false (p.words.map fun y => y.map rtpSample)
      else v.rxForeign r (p.words.map fun y => y.map rtpSample) := by
  have hany : (p.words.any fun l => l.length != v.rd (0x4020 + r) 6) = false := by simpa using hch
  rw [takePacket, if_neg (by simp [hl16, hany, h8])]

/-- Settles O15: the flow is found, and its format and its binding decide. -/
theorem edgePortPackets : Obligations.EdgePortPackets := by
  refine ⟨?_, ?_, ?_⟩
  · rintro t port p a r s v hv hedge hup hlen ha hr hphase hl16 hch h8 htimed
    rw [exec_aes67Packet hv hedge hup hlen ha hr hphase, takePacket_of_format hl16 hch h8, if_neg (by simp [htimed])]
  · rintro t port p a r s v hv hedge hup hlen ha hr hphase hl16 hch h8 htimed
    rw [exec_aes67Packet hv hedge hup hlen ha hr hphase, takePacket_of_format hl16 hch h8, if_pos htimed]
  · rintro t port p a r s v hv hedge hup hlen ha hr hphase hbad
    rw [exec_aes67Packet hv hedge hup hlen ha hr hphase, takePacket, if_pos]
    obtain h | ⟨l, hl, hne⟩ | h := hbad
    · exact .inl h
    · exact .inr (.inl (List.any_eq_true.2 ⟨l, hl, by simpa using hne⟩))
    · exact .inr (.inr h)

end Sys2Proof.Proofs

/-!
The crystal oscillator, the multiplexers, the synthesizers and the tracking loops (R110 to R160).
-/

namespace Sys2Proof.Proofs

open Sys2Proof Sys2Proof.Machine

/-- A command that may gate a clock acts by its operation and aborts the transaction that this catches (R105). -/
theorem gating_of_eq {t : Nat} {f : State → State} {s v u : State} (hv : v = s.clock t) (hu : f v = u) :
    s.gating t f = .next (v.abortFrom u) := by
  rw [← hu, hv]
  rfl

/-- Settles O16: the condition of each event holds by its premises. -/
theorem crystalAndMuxes : Obligations.CrystalAndMuxes := by
  refine ⟨?_, ?_, ?_, ?_, ?_, ?_, ?_, ?_, ?_⟩
  · rintro t on s v hv hxo hamp
    simp only [exec, execXoAmplitude, ← hv]
    exact if_pos (by simp [hxo, hamp])
  · rintro t s v hv hmode hamp hstable hstart hat
    simp only [exec, execXoNoStart, ← hv]
    exact if_pos (by simp [hmode, hamp, hstable, hstart, hat])
  · rintro t rcoCount s v hv hxo hamp hstable hlow hhigh hat
    simp only [exec, execXoStabilityCountDone, ← hv]
    rw [if_neg (by simpa [hxo, hamp, hstable] using hat), if_pos ⟨hlow, hhigh⟩]
    rfl
  · rintro t rcoCount s v hv hxo hamp hstable hout hat
    simp only [exec, execXoStabilityCountDone, ← hv]
    rw [if_neg (by simpa [hxo, hamp, hstable] using hat), if_neg (by omega)]
  · rintro t s v hv harmed
    refine gating_of_eq hv ?_
    rw [State.missXo, harmed]
    rfl
  · rintro t m s v hv hst hrun
    simp only [exec, execMuxSwitchComplete, ← hv]
    refine (if_pos ⟨hst, hrun⟩).trans ?_
    cases m <;> rfl
  · rintro t m s v rfl hst hedges
    exact if_pos ⟨hst, hedges⟩
  · rintro t m s v hv hst hstop
    refine gating_of_eq (f := fun s => s.hangMux m) hv ?_
    refine (if_pos ⟨hst, hstop⟩).trans ?_
    cases m <;> rfl
  · rintro t cd s v hv hlow hhigh hauto hopen hidle hat
    simp only [exec, execGateClose, ← hv]
    exact if_pos (by simp [hlow, hhigh, hauto, hopen, hidle, hat])

theorem syn_setSyn (s : State) (x : Syn) (y : SynState) : (s.setSyn x y).syn x = y := by
  cases x <;> rfl

theorem setSyn_now (s : State) (x : Syn) (y : SynState) : (s.setSyn x y).now = s.now := by
  cases x <;> rfl

theorem setSyn_phase (s : State) (x : Syn) (y : SynState) (f : Func) : (s.setSyn x y).phase f = s.phase f := by
  cases x <;> rfl

theorem setLoop_now (s : State) (i : Nat) (x : LoopState) : (s.setLoop i x).now = s.now := by
  unfold State.setLoop
  split <;> rfl

theorem setLoop_rd (s : State) (i : Nat) (x : LoopState) (j sub : Nat) : (s.setLoop i x).rd j sub = s.rd j sub := by
  unfold State.setLoop
  split <;> rfl

theorem exec_synLock {t : Nat} {x : Syn} {pin window p w : Bool} {y : SynState} {s v : State} (hv : v = s.clock t)
    (hy : y = v.syn x) (hp : p = (pin && decide (y.tryAt + 300000 ≤ v.now)))
    (hw : w = (window && decide (y.tryAt + refTime y.scale y.winN ≤ v.now))) :
    exec (.synLock t x pin window) s = .next (v.abortFrom (
      if y.acqAt ≠ 0 then
        if y.acqAt + 2000000 < v.now then v
        else if lockedBy y.method p w then (v.setSyn x { y with pin := p, window := w }).lockSyn x
        else v.setSyn x { y with pin := p, window := w }
      else if v.phase (.syn x) = .running then
        if lostBy y.method p w then (v.setSyn x { y with pin := p, window := w }).unlockSyn x false
        else v.setSyn x { y with pin := p, window := w }
      else v)) := by
  subst hp hw hy
  exact gating_of_eq (f := fun s => s.declareSyn x pin window) hv rfl

/-- Settles O17: the acquisitions by their conditions, a lock by what the two methods declare. -/
theorem synthesizers : Obligations.Synthesizers := by
  refine ⟨?_, ?_, ?_, ?_, ?_, ?_, ?_, ?_, ?_, ?_⟩
  · rintro t x s v hv hready hacq hphase
    simp only [exec, execSynAcquisitionStart, ← hv]
    refine if_pos ?_
    obtain h | h | ⟨h, hlost⟩ := hphase
    · simp [hready, hacq, h]
    · simp [hready, hacq, h]
    · simp [hready, hacq, h, hlost]
  · rintro t x s v hv hready hacq hlost hphase hat
    simp only [exec, execSynReacquire, ← hv]
    exact if_pos (by simp [hready, hacq, hlost, hphase, hat])
  · rintro t x s v rfl hphase hacq hat hready
    exact if_pos ⟨hphase, hacq, hat, hready⟩
  · rintro t x pin window p w y s v hv hy hp hw hacq hat hlock
    rw [exec_synLock hv hy hp hw, if_pos hacq, if_neg (by omega), if_pos hlock, State.lockSyn]
    simp only [syn_setSyn, setSyn_now, State.wr_now]
  · rintro t x pin window p w y s v hv hy hp hw hkeep
    rw [exec_synLock hv hy hp hw]
    obtain ⟨hacq, hat, hlock⟩ | ⟨hacq, hphase, hlost⟩ := hkeep
    · rw [if_pos hacq, if_neg (by omega), if_neg (by simp [hlock])]
    · rw [if_neg (by simp [hacq]), if_pos hphase, if_neg (by simp [hlost])]
  · rintro t x pin window p w y u s v hv hy hp hw hacq hphase hlost hu
    rw [exec_synLock hv hy hp hw, if_neg (by simp [hacq]), if_pos hphase, if_pos hlost, hu]
    rfl
  · rintro t x refLost s v hv hphase hstable hloss
    refine gating_of_eq (f := fun s => s.declareLoss x refLost) hv ?_
    cases refLost with
    | true => simp [State.declareLoss, State.unlockSyn, hphase, hstable rfl]
    | false =>
      have hmethod : ¬ ((v.syn x).method = 1 ∧ v.now < (v.syn x).lockAt + refTime (v.syn x).scale (v.syn x).unlockN) := by
        obtain h | h := hloss rfl <;> omega
      simp [State.declareLoss, State.unlockSyn, hphase, hmethod]
  · rintro t x u s v hv hacq hat hu
    simp only [exec, execSynAcquisitionFail, ← hv, ← hu]
    rw [if_pos ⟨hacq, hat⟩, hu]
    simp only [setSyn_phase, apply_ite Host.Outcome.next, show (v.syn x).fails + 1 < 3 ↔ (v.syn x).fails < 2 by omega]
  · rintro t n s v hv hn hphase hpend
    simp only [exec, execCkoChange, ← hv]
    rw [if_pos ⟨hn, hphase⟩, State.changeCko, hpend]
    rfl
  · rintro t n u s v hv hn hphase hpend hu
    simp only [exec, execCkoChange, ← hv]
    rw [if_pos ⟨hn, hphase⟩, State.changeCko, hpend, hu]
    rfl

/-- Settles O18: the state of the loop decides what an update does. -/
theorem trackingLoops : Obligations.TrackingLoops := by
  refine ⟨?_, ?_, ?_, ?_, ?_, ?_, ?_⟩
  · rintro t loop x u s v hv hloop hat hx hu hleave
    simp only [exec, execLoopUpdate, ← hv]
    rw [if_neg (by omega), if_pos hleave, apply_ite Host.Outcome.next, hu, hx]
  · rintro t loop x u g s v hv hloop hat hx hu hleave hst hg
    simp only [exec, execLoopUpdate, ← hv]
    rw [if_neg (by omega), if_neg (by simp [hleave])]
    revert hst hx
    generalize v.loop loop = y
    cases y
    rintro rfl rfl
    simp only [setLoop_now, Bool.not_eq_true', decide_eq_false_iff_not, not_le, ← hg, Bool.and_eq_true, decide_eq_true_eq]
    subst hu
    exact (apply_ite Host.Outcome.next _ _ _).symm
  · rintro t loop x u s v hv hloop hat hx hu hleave hst
    simp only [exec, execLoopUpdate, ← hv]
    rw [if_neg (by omega), if_neg (by simp [hleave]), hu, hx]
    obtain h | h := hst
    · simp only [h, setLoop_rd]
      rfl
    · simp only [h, setLoop_rd]
      rfl
  · rintro t loop x u w s v hv hloop hat hx hu hleave hst hw
    simp only [exec, execLoopUpdate, ← hv]
    rw [if_neg (by omega), if_neg (by simp [hleave])]
    revert hst hx
    generalize v.loop loop = y
    cases y
    rintro rfl rfl
    simp only [Bool.and_eq_true]
    subst hw hu
    exact (apply_ite Host.Outcome.next _ _ _).symm
  · rintro t loop x u s v hv hloop hat hx hu hleave hst
    simp only [exec, execLoopUpdate, ← hv]
    rw [if_neg (by omega), if_neg (by simp [hleave]), hu, hx]
    obtain h | h := hst <;> simp only [h]
  · rintro t loop s v hv hloop hst hleave hat
    simp only [exec, execLoopAcquireEnd, ← hv]
    exact if_pos (by simp [hloop, hst, hleave, hat])
  · rintro t loop s v hv hloop hdel
    simp only [exec, execLoopHoldover, ← hv]
    exact if_pos (by simp [hloop, hdel])

end Sys2Proof.Proofs

/-!
The members of a pair and their arbiter (R400 to R425).
-/

namespace Sys2Proof.Proofs

open Sys2Proof Sys2Proof.Machine

theorem setArb_rd (s : State) (i : Nat) (x : ArbPair) (j sub : Nat) : (s.setArb i x).rd j sub = s.rd j sub := rfl

theorem setMember_on (x : ArbPair) (k : Nat) (a : ArbMember) : (x.setMember k a).on = x.on := by
  unfold ArbPair.setMember
  split <;> rfl

/-- An ARB_BEAT of the member's pair with a newer epoch is heard, stores the epoch, and acts by the member that it names. -/
theorem exec_arbBeat_of_newer {t : Nat} {m : PairMsg} {s v u : State} (hv : v = s.clock t) (hfor : v.forMember m = true)
    (hnew : newerEpoch m.epoch v.pair.epoch = true)
    (hu : u = (v.mapPair fun p => { p with arbAt := v.now, arbLost := false, selfReleased := false }).takeEpoch m.epoch) :
    exec (.arbBeat t m) s = .next (
      if m.member = uid then (u.mapPair fun p => { p with granted := true }).takeGrant
      else if v.pair.driving then u.releaseNow 0
      else (u.mapPair fun p => { p with granted := false, blocked := false, waitAt := none }).setRole 1 0) := by
  simp only [exec, execArbBeat, ← hv]
  rw [if_neg (by simp [hfor, hnew]), if_neg (by simp [hnew]), apply_ite Host.Outcome.next, apply_ite Host.Outcome.next, hu]
  rfl

/-- Settles O19: a grant, a release, or a member that becomes standby, by the epoch and the member that the frame names. -/
theorem pairMemberGrants : Obligations.PairMemberGrants := by
  refine ⟨?_, ?_, ?_, ?_, ?_, ?_, ?_, ?_⟩
  · rintro t m s v hv hfor hnew hmember
    rw [exec_arbBeat_of_newer hv hfor hnew rfl, if_pos hmember]
  · rintro t m s v hv hfor hnew hmember hdrive
    rw [exec_arbBeat_of_newer hv hfor hnew rfl, if_neg hmember, if_pos hdrive]
  · rintro t m s v hv hfor hnew hmember hdrive
    rw [exec_arbBeat_of_newer hv hfor hnew rfl, if_neg hmember, if_neg (by simp [hdrive])]
  · rintro t m s v hv hfor hold hepoch
    simp only [exec, execArbBeat, ← hv]
    rw [if_neg (by simp [hfor, hepoch]), if_pos (by simp [hold])]
  · rintro t m u s v hv hfor hmember hepoch hu
    have hdrive : u.pair.driving = v.pair.driving := by
      rw [hu]
      split <;> rfl
    simp only [exec, execRevoke, ← hv, ← hu]
    rw [if_neg (by obtain h | h := hepoch <;> simp [hfor, hmember, h]), hdrive]
    exact (apply_ite Host.Outcome.next _ _ _).symm
  · rintro t s v hv hdrive hhigh
    simp [exec, execPeerActIn, State.checkConflict, State.mapPair, ← hv, hdrive, hhigh]
  · rintro t u s v hv hdrive hu
    have hcheck : v.checkConflict = v := by simp [State.checkConflict, hdrive]
    simp only [exec, execPeerActIn, ← hv, hcheck, Bool.not_true, Bool.and_false, Bool.and_true, Bool.false_eq_true, if_false,
      ← hu]
    have hpaired : u.paired = v.paired := by rw [hu]; rfl
    have hgranted : u.pair.granted = v.pair.granted := by rw [hu]; rfl
    have hdriving : u.pair.driving = false := by rw [hu]; exact hdrive
    simp [hpaired, hgranted, hdriving, apply_ite Host.Outcome.next]
  · rintro t a s v hv hwait hat hlow
    simp only [exec, execInterlockWaitEnd, ← hv, hwait]
    exact if_pos ⟨hat, by simp [hlow]⟩

/-- Settles O20: the condition of each event holds by its premises. -/
theorem pairMemberRuns : Obligations.PairMemberRuns := by
  refine ⟨?_, ?_, ?_, ?_, ?_, ?_⟩
  · rintro t s v hv hstep hdrive hleave hat htick
    simp only [exec, execTakeoverRampStart, ← hv]
    exact if_pos (by simp [hstep, hdrive, hleave, hat, htick])
  · rintro t s v hv hpaired hdrive hleave hms hat
    simp only [exec, execSelfRelease, ← hv]
    exact if_pos (by simp [hpaired, hdrive, hleave, hms, hat])
  · rintro t s v hv hpaired hlost hat
    simp only [exec, execArbiterLost, ← hv]
    exact if_pos (by simp [hpaired, hlost, hat])
  · rintro t a s v hv hcheck hat
    simp only [exec, execSelfCheckPass, ← hv, hcheck]
    exact if_pos hat
  · rintro t a s v hv hoff hat
    simp only [exec, execRevertHoldoffEnd, ← hv, hoff]
    exact if_pos hat
  · rintro t u w s v hv hcycle hbeat hu hw
    simp only [exec, execHeartbeatSend, ← hv, ← hu]
    rw [if_neg (by simp [hcycle, hbeat])]
    have hpaired : u.paired = v.paired := by rw [hu]; rfl
    have hchain : u.inChain = v.inChain := by rw [hu]; rfl
    have hrd : u.rd 0x4100 6 = v.rd 0x4100 6 := by rw [hu]; rfl
    simp only [hpaired, hchain, hrd, Bool.and_eq_true, bne_iff_ne, and_assoc, ← hw]

/-- An arbiter starts a pair once both members have been heard or 10 ms have passed (R415). -/
theorem exec_arbiterStart {t pair : Nat} {s v u : State} (hv : v = s.clock t) (hpair : pair < 16) (hruns : v.arbRuns = true)
    (hused : v.arbUsed pair = true) (hoff : (v.arbPair pair).on = false)
    (hheard : ((v.arbPair pair).m0.beatAt.isSome = true ∧ (v.arbPair pair).m1.beatAt.isSome = true) ∨
      (v.arbPair pair).startAt + 10000000 ≤ v.now)
    (hu : u = v.setArb pair { v.arbPair pair with on := true }) :
    exec (.arbiterStart t pair) s = .next (
      if v.rd 0x4101 2 = 1 then u.setArb pair { u.arbPair pair with st := 3 }
      else if u.firstHolder pair = 0 then u.noCandidate pair else u.grantTo pair (u.firstHolder pair)) := by
  simp only [exec, execArbiterStart, ← hv, ← hu]
  rw [if_pos (by simpa [hpair, hruns, hused, hoff] using hheard), hu, setArb_rd]
  exact (apply_ite Host.Outcome.next _ _ _).symm

/-- One window of a member of a pair that its arbiter has started (R417). -/
theorem exec_heartbeatWindow {t pair member : Nat} {a : ArbMember} {s v : State} (hv : v = s.clock t) (hpair : pair < 16)
    (hmember : member < 2) (hruns : v.arbRuns = true) (hused : v.arbUsed pair = true) (hon : (v.arbPair pair).on = true)
    (ha : a = (v.arbPair pair).member (member + 1)) (hwin : a.win ≠ v.ptp / 1000000) :
    exec (.heartbeatWindow t pair member) s = .next (
      if a.got then v.setArb pair ((v.arbPair pair).setMember (member + 1) { a with win := v.ptp / 1000000, got := false, missed := 0 })
      else
        let u := v.setArb pair ((v.arbPair pair).setMember (member + 1)
          { a with win := v.ptp / 1000000, missed := a.missed + 1, failed := a.failed || decide (3 ≤ a.missed + 1) })
        if a.missed + 1 = 3 ∧ (v.arbPair pair).holder = member + 1 then u.holderFailed pair false else u) := by
  simp only [exec, execHeartbeatWindow, ← hv, ← ha, apply_ite Host.Outcome.next]
  rw [if_neg (by simp [hpair, hmember, hruns, hused, hon, hwin])]

/-- Settles O21: the arbiter's start, the windows of its members, and the changes of the holder. -/
theorem pairArbiter : Obligations.PairArbiter := by
  refine ⟨?_, ?_, ?_, ?_, ?_, ?_, ?_, ?_, ?_, ?_⟩
  · rintro t pair s v hv hpair hruns hused hoff hheard hhost
    rw [exec_arbiterStart hv hpair hruns hused hoff hheard rfl, if_pos hhost]
  · rintro t pair s v hv hpair hruns hused hoff hheard hhost hfirst
    rw [exec_arbiterStart hv hpair hruns hused hoff hheard rfl, if_neg (by omega), if_neg hfirst]
  · rintro t pair s v hv hpair hruns hused hoff hheard hhost hfirst
    rw [exec_arbiterStart hv hpair hruns hused hoff hheard rfl, if_neg (by omega), if_pos hfirst]
  · rintro t m i k x u s v hv hfind hruns hx hu
    simp only [exec, execHeartbeat, ← hv, hfind]
    rw [if_neg (by simp [hruns])]
    subst hu hx
    exact congrArg Host.Outcome.next (if_congr (by rw [setMember_on]) rfl rfl)
  · rintro t pair member a s v hv hpair hmember hruns hused hon ha hwin hgot hkeep
    rw [exec_heartbeatWindow hv hpair hmember hruns hused hon ha hwin, if_neg (by simp [hgot])]
    exact congrArg _ (if_neg hkeep)
  · rintro t pair member a s v hv hpair hmember hruns hused hon ha hwin hgot hmissed hholder
    rw [exec_heartbeatWindow hv hpair hmember hruns hused hon ha hwin, if_neg (by simp [hgot])]
    refine congrArg _ ((if_pos ⟨by omega, hholder⟩).trans ?_)
    simp [hmissed]
  · rintro t pair member a s v hv hpair hmember hruns hused hon ha hwin hgot
    rw [exec_heartbeatWindow hv hpair hmember hruns hused hon ha hwin, if_pos hgot]
  · rintro t m i k s v hv hfind hruns hon hholder hst
    simp only [exec, execReleased, ← hv, hfind]
    rw [if_neg (by simp [hruns, hon, hholder]), if_pos hst]
  · rintro t m i k s v hv hfind hruns hon hholder hst hhost
    simp only [exec, execReleased, ← hv, hfind]
    rw [if_neg (by simp [hruns, hon, hholder]), if_neg (by omega), if_pos (by simp [hst, hhost])]
  · rintro t pair a s v hv hrevoke hruns hst hfail hat
    simp only [exec, execRevokeTimeout, ← hv, hrevoke]
    exact if_pos ⟨hruns, hst, hfail, hat⟩

end Sys2Proof.Proofs

/-!
The listening path and the housekeeping converter (R426 to R458).
-/

namespace Sys2Proof.Proofs

open Sys2Proof Sys2Proof.Machine

/-- The state at a frame of the matcher: ten frames more are taken. -/
def matcherTaken (v : State) (energies : List Nat) (energy : Nat) : State :=
  v.mapListen fun l => { l with hist := ((energy, energies) :: l.hist).take 200, since := l.since + 1, tenth := l.tenth - 10 }

theorem matcherFrame_of_closed {v : State} {energies scores : List Nat} {energy : Nat} (hact : (v.fn .listen).active = true)
    (hstage : v.listen.stage2 = true) (hten : 10 ≤ v.listen.tenth) (hwin : v.listen.win = none) :
    v.matcherFrame energies scores energy = (matcherTaken v energies energy, false) := by
  unfold State.matcherFrame
  rw [if_neg (by simp [hact, hstage, hten])]
  simp only [State.mapListen, matcherTaken, hwin]

theorem matcherFrame_of_open {v u : State} {energies scores : List Nat} {energy : Nat} {w x : MatchWin}
    (hact : (v.fn .listen).active = true) (hten : 10 ≤ v.listen.tenth) (hwin : v.listen.win = some w)
    (hx : x = { w with
      level := if w.level = 0 then energy else w.level
      low := if 10 * energy ≤ (if w.level = 0 then energy else w.level) then w.low + 1 else 0
      temps := w.temps.map fun x => (x.1, x.2.1, max x.2.2.1 (scores.getD x.1 0), scores.getD x.1 0) })
    (hu : u = (matcherTaken v energies energy).mapListen fun l => { l with win := some x }) :
    v.matcherFrame energies scores energy =
      if 10 ≤ x.low then
        ((u.decideWindow x (·.2.1)).1.mapListen fun l => { l with voice := false, pauseRun := 0, voiceRun := 0 },
          (u.decideWindow x (·.2.1)).2)
      else if x.openedAt + 2500000000 ≤ v.now then u.decideWindow x (·.2.2) else (u, false) := by
  unfold State.matcherFrame
  rw [if_neg (by simp [hact, hwin, hten]), hu, hx]
  simp only [State.mapListen, matcherTaken, hwin, decide_eq_true_eq]

/-- Settles O22: the frames by what the path and the matcher answer, the rest by the condition of each event. -/
theorem listeningPath : Obligations.ListeningPath := by
  refine ⟨?_, ?_, ?_, ?_, ?_, ?_, ?_, ?_⟩
  · rintro t env u d s v hv _ _ hframe
    simp only [exec, execListenFrame, ← hv, ← hframe, Bool.and_eq_true, beq_iff_eq]
  · rintro t energies scores energy s v hv hact hstage hten hwin
    simp only [exec, execMatcherFrame, ← hv, matcherFrame_of_closed hact hstage hten hwin]
    rfl
  · rintro t energies scores energy w x u r d s v hv hact hten hwin hx hu hr
    simp only [exec, execMatcherFrame, ← hv, matcherFrame_of_open hact hten hwin hx hu, ← hr, Bool.and_eq_true]
  · rintro t s v hv hgate hvoice hpilot hat
    simp only [exec, execHangEnd, ← hv]
    exact if_pos (by simp [hgate, hvoice, hpilot, hat])
  · rintro t s v hv hfront hok
    simp only [exec, execFrontEndSettled, ← hv]
    exact if_pos (by simp [hfront, hok])
  · rintro t s v hv hact hfeed hawake hmode hprearm hsplice hopen
    simp only [exec, execFeedSwitch, ← hv]
    refine if_pos ?_
    cases hwin : v.listen.win with
    | none => simp [hact, hfeed, hawake, hmode, hprearm, hsplice]
    | some w => simp [hact, hfeed, hawake, hmode, hprearm, hsplice, hopen w hwin]
  · rintro t s v rfl hst hleft
    exact if_pos ⟨hst, hleft⟩
  · rintro t r s v hv hr hact hdone
    simp only [exec, execReaderAtEnd, ← hv]
    exact if_pos (by simp [hr, hact, hdone])

/-- At the end of the delay, PWM_ACTION selects what happens (R445). -/
theorem exec_pwmDelayEnd {t a : Nat} {s v u : State} (hv : v = s.clock t) (hdelay : v.hk.delayAt = some a) (hat : a ≤ v.now)
    (hu : u = v.mapHk fun h => { h with delayAt := none }) :
    (v.rd 0x2200 8 = 0 → exec (.pwmDelayEnd t) s = .next (if v.hk.trigger = 2 then (u.hkTrigger 2).hkDispatch else u)) ∧
    (v.rd 0x2200 8 = 1 → exec (.pwmDelayEnd t) s = .next (u.urgentReq (0xE000 + v.rd 0x2200 0x15 % 0x2000) 4)) ∧
    (v.rd 0x2200 8 = 2 → exec (.pwmDelayEnd t) s =
      .next (if v.rd 0x2200 0x15 / 0x2000 = 7 then u.dropUrgent else u.urgentReq (v.rd 0x2200 0x15) 4)) := by
  have hrd (j : Nat) : u.rd 0x2200 j = v.rd 0x2200 j := by rw [hu]; rfl
  have htrigger : u.hk.trigger = v.hk.trigger := by rw [hu]; rfl
  refine ⟨fun h => ?_, fun h => ?_, fun h => ?_⟩
  all_goals
    simp only [exec, execPwmDelayEnd, ← hv, hdelay, ← hu, hrd, h, htrigger]
    exact if_pos hat

/-- The state in which an edge of the mains is noted. -/
def mainsNoted (v : State) : State := v.mapHk fun h => { h with edgeAt := if h.on then some v.now else none }

/-- An edge that does not follow another is noted. -/
theorem exec_mainsEdge_first {t : Nat} {s v : State} (hv : v = s.clock t)
    (h : v.windowMode = 0 ∨ v.hk.on = false ∨ v.hk.edgeAt = none) : exec (.mainsEdge t) s = .next (mainsNoted v) := by
  obtain ⟨u, hu⟩ : ∃ u, u = mainsNoted v := ⟨_, rfl⟩
  have hmode : u.windowMode = v.windowMode := by rw [hu]; rfl
  have hon : u.hk.on = v.hk.on := by rw [hu]; rfl
  rw [← hu]
  unfold mainsNoted at hu
  simp only [exec, execMainsEdge, ← hv, ← hu, hmode, hon]
  obtain h | h | h := h
  · exact if_pos (.inl h)
  · exact if_pos (.inr (by simp [h]))
  · simp only [h]
    exact ite_self _

/-- An edge that follows another gives a period, which counts when it is within 5 % of the mains frequency (R458). -/
theorem exec_mainsEdge_next {t a p : Nat} {l : List Nat} {s v u w : State} (hv : v = s.clock t) (hon : v.hk.on = true)
    (hmode : v.windowMode ≠ 0) (hedge : v.hk.edgeAt = some a) (hp : p = v.now - a) (hl : l = (p :: v.hk.periods).take 8)
    (hu : u = v.mapHk fun h => { h with edgeAt := some v.now }) (hw : w = u.mapHk fun h => { h with periods := l }) :
    exec (.mainsEdge t) s = .next (
      if 19 * 1000000000 ≤ 20 * mainsHz v.windowMode * p ∧ 20 * mainsHz v.windowMode * p ≤ 21 * 1000000000 then
        if l.length < 8 then w
        else if v.hk.locked = true then w.mapHk fun h => { h with locked := true, window := l.sum / 8 }
        else (w.mapHk fun h => { h with locked := true, window := l.sum / 8 }).hkInvalidate
      else u.loseMains.mapHk fun h => { h with periods := [] }) := by
  have hnoted : (v.mapHk fun h => { h with edgeAt := if h.on then some v.now else none }) = u := by
    rw [hu]
    simp [State.mapHk, hon]
  have hmode' : u.windowMode = v.windowMode := by rw [hu]; rfl
  have hon' : u.hk.on = true := by rw [hu]; exact hon
  have hnow : u.now = v.now := by rw [hu]; rfl
  have hperiods : u.hk.periods = v.hk.periods := by rw [hu]; rfl
  have hlocked : w.hk.locked = v.hk.locked := by rw [hw, hu]; rfl
  simp only [exec, execMainsEdge, ← hv, hnoted, hmode', hon', hnow, hedge, ← hp, hperiods, ← hl, ← hw, hlocked,
    apply_ite Host.Outcome.next]
  exact if_neg (by simp [hmode])

/-- Settles O23: conversions and triggers by their conditions, the mains lock by the period of the edge. -/
theorem housekeepingConverter : Obligations.HousekeepingConverter := by
  refine ⟨?_, ?_, ?_, ?_, ?_, ?_, ?_, ?_, ?_, ?_, ?_, ?_, ?_, ?_, ?_⟩
  · rintro t slice code c s v hv hslice hat hvalid
    refine gating_of_eq (f := fun s => s.conversionDone slice code) hv ?_
    simp only [State.conversionDone, hslice]
    rw [if_pos hat, if_neg (by simp [hvalid])]
  · rintro t slice code c s v hv hslice hat hinvalid
    refine gating_of_eq (f := fun s => s.conversionDone slice code) hv ?_
    simp only [State.conversionDone, hslice]
    rw [if_pos hat, if_pos hinvalid]
  · rintro t a s v hv hcal hat
    simp only [exec, execCalibrationComplete, ← hv, hcal]
    exact if_pos hat
  · rintro t s v hv hon huser hqueued hdue
    simp only [exec, execScanConversionDue, ← hv]
    exact if_pos (by simp [hon, huser, hqueued, hdue])
  · rintro t s v hv hon hscan htrigger hat
    simp only [exec, execHkTimer, ← hv]
    exact if_pos (by simp [hon, hscan, htrigger, hat])
  · rintro t p s v hv hon hp hat
    simp only [exec, execSupervisionScan, ← hv]
    refine if_pos ?_
    obtain h | ⟨a, ha, hle⟩ := hat
    · simp [hon, h]
    · rw [hp] at hle
      cases hrco : v.rcoRuns <;> simpa [hon, ha, hrco] using hle
  · rintro t a s v hv hdelay hat haction
    exact (exec_pwmDelayEnd hv hdelay hat rfl).1 haction
  · rintro t a s v hv hdelay hat haction
    exact (exec_pwmDelayEnd hv hdelay hat rfl).2.1 haction
  · rintro t a s v hv hdelay hat haction hslice
    rw [(exec_pwmDelayEnd hv hdelay hat rfl).2.2 haction, if_neg hslice]
  · rintro t a s v hv hdelay hat haction hslice
    rw [(exec_pwmDelayEnd hv hdelay hat rfl).2.2 haction, if_pos hslice]
  · rintro t s v hv hset hat
    simp only [exec, execRefSettled, ← hv]
    exact if_pos (by simp [hset, hat])
  · rintro t s v hv hfirst
    exact exec_mainsEdge_first hv hfirst
  · rintro t a p l u s v hv hon hmode hedge hp hlow hhigh hl hu
    rw [exec_mainsEdge_next hv hon hmode hedge hp hl rfl hu, if_pos ⟨hlow, hhigh⟩]
  · rintro t a u s v hv hon hmode hedge hout hu
    rw [exec_mainsEdge_next hv hon hmode hedge rfl rfl hu rfl, if_neg (by omega)]
  · rintro t a s v hv hedge hmode hat
    simp only [exec, execMainsLoss, ← hv, hedge]
    exact if_pos ⟨hmode, hat⟩

end Sys2Proof.Proofs

/-!
External memory, the lifecycle of a function, AVS and the steps between modes (R35 to R43, R86 to R107, R495 to R511).
-/

namespace Sys2Proof.Proofs

open Sys2Proof Sys2Proof.Machine

/-- Settles O24: the condition of each event holds by its premises. -/
theorem memoryInterface : Obligations.MemoryInterface := by
  refine ⟨?_, ?_, ?_, ?_, ?_, ?_, ?_, ?_, ?_, ?_, ?_, ?_, ?_, ?_⟩
  · rintro t s v hv hpower hphase htrain
    simp only [exec, execMemTrainingStart, ← hv]
    exact if_pos (by simp [hpower, hphase, htrain])
  · rintro t sizeMiB ranks s v hv htrain hsize hranks hpower hat
    simp only [exec, execMemReady, trainTime, ← hv]
    exact if_pos (by simp only [htrain, hsize, hpower, hat]; simpa using hranks)
  · rintro t s v hv htrain htries
    simp only [exec, execMemTrainFail, ← hv]
    rw [if_neg (by simp [htrain]), if_pos (by omega)]
  · rintro t s v hv htrain htries
    simp only [exec, execMemTrainFail, ← hv]
    rw [if_neg (by simp [htrain]), if_neg (by omega)]
  · rintro t s v hv hready hat
    simp only [exec, execZqCalibration, ← hv]
    exact if_pos (by simp [hready, hat])
  · rintro t drift s v hv hready hat
    simp only [exec, execDqsCheck, ← hv]
    exact if_pos (by simp [hready, hat])
  · rintro t code s v hv hready hat
    simp only [exec, execMr4Poll, ← hv]
    exact if_pos (by simpa [hat] using hready)
  · rintro t code s v hv hready hat
    simp only [exec, execMr4Poll, ← hv]
    exact if_pos (by simpa [hat] using hready)
  · rintro t s v rfl hlow
    exact congrArg _ (if_pos hlow)
  · rintro t s v rfl hstop
    exact congrArg _ (if_pos (by rw [hstop]; rfl))
  · rintro t s v rfl hoff
    exact congrArg _ (if_pos (by rw [hoff]; rfl))
  · rintro t s v rfl
    rfl
  · rintro t s v hv hauto hphase hclear hpower hsince hlast
    simp only [exec, execAutoRetrain, ← hv]
    refine if_pos ⟨hauto, hphase, hclear, hpower, hsince, ?_⟩
    obtain h | ⟨a, h, hat⟩ := hlast
    · simp only [h]
    · simp [h, hat]
  · rintro t tr s v rfl htr hdue hrun htick
    exact if_pos ⟨htr, hdue, hrun, htick⟩

/-- Settles O25: the phase of the function and its bound decide. -/
theorem functionLifecycle : Obligations.FunctionLifecycle := by
  refine ⟨?_, ?_, ?_, ?_⟩
  · rintro t f s v rfl hphase hwait hscan
    exact if_pos ⟨hphase, hwait, hscan⟩
  · rintro t f s v rfl hphase hover
    exact if_pos ⟨hphase, hover⟩
  · rintro t f s v rfl hphase hbound
    exact if_pos ⟨hphase, hbound⟩
  · rintro t f s v rfl hwaits
    exact if_pos hwaits

/-- Settles O26: the transfer under way decides what an answer does. -/
theorem adaptiveVoltage : Obligations.AdaptiveVoltage := by
  refine ⟨?_, ?_, ?_, ?_, ?_, ?_, ?_⟩
  · rintro t op s v hv hop hwait
    simp only [exec, execPmbusAck, ← hv, hop, hwait]
  · rintro t data s v hv hop hwait
    simp only [exec, execPmbusAck, ← hv, hop, hwait]
  · rintro t data mV word up s v hv hop hwait
    simp only [exec, execPmbusAck, ← hv, hop, hwait]
  · rintro t op s v hv hop hwait hlost hat
    simp only [exec, execPmbusRetry, ← hv]
    exact if_pos (by simp [hop, hwait, hlost, hat])
  · rintro t op s v hv hop hwait hlost hat
    simp only [exec, execAvsLostRetry, ← hv]
    exact if_pos (by simp [hop, hwait, hlost, hat])
  · rintro t s v hv hmode hat heval hfirst
    simp only [exec, execAvsHoldEnd, ← hv]
    exact if_pos (by simp [hmode, hat, heval, hfirst])
  · rintro t s v hv heval hcan hat
    simp only [exec, execAvsEvaluate, ← hv]
    exact if_pos (by simp [heval, hcan, hat])

/-- Settles O27: the transition under way, or the source of the wake, decides. -/
theorem modeSteps : Obligations.ModeSteps := by
  refine ⟨?_, ?_, ?_, ?_, ?_, ?_⟩
  · rintro t target a s v hv htrans hat htarget
    simp only [exec, execDescentBegin, ← hv, htrans]
    exact (if_pos hat).trans
      (congrArg (fun u : State => Host.Outcome.next (u.stopForDescent target)) (if_neg htarget))
  · rintro t target a s v hv htrans hquiet
    simp only [exec, execDomainSwitchOff, ← hv, htrans]
    exact if_pos hquiet
  · rintro t m s v hv hnext
    simp only [exec, execModeAdvance, ← hv, hnext]
  · rintro t src s v rfl hacoustic hbeacon
    cases src with
    | acoustic => exact absurd rfl hacoustic
    | beacon n g => exact absurd rfl (hbeacon n g)
    | _ => rfl
  · rintro t n target s v rfl htarget
    exact if_pos htarget
  · rintro t u s v hv htrans hat
    simp only [exec, execStaggerEnd, ← hv, htrans]
    exact if_pos hat

end Sys2Proof.Proofs

/-!
Reset, power-on, the start governor and the supplies (R80 to R98).
-/

namespace Sys2Proof.Proofs

open Sys2Proof Sys2Proof.Machine

/-- Settles O28: the state of the balls and of AVDD33 decides. -/
theorem resetAndPower : Obligations.ResetAndPower := by
  refine ⟨?_, ?_, ?_, ?_, ?_, ?_⟩
  · rintro t s v hv hheard hhigh hsupply
    simp only [exec, execResetNLow, ← hv]
    rw [if_neg (by simp [hheard, hhigh])]
    exact if_neg (by rw [State.mapMs, hsupply]; simp)
  · rintro t s v rfl hclamp hat
    exact if_pos ⟨hclamp, hat⟩
  · rintro t banks addr u w s v hv hheard hlow hmode hu hw
    have hsupply : u.ms.low = v.ms.low := by rw [hu]; rfl
    simp only [exec, execResetNHigh, ← hv, ← hu, ← hw, hsupply]
    rw [if_neg (by simp [hheard, hlow, hmode])]
    exact (apply_ite Host.Outcome.next _ _ _).symm
  · rintro t s v rfl
    rfl
  · rintro t s v rfl hlow
    exact if_pos hlow
  · rintro t epoch u w s v hv hmode hu hw
    have hdrawn : u.journal.drawn = v.journal.drawn := by rw [hu]; rfl
    have hhigh : w.ms.resetHigh = v.ms.resetHigh := by
      rw [hw, hu]
      split <;> rfl
    dsimp only at hw
    rw [← hdrawn] at hw
    simp only [exec, execPowerOn, ← hv, ← hu, ← hw, hhigh, Bool.and_eq_true]
    exact if_neg (by simp [hmode])

/-- Settles O29: the admitted start, the tripped rail, or the causes that have gone, decide. -/
theorem governorAndSupplies : Obligations.GovernorAndSupplies := by
  refine ⟨?_, ?_, ?_, ?_, ?_, ?_, ?_, ?_⟩
  · rintro t bal r s v hv hat hbal hr
    simp only [exec, execGovernorWindow, ← hv, ← hbal, ← hr]
    exact if_neg (by omega)
  · rintro t pd a s v hv hpd hplain hphase hadmit
    simp only [exec, execDomainPowerGood, ← hv]
    rw [if_neg (by simp [hphase, hadmit, hpd])]
    have hcases : pd = 0 ∨ pd = 2 ∨ pd = 4 ∨ pd = 5 ∨ pd = 6 ∨ pd = 11 := by
      simp at hplain
      omega
    obtain rfl | rfl | rfl | rfl | rfl | rfl := hcases <;> rfl
  · rintro t a s v hv hphase hadmit
    simp only [exec, execDomainPowerGood, ← hv]
    exact if_neg (by simp [hphase, hadmit])
  · rintro t pd a s v hv hphase hadmit hat
    simp only [exec, execDomainFault, ← hv]
    exact if_pos (by rw [hadmit]; exact ⟨hphase, by omega, hat⟩)
  · rintro t rail s v hv hrail
    refine gating_of_eq (f := fun s => s.tripAny rail) hv ?_
    cases rail with
    | avdd33 => exact absurd rfl hrail
    | _ => rfl
  · rintro t s v hv
    exact gating_of_eq (f := fun s => s.tripAny .avdd33) hv rfl
  · rintro t rail s v rfl
    rfl
  · rintro t s v hv hmode hcauses hclear hat hack hheld
    simp only [exec, execCrimsonResume, ← hv]
    exact if_pos ⟨hmode, hcauses, hclear, hat, hack, by rw [hheld]; rfl⟩

end Sys2Proof.Proofs

/-!
Snapshots, self-test items, the copies of the journal, boot and the recipe records (R57, R67, R394, R480, R515 to R530).
-/

namespace Sys2Proof.Proofs

open Sys2Proof Sys2Proof.Machine

/-- The end of an item with a pass (1) or a fail (2). -/
theorem exec_testItemComplete {t result n : Nat} {rest : List Nat} {s v u : State} (hv : v = s.clock t)
    (hleft : v.test.left = n :: rest) (htest : v.testing = true) (hquiet : v.testQuiet = true)
    (hresult : bits result 31 30 = 1 ∨ bits result 31 30 = 2)
    (hu : u = { v.wr 0x2461 (n + 1) (if bits result 31 30 = 1 then 0x4000FFFF else result % 2 ^ 24 + 2 * 2 ^ 30) with
      test := { v.test with left := rest, waiting := false } }) :
    exec (.testItemComplete t result) s =
      .next (if rest = [] then (if bits result 31 30 = 2 then u.event 0x0D 0x2460 else u).endTests
        else (if bits result 31 30 = 2 then u.event 0x0D 0x2460 else u).enterTest) := by
  subst hu
  simp only [exec, execTestItemComplete, ← hv, hleft, List.isEmpty_iff]
  exact if_pos (by simpa [htest, hquiet] using hresult)

theorem mirrorSkip_of_kept {s : State} (h : s.journal.lostFrom s.journal.mirrorNext = 0) : s.mirrorSkip = s := if_pos h

/-- Settles O30: the condition of each event holds by its premises. -/
theorem diagnosticsAndJournal : Obligations.DiagnosticsAndJournal := by
  refine ⟨?_, ?_, ?_, ?_, ?_, ?_, ?_, ?_, ?_⟩
  · rintro t x s v hv hsnap hat
    simp only [exec, execSnapAtReached, ← hv, hsnap]
    exact if_pos hat
  · rintro t result n rest u s v hv hleft htest hquiet hpass hu
    rw [exec_testItemComplete hv hleft htest hquiet (.inl hpass) rfl, if_pos hpass,
      if_neg (show ¬ bits result 31 30 = 2 by rw [hpass]; decide), hu]
  · rintro t result n rest u s v hv hleft htest hquiet hfail hu
    rw [exec_testItemComplete hv hleft htest hquiet (.inr hfail) rfl,
      if_neg (show ¬ bits result 31 30 = 1 by rw [hfail]; decide), if_pos hfail, hu]
  · rintro t e s v hv hon hready hnext hkept hentry
    have hjournal : v.bgWait.journal = v.journal := rfl
    simp only [exec, execMirrorCopy, ← hv]
    refine (if_pos (by simp [hon, hready, hnext])).trans ?_
    simp only [mirrorSkip_of_kept hkept, State.mapJournal, hjournal, hentry]
  · rintro t s v hv hready hpd hoff
    simp only [exec, execMirrorResume, ← hv]
    exact if_pos (by simp [hready, hpd, hoff])
  · rintro t s v hv hpush hkept hnext hlt hlt'
    have hskip : (v.mapJournal fun j => if j.lostFrom j.pushNext = 0 then j else { j with pushNext := j.oldestOnChip }) = v := by
      rw [State.mapJournal, if_pos hkept]
    simp only [exec, execJournalPush, ← hv, hskip]
    exact if_pos (by simp only [hpush, Bool.true_and, decide_eq_true_eq]; omega)
  · rintro t n s v hv hpush hkept hn hpos hat
    simp only [exec, execJournalPushResend, ← hv, hkept, if_pos, ← hn]
    exact if_pos (by simp [hpush, hpos, hat])
  · rintro t epoch ackSeq s v rfl hepoch hpush hpos hle
    exact if_pos ⟨hepoch, hpush, hpos, hle⟩
  · rintro t who u w s v hv hpd htimeout hat hu hw
    simp only [exec, execStageTimeout, ← hv, List.isEmpty_iff, ← hu, ← hw]
    exact (if_pos (by simp [hpd, htimeout, hat])).trans (by cases who <;> rfl)

/-- Settles O31: the condition of each event holds by its premises; VERIFY_SLOT by its newest journal entry. -/
theorem bootAndRecipes : Obligations.BootAndRecipes := by
  refine ⟨?_, ?_, ?_, ?_, ?_⟩
  · rintro t img eeprom s v hv hboot hsource himg hsupply hok
    simp only [exec, execBootImageAccepted, ← hv]
    exact if_pos (by simp only [hboot, hsupply, hok]; simpa [hsource] using himg)
  · rintro t u s v hv hboot hu
    have hrd : u.rd 0x2303 1 = v.rd 0x2303 1 := by
      rw [hu]
      split <;> rfl
    have hnow : u.now = v.now := by
      rw [hu]
      split <;> rfl
    simp only [exec, execBootFail, ← hv, ← hu, hrd, hnow]
    exact if_pos hboot
  · rintro t s v hv hpd hboot hfailed hat
    simp only [exec, execBootRetry, ← hv]
    exact if_pos (by simp [hpd, hboot, hfailed, hat])
  · rintro t r u s v hv hup hload hawake hdom hr hu
    obtain ⟨d, hd, hrun⟩ := hdom
    have hany : ((List.range 3).any fun d => (v.dom d).running) = true :=
      List.any_eq_true.2 ⟨d, List.mem_range.2 hd, hrun⟩
    simp only [exec, execRecipeRecords, ← hv, ← hr, ← hu, List.isEmpty_iff]
    exact if_pos (by simp [hup, hload, hawake, hany])
  · rintro t q data slotOk s v hv
    simp only [exec, execVerifySlot, ← hv]
    generalize v.transactWrite q 0x2303 0x0B data = u
    cases hring : u.journal.ring with
    | nil => simp
    | cons e l => simp [apply_ite Host.Outcome.next]

end Sys2Proof.Proofs

/-!
The host ports TWB0 and HSPI (R463 to R494).
-/

namespace Sys2Proof.Proofs

open Sys2Proof Sys2Proof.Machine

/-- A transfer of TWB0 while transactions execute: it ends a stretch, acts and sends its bytes. -/
theorem twb_of_up {v u : State} {code : Nat} {f : State → State × List Byte} (hsupply : v.ms.low.contains .vddioC = false)
    (hup : v.hostUp = true) (hu : u = v.mapHost fun h => { h with stretching := false }) :
    v.twb code f = (f u).1.twbSends code (f u).2 := by
  rw [State.twb, if_neg (by simp only [hsupply]; decide), if_neg (by simp [hup]), hu]

/-- Settles O32: each command code answers by its own function in the transfer. -/
theorem twb0Answers : Obligations.Twb0Answers := by
  refine ⟨?_, ?_, ?_, ?_, ?_, ?_, ?_, ?_, ?_, ?_, ?_, ?_⟩
  · rintro t u s v rfl hsupply hup hu
    exact congrArg _ (twb_of_up hsupply hup hu)
  · rintro t u s v rfl hsupply hup hu
    exact congrArg _ (twb_of_up hsupply hup hu)
  · rintro t taken r l u s v hv hsupply hup hu hout
    have hout' : u.twb0.out = r :: l := by rw [hu]; exact hout
    simp only [exec, execResponse, ← hv, twb_of_up hsupply hup hu, hout']
  · rintro t taken u s v hv hsupply hup hu hout hqueue
    have hout' : u.twb0.out = [] := by rw [hu]; exact hout
    have hqueue' : u.twb0.queue = [] := by rw [hu]; exact hqueue
    simp only [exec, execResponse, ← hv, twb_of_up hsupply hup hu, hout', hqueue']
    rfl
  · rintro t taken u s v hv hsupply hup hu hout hqueue
    have hout' : u.twb0.out = [] := by rw [hu]; exact hout
    have hqueue' : u.twb0.queue.isEmpty = false := by rw [hu]; simpa using hqueue
    simp only [exec, execResponse, ← hv, twb_of_up hsupply hup hu, hout', hqueue']
    rfl
  · rintro t r l u s v hv hsupply hup hu hout
    have hout' : u.twb0.out = r :: l := by rw [hu]; exact hout
    simp only [exec, execResponseLen, ← hv, twb_of_up hsupply hup hu, hout']
  · rintro t u s v hv hsupply hup hu hout
    have hout' : u.twb0.out = [] := by rw [hu]; exact hout
    simp only [exec, execResponseLen, ← hv, twb_of_up hsupply hup hu, hout']
  · rintro t r u s v hv hsupply hup hu hlast
    have hlast' : u.host.lastTwb = some r := by rw [hu]; exact hlast
    simp only [exec, execResend, ← hv, twb_of_up hsupply hup hu, hlast']
  · rintro t u s v hv hsupply hup hu hlast
    have hlast' : u.host.lastTwb = none := by rw [hu]; exact hlast
    simp only [exec, execResend, ← hv, twb_of_up hsupply hup hu, hlast']
  · rintro t u s v rfl hsupply hup hu
    exact congrArg _ (twb_of_up hsupply hup hu)
  · rintro t q len s v rfl
    rfl
  · rintro t code u s v hv hsupply hup hu hcode
    simp only [exec, execUnknownCommand, ← hv, twb_of_up hsupply hup hu]
    exact if_neg (by simp only [hcode]; decide)

/-- A request of TWB0 by the length of its bytes: the taken bytes fall short exactly where all of them do. -/
theorem twbRequest_eq (s : State) (x : TwbWrite) :
    s.twbRequest x =
      if s.pecFails x.pec = true then (s.bump 0x2300 9).event 0xB2 0x2300
      else if x.count < 8 ∨ x.bytes.length < x.count ∨ bodyFits (x.bytes.take x.count) = false then s.bump 0x2300 0x0A
      else s.arrive .twb0 { node := 0xFFFF, reply := true, body := x.bytes.take x.count } := by
  have hlen : (x.bytes.take x.count).length < x.count ↔ x.bytes.length < x.count := by
    rw [List.length_take]
    omega
  simp only [State.twbRequest, hlen, Bool.not_eq_true']

/-- Settles O33: requests by the transfer, the errors by the condition of each event. -/
theorem twb0RequestsAndErrors : Obligations.Twb0RequestsAndErrors := by
  refine ⟨?_, ?_, ?_, ?_, ?_, ?_, ?_, ?_, ?_, ?_, ?_⟩
  · rintro t x u w s v hv hsupply hup hu hw
    have hpec : u.pecFails x.pec = v.pecFails x.pec := by rw [hu]; rfl
    rw [← hpec, ← twbRequest_eq] at hw
    simp only [exec, execRequest, ← hv, twb_of_up hsupply hup hu, hw]
  · rintro t u s v hv hsupply hup hu
    simp only [exec, execStartInAck, ← hv, twb_of_up hsupply hup hu]
    exact if_pos (by simp only [hsupply, hup]; decide)
  · rintro t u s v hv hsupply hup hu
    simp only [exec, execSclTimeout, ← hv, twb_of_up hsupply hup hu]
    exact if_pos (by simp only [hsupply, hup]; decide)
  · rintro t u s v hv hsupply hup hu hstretch hout hat
    simp only [exec, execStretchTimeout, ← hv, twb_of_up hsupply hup hu]
    exact if_pos (by simp [hstretch, hup, hout, hat])
  · rintro t ack s v hv hmay hnotify hdue
    simp only [exec, execHostNotify, ← hv]
    exact if_pos (by simp [hmay, hnotify, hdue])
  · rintro t ack s v hv hmay hnotify hat
    simp only [exec, execNotifyRetry, ← hv]
    exact if_pos (by simp [hmay, hnotify, hat])
  · rintro t during s v rfl hcontrols
    exact (if_pos ⟨by decide, hcontrols⟩).trans (by cases during <;> rfl)
  · rintro t during u s v rfl hcontrols hu
    exact (if_pos ⟨by decide, hcontrols⟩).trans (by rw [hu]; cases during <;> rfl)
  · rintro t bus pulses s v rfl hbus hpd
    exact if_pos ⟨hbus, hpd⟩
  · rintro t pulses s v rfl hpd hstuck hat
    exact if_pos ⟨by decide, hpd, hstuck, hat⟩
  · rintro t pulses s v rfl hpd hstuck hat
    exact if_pos ⟨by decide, hpd, hstuck, hat⟩

/-- A frame of HSPI is counted, acts by whether the boot ROM waits for an image, and changes the lanes at its end. -/
theorem hspiFrame_of_open {v u w : State} {l : List Byte} {f g : State → State × List Byte}
    (hsupply : v.ms.low.contains .vddioD = false) (hopen : v.hostUp = true ∨ v.boot.pushWait = true) (hu : u = v.bump 0x2302 4)
    (hw : (if v.boot.pushWait = true then g u else f u) = (w, l)) :
    v.hspiFrame f g = w.mapHost fun h => { h with sentHspi := l, lanes := w.rd 0x2302 1 } := by
  have hwait : (v.bump 0x2302 4).boot.pushWait = v.boot.pushWait := rfl
  rw [State.hspiFrame, if_neg (by simp only [hsupply]; decide), if_neg (by obtain h | h := hopen <;> simp [h])]
  simp only [← hu] at hwait ⊢
  simp only [hwait, hw]

/-- The check of an image looks at no counter. -/
theorem imageOk_bump (s : State) (img : BootImage) : (s.bump 0x2302 4).imageOk img = s.imageOk img := by
  rw [State.imageOk, State.rd_bump_other s (by decide)]
  rfl

/-- A pushed image is refused without a piece, with a piece beyond its length, or when a check of it fails. -/
theorem pushFails_iff (v : State) (length : Nat) (img : BootImage) :
    ((v.bump 0x2302 4).boot.pushed.isEmpty = true ∨
        ((v.bump 0x2302 4).boot.pushed.any fun x => decide (length < x.1 + x.2)) = true ∨
        (!(v.bump 0x2302 4).imageOk img) = true) ↔
      v.boot.pushed = [] ∨ (∃ x ∈ v.boot.pushed, length < x.1 + x.2) ∨ v.imageOk img = false := by
  have hboot : (v.bump 0x2302 4).boot = v.boot := rfl
  rw [hboot, imageOk_bump, List.isEmpty_iff, List.any_eq_true]
  simp only [decide_eq_true_eq, Bool.not_eq_true']

/-- Settles O34: each frame by what it does in the boot ROM or in the firmware. -/
theorem hspiFrames : Obligations.HspiFrames := by
  refine ⟨?_, ?_, ?_, ?_, ?_, ?_, ?_, ?_, ?_, ?_, ?_, ?_, ?_, ?_⟩
  · rintro t body crc u w s v rfl hsupply hup hwait hu hw
    refine congrArg _ (hspiFrame_of_open hsupply (.inl hup) hu ?_)
    rw [if_neg (by rw [hwait]; decide), hw]
    simp only [Bool.not_eq_true', ne_eq, ite_not]
  · rintro t full r l u w s v rfl hsupply hup hwait hu hout hw
    have hout' : u.hspi.out = r :: l := by rw [hu]; exact hout
    refine congrArg _ (hspiFrame_of_open hsupply (.inl hup) hu ?_)
    rw [if_neg (by rw [hwait]; decide), hw]
    simp only [hout']
  · rintro t full u w s v rfl hsupply hup hwait hu hout hw
    have hout' : u.hspi.out = [] := by rw [hu]; exact hout
    refine congrArg _ (hspiFrame_of_open hsupply (.inl hup) hu ?_)
    rw [if_neg (by rw [hwait]; decide), hw]
    simp only [hout']
  · rintro t full u w s v rfl hsupply hup hwait hu hw
    have hlast : u.host.lastHspi = (s.clock t).host.lastHspi := by rw [hu]; rfl
    refine congrArg _ (hspiFrame_of_open hsupply (.inl hup) hu ?_)
    rw [hw, ← hlast]
    exact if_neg (by rw [hwait]; decide)
  · rintro t full u r s v rfl hsupply hopen hu hr
    exact congrArg _ (hspiFrame_of_open hsupply hopen hu (by rw [ite_self, hr]))
  · rintro t u w s v rfl hsupply hopen hu hw
    exact congrArg _ (hspiFrame_of_open hsupply hopen hu (by rw [ite_self, hw]))
  · rintro t offset data crc u w s v rfl hsupply hopen hu hw
    exact congrArg _ (hspiFrame_of_open hsupply hopen hu (by rw [ite_self, hw]; rfl))
  · rintro t length crc img u w s v rfl hsupply hwait hu hcrc hw
    refine congrArg _ (hspiFrame_of_open hsupply (.inr hwait) hu ?_)
    rw [if_pos hwait, if_pos hcrc, hw]
  · rintro t length crc img u w s v rfl hsupply hwait hu hcrc hbad hw
    refine congrArg _ (hspiFrame_of_open hsupply (.inr hwait) hu ?_)
    rw [if_pos hwait, if_neg (not_not_intro hcrc), if_pos (by rw [hu]; exact (pushFails_iff _ _ _).2 hbad), hw]
  · rintro t length crc img u w r s v rfl hsupply hwait hu hcrc hsome hfit hok hr hw
    refine congrArg _ (hspiFrame_of_open hsupply (.inr hwait) hu ?_)
    rw [if_pos hwait, if_neg (not_not_intro hcrc), if_neg, hw, hr]
    rw [hu, pushFails_iff]
    push Not
    exact ⟨hsome, hfit, by rw [hok]; decide⟩
  · rintro t body crc u s v rfl hsupply hwait hu
    exact congrArg _ (hspiFrame_of_open hsupply (.inr hwait) hu (if_pos hwait))
  · rintro t full u s v rfl hsupply hwait hu
    exact congrArg _ (hspiFrame_of_open hsupply (.inr hwait) hu (if_pos hwait))
  · rintro t full u s v rfl hsupply hwait hu
    exact congrArg _ (hspiFrame_of_open hsupply (.inr hwait) hu (if_pos hwait))
  · rintro t length crc img u s v rfl hsupply hup hwait hu
    exact congrArg _ (hspiFrame_of_open hsupply (.inl hup) hu (if_neg (by rw [hwait]; decide)))

end Sys2Proof.Proofs
